-- ==== Sys2Proof/Word.lean ====
section
/-! DEFINITION. The word types of the rig link: a character and the check register.
Counts, times, angles and levels are natural numbers, since the manual gives them as ranged quantities and never
as bits; only what travels as characters is a bit vector (10.1.1). -/

namespace Sys2Proof

/-- One character's eight data bits (10.1.1). -/
abbrev Byte := BitVec 8

/-- The 16-bit check register of a frame (R173). -/
abbrev Crc := BitVec 16

end Sys2Proof
end

