-- ==== Sys2Proof/Config.lean ====
section
/-! DEFINITION. What the part fixes: its sizes and the ranges of its fields, and the values the manual leaves open
(opaque: nothing can be proved of them beyond what the step itself bounds). -/

namespace Sys2Proof.Config

/-- The last value rig time can hold, 2^48 − 1 (R1). -/
def lastRigTime : Nat := 281474976710655
/-- The tick count's modulus, 2^64 (R1). -/
def tickModulus : Nat := 18446744073709551616
/-- The modulus of the 32-bit counts: cycles, slot counts, start counts, index count. -/
def mod32 : Nat := 4294967296
/-- The largest 32-bit value, at which the link counters and slip totals hold. -/
def max32 : Nat := 4294967295
/-- The largest 16-bit value, at which the log counts, the expiry count and the repeat counts hold. -/
def max16 : Nat := 65535

/-- Angle units in one engine cycle (5.1). -/
def cycleUnits : Nat := 46080
/-- Angle units in one revolution (5.1). -/
def revUnits : Nat := 23040
/-- Parts of one angle unit in the accumulator's fraction (R2). -/
def unitParts : Nat := 65536
/-- The accumulator's range: 46,080 × 65,536 (R2, R8). -/
def cycleParts : Nat := 3019898880
/-- The largest speed value, in quarter-rpm (R4). -/
def maxSpeed : Nat := 40000

def channels : Nat := 32
/-- Channels 0..15 are bank A; the rest are bank D (R22). -/
def bankA : Nat := 16
def patterns : Nat := 8
/-- Segment slots (R47). -/
def slots : Nat := 16384
/-- The most records one channel queue holds (R47). -/
def queueLimit : Nat := 4096
def eventSlots : Nat := 16
def groups : Nat := 8
def triggers : Nat := 8
def monitors : Nat := 16
def maxMonitor : Nat := 60000
/-- The most records the capture ring holds (R93). -/
def ringLimit : Nat := 512
def entries : Nat := 128
def lines : Nat := 64
def cellsPerLine : Nat := 7
def buses : Nat := 4
/-- The short budget: lines that may be shorted to ground or battery at once (R136). -/
def shortBudget : Nat := 8
def maxCurrent : Nat := 10000
/-- Frames in the inbound queue, and replies in the reply queue, at most (R173, R175). -/
def linkQueue : Nat := 8
/-- The longest body of a frame (R172). -/
def maxBody : Nat := 1024
/-- A frame in progress is discarded this long after its sync, in µs (R172). -/
def frameLimit : Nat := 2000
/-- Fine ticks of 25 ns in one microsecond (R10, R33). -/
def finePerMicro : Nat := 40
/-- The part code (R181). -/
def partCode : Nat := 3264

/-- FREE VALUE: the part's revision number, which STATUS_GET and the reset-done notice report (R181, R183) and the
manual does not state. Log entry 2. -/
opaque revision : Nat

/-- FREE VALUE: the number of body bytes of the n-th frame the part forms. The manual gives the contents of the ACK and
notice bodies but the byte layout of few of them, and the frame's time on the line depends on its length (R178). The step
holds the value to 1,024, as R178 says, and above the bytes that 10.8 lays out. Log entry 1. -/
opaque bodyLength : Nat → Nat

/-- FREE VALUE: where in the body of the n-th frame the part forms the definition of an entry's snapshot stands (R150): how many
of the bytes of free value come before its 62 bytes, held to those there are. Log entry 1. -/
opaque recordPlace : Nat → Nat

/-- FREE VALUE: the i-th body byte of the n-th frame the part forms, where 10.8 lays out no byte there. Log entry 1. -/
opaque bodyByte : Nat → Nat → BitVec 8

end Sys2Proof.Config
end

