-- ==== Sys2Proof/Syntax.lean ====
section
/-! DEFINITION. The commands of the part, one constructor for each row of spec/opcode_table.json, and the records they
carry. A request's operands are its tag and the fields of its body in the order of 10.8, as the frame carries them
(unchecked); an event's operands are what the outside supplies with it. -/

namespace Sys2Proof

/-- A frame the receiver has trusted: kind, tag and body (10.1.1). -/
structure Frame where
  kind : Byte
  tag  : Byte
  body : List Byte
  deriving DecidableEq, Repr

/-- The basis a segment's length is counted in (R49). -/
inductive Basis where
  | time
  | angle
  deriving DecidableEq, Repr

/-- The shape of a segment (R49). -/
inductive Shape where
  | hold
  | ramp
  deriving DecidableEq, Repr

/-- A segment record as SEG_APPEND carries it (10.8): values are signed, optional fields may be absent. -/
structure RawSegment where
  basis      : Basis
  length     : Nat
  shape      : Shape
  startValue : Int
  endValue   : Option Int
  secondary  : Option Nat
  marker     : Option Nat
  endFlag    : Bool
  deriving DecidableEq, Repr

/-- One 20-byte record of SEG_APPEND (10.8); a type byte other than 0 and 1 is an unknown record type (R51). -/
inductive RawRecord where
  | segment (r : RawSegment)
  | loop (k r : Nat)
  | unknown (type : Nat)
  deriving DecidableEq, Repr

/-- The configuration record as CHANNEL_CONFIG carries it (R23, 10.8). -/
structure RawConfig where
  kind         : Nat
  parkValue    : Nat
  lowLevel     : Option Nat
  highLevel    : Option Nat
  pattern      : Option Nat
  pulseWidth   : Option Nat
  pwmFrequency : Option Nat
  lowWater     : Option Nat
  startGroup   : Option Nat
  deriving DecidableEq, Repr

/-- The pattern record as WHEEL_DEFINE carries it (R37, 10.8): the count of missing positions and the eight bytes. -/
structure RawPattern where
  span         : Nat
  positions    : Nat
  width        : Nat
  missingCount : Nat
  missing      : List Nat
  offset       : Nat
  polarity     : Nat
  deriving DecidableEq, Repr

/-- The condition record as carried (R68, 10.8). -/
inductive RawCondition where
  | now
  | atTime (time : Nat)
  | atAngle (angle : Nat) (fromCycle : Option Nat)
  | onEvent (slot count : Nat)
  | unknown (kind : Nat)
  deriving DecidableEq, Repr

/-- The chatter of an ELECTRICAL definition (R127). -/
structure Chatter where
  onTime  : Nat
  offTime : Nat
  cycles  : Nat
  deriving DecidableEq, Repr

/-- The class fields of an ELECTRICAL definition as carried (R127, 10.8): the line count and the eight line bytes. -/
structure RawElectrical where
  kind       : Nat
  lineCount  : Nat
  lines      : List Nat
  bus        : Nat
  resistance : Nat
  isolate    : Bool
  tripLimit  : Option Nat
  tripTime   : Option Nat
  chatter    : Option Chatter
  deriving DecidableEq, Repr

/-- The class fields of a SIGNAL definition as carried (R128, 10.8). -/
structure RawSignal where
  channel  : Nat
  kind     : Nat
  value    : Int
  position : Nat
  count    : Nat
  deriving DecidableEq, Repr

/-- The class of a definition and its class fields as carried. -/
inductive RawClass where
  | electrical (e : RawElectrical)
  | signal (s : RawSignal)
  | unknown (cls : Nat)
  deriving DecidableEq, Repr

/-- The duration as carried (R128, 10.8). -/
inductive RawDuration where
  | time (length : Nat)
  | angle (length : Nat)
  | untilEvent (slot : Nat)
  | untilDisarm
  | unknown (kind : Nat)
  deriving DecidableEq, Repr

/-- The fault entry definition as ENTRY_DEFINE carries it (10.8). -/
structure RawEntry where
  entry       : Nat
  cls         : RawClass
  condition   : RawCondition
  latestStart : Option Nat
  duration    : RawDuration
  repeatCount : Option Nat
  spacing     : Option Nat
  deriving DecidableEq, Repr

/-- One enable setting of CAPTURE_CFG (R97). -/
structure CaptureSetting where
  monitor : Nat
  up      : Bool
  down    : Bool
  deriving DecidableEq, Repr

/-- The seven cells of a line, in the order of CELL_RESTORE's codes 0..6 (R101, 10.8). -/
inductive CellId where
  | series
  | ground
  | battery
  | bus0
  | bus1
  | bus2
  | bus3
  deriving DecidableEq, Repr

/-- What has come over a stored record: an error of one bit, which the check code corrects, or one it cannot correct
(3.6.1, R64, R65). -/
inductive SlotError where
  | correctable
  | uncorrectable
  deriving DecidableEq, Repr

/-- One change of what stands outside the part's logic since the tick before: a pin's level, a sense's current, a cell's
contact, or a bit error that has come into a segment slot. -/
inductive PinChange where
  | trigger (input : Nat) (high : Bool)
  | monitor (monitor : Nat) (millivolts : Int)
  | lineCurrent (line : Nat) (milliamps : Nat)
  | busCurrent (bus : Nat) (milliamps : Nat)
  | contact (line : Nat) (cell : CellId) (closed : Bool)
  | slotError (slot : Nat) (error : SlotError)
  deriving DecidableEq, Repr

/-- What can hold a waiting form: a fault entry or a start group (4.1.1). -/
inductive Waiter where
  | entry (n : Nat)
  | group (n : Nat)
  deriving DecidableEq, Repr

/-- Whose verified step is read back: an entry's insertion or release, or the restore of MATRIX_CLEAR (R106, R120). -/
inductive StepOwner where
  | entry (n : Nat)
  | restore
  deriving DecidableEq, Repr

/-- The commands: one constructor for each row of spec/opcode_table.json, in the table's order. -/
inductive Instr where
  | statusGet (tag : Nat)
  | linkReset (tag : Nat)
  | noticeLevel (tag kind index level : Nat)
  | errlogGet (tag : Nat)
  | errlogClear (tag cls : Nat)
  | guardSet (tag : Nat) (period rate : Option Nat)
  | keepalive (tag value : Nat)
  | safeEnter (tag : Nat)
  | safeLeave (tag : Nat)
  | engineGet (tag : Nat)
  | engineSpeed (tag target rate : Nat)
  | engineMode (tag mode channel : Nat)
  | engineAngleSet (tag angle cycle : Nat)
  | engineFollowCfg (tag counts offset tolerance : Nat)
  | channelConfig (tag channel : Nat) (config : RawConfig)
  | channelStart (tag channel : Nat)
  | channelStop (tag channel : Nat)
  | channelDisable (tag channel : Nat)
  | channelGet (tag channel : Nat)
  | wheelDefine (tag index : Nat) (pattern : RawPattern)
  | segAppend (tag channel count : Nat) (records : List RawRecord)
  | loopBreak (tag channel : Nat)
  | slotConfig (tag slot kind byte2 byte3 : Nat)
  | slotGet (tag slot : Nat)
  | triggerCfg (tag input : Nat) (width : Option Nat)
  | groupArm (tag group : Nat) (condition : RawCondition)
  | groupCancel (tag group : Nat)
  | monitorConfig (tag monitor high low : Nat)
  | monitorRead (tag monitor : Nat)
  | captureCfg (tag : Nat) (batch flush : Option Nat) (listLength : Nat) (settings : List CaptureSetting)
  | patrolCfg (tag : Nat) (settle interval wear : Option Nat)
  | cellRestore (tag line cell : Nat)
  | matrixGet (tag : Nat) (line : Option Nat)
  | matrixClear (tag : Nat)
  | entryDefine (tag : Nat) (definition : RawEntry)
  | entryArm (tag entry : Nat)
  | entryDisarm (tag entry : Nat)
  | entryDelete (tag entry : Nat)
  | entryGet (tag entry : Nat)
  | badKind (frame : Frame)
  | frameReceived (last : Byte)
  | linkFraming
  | frameLengthError (second : Byte)
  | linkTruncated
  | transmitStart
  | transmitEnd
  | powerOn
  | supplyDip
  | microsecondTick (changes : List PinChange)
  | rigTimeHold (changes : List PinChange)
  | millisecondUpdate
  | encoderCount (a b : Bool)
  | indexPulse (z : Bool)
  | indexMissing
  | levelTick
  | pwmPeriodEnd (channel : Nat)
  | pulsePeriodEnd (channel : Nat)
  | pulseTrainStart (channel : Nat)
  | channelRunStart (channel : Nat)
  | segmentEnd (channel : Nat)
  | angleSegmentEnd (channel : Nat)
  | channelResume (channel : Nat)
  | conditionAtTime (waiter : Waiter)
  | triggerAccept (input : Nat)
  | monitorSample
  | captureFlush
  | currentReading
  | trip (entry : Nat)
  | stepReadback (owner : StepOwner)
  | heldCloseGiven (line : Nat)
  | fastReleaseReadback (entry : Nat)
  | isolationReadback (line : Nat)
  | patrolCheck
  | chatterToggle (entry : Nat)
  | entryMissed (entry : Nat)
  | durationTimeEnd (entry : Nat)
  | durationAngleEnd (entry : Nat)
  | guardExpiry
  | characterReceived (char : Byte)
  deriving DecidableEq, Repr

end Sys2Proof
end

