-- ==== Sys2Proof/Decode.lean ====
section
/-! DEFINITION. From characters to commands: the frame's length and check (10.1.1, R173), the fields of the bodies (10.8)
and the interpreter's envelope checks (R174). The opcode table gives no row any bits, so `decodeTableWord` reads none. -/

namespace Sys2Proof

/-! ### Characters and fields -/

/-- The sync byte (10.1.1). -/
def syncByte : Byte := 0xD5#8

/-- A field of several bytes, most significant byte first (10.1.1). -/
def beNat (bs : List Byte) : Nat := bs.foldl (fun n b => n * 256 + b.toNat) 0

/-- A signed field of `k` bytes in two's complement (10.1.1). -/
def beInt (k : Nat) (bs : List Byte) : Int :=
  let n := beNat bs
  if 2 * n < 256 ^ k then (n : Int) else (n : Int) - ((256 ^ k : Nat) : Int)

/-- The bytes at an offset of a record. -/
def bytesAt (at0 len : Nat) (bs : List Byte) : List Byte := (bs.drop at0).take len

/-- An unsigned field at an offset of a record. -/
def field (at0 len : Nat) (bs : List Byte) : Nat := beNat (bytesAt at0 len bs)

/-- A signed field at an offset of a record. -/
def signedField (at0 len : Nat) (bs : List Byte) : Int := beInt len (bytesAt at0 len bs)

/-- One bit of the byte at an offset. -/
def flag (at0 bit : Nat) (bs : List Byte) : Bool := (bs.getD at0 0#8).getLsbD bit

/-- An optional field, present where its presence bit is set (10.8.1). -/
def optionalField (present : Bool) (at0 len : Nat) (bs : List Byte) : Option Nat :=
  if present then some (field at0 len bs) else none

/-! ### The frame's check (R173) -/

/-- One bit shifted into the check register: polynomial 1021 hex, not reflected. -/
def crcBit (r : Crc) (bit : Bool) : Crc :=
  if (r.msb ^^ bit) then (r <<< 1) ^^^ 0x1021#16 else r <<< 1

/-- One byte, most significant bit first. -/
def crcByte (r : Crc) (b : Byte) : Crc :=
  [7, 6, 5, 4, 3, 2, 1, 0].foldl (fun q i => crcBit q (b.getLsbD i)) r

/-- The CRC-16 of a run of bytes: the register starts at FFFF hex and is not inverted at the end. -/
def crc16 (bs : List Byte) : Crc := bs.foldl crcByte 0xFFFF#16

/-! ### The frame in progress (R171, R172) -/

/-- The body length a frame in progress announces, once its two length bytes are in. -/
def announcedLength (bytes : List Byte) : Nat := field 1 2 bytes

/-- Whether the bytes received, sync included, are a whole frame: 7 bytes and the body. -/
def frameComplete (bytes : List Byte) : Bool :=
  3 ≤ bytes.length && announcedLength bytes ≤ Config.maxBody && bytes.length = 7 + announcedLength bytes

/-- Whether the second length byte has just come in and gives a length above 1,024. -/
def lengthTooLong (bytes : List Byte) : Bool :=
  bytes.length = 3 && Config.maxBody < announcedLength bytes

/-- Whether a whole frame's check field is the CRC of its length, kind, tag and body. -/
def checkHolds (bytes : List Byte) : Bool :=
  crc16 (bytesAt 1 (4 + announcedLength bytes) bytes) = BitVec.ofNat 16 (field (5 + announcedLength bytes) 2 bytes)

/-- The kind byte received, 0 if none was (9.2). -/
def kindByteOf (bytes : List Byte) : Nat := field 3 1 bytes

/-- The frame a whole run of bytes holds. -/
def frameOf (bytes : List Byte) : Frame where
  kind := bytes.getD 3 0#8
  tag := bytes.getD 4 0#8
  body := bytesAt 5 (announcedLength bytes) bytes

/-! ### The bodies (10.8) -/

/-- The body lengths each request kind allows (10.8); `none` for a kind byte the table does not list. -/
def lengthAllowed (kind len : Nat) : Option Bool :=
  match kind with
  | 0x01 => some (len = 0)
  | 0x02 => some (len = 0)
  | 0x03 => some (len = 3)
  | 0x04 => some (len = 0)
  | 0x05 => some (len = 1)
  | 0x06 => some (len = 5)
  | 0x07 => some (len = 4)
  | 0x08 => some (len = 0)
  | 0x09 => some (len = 0)
  | 0x10 => some (len = 0)
  | 0x11 => some (len = 4)
  | 0x12 => some (len = 2)
  | 0x13 => some (len = 6)
  | 0x14 => some (len = 6)
  | 0x18 => some (len = 21)
  | 0x19 => some (len = 1)
  | 0x1A => some (len = 1)
  | 0x1B => some (len = 1)
  | 0x1C => some (len = 1)
  | 0x1D => some (len = 17)
  | 0x1E => some (22 ≤ len && len ≤ 642 && (len - 2) % 20 = 0)
  | 0x1F => some (len = 1)
  | 0x20 => some (len = 6)
  | 0x21 => some (len = 1)
  | 0x22 => some (len = 4)
  | 0x23 => some (len = 13)
  | 0x24 => some (len = 1)
  | 0x28 => some (len = 5)
  | 0x29 => some (len = 1)
  | 0x2A => some (4 ≤ len && len ≤ 36 && len % 2 = 0)
  | 0x30 => some (len = 5)
  | 0x31 => some (len = 2)
  | 0x32 => some (len = 0 || len = 1)
  | 0x33 => some (len = 0)
  | 0x38 => some (len = 62)
  | 0x39 => some (len = 1)
  | 0x3A => some (len = 1)
  | 0x3B => some (len = 1)
  | 0x3C => some (len = 1)
  | _ => none

/-- A condition record of 12 bytes. -/
def conditionOf (bs : List Byte) : RawCondition :=
  match field 0 1 bs with
  | 0 => .now
  | 1 => .atTime (field 2 6 bs)
  | 2 => .atAngle (field 2 2 bs) (optionalField (flag 1 0 bs) 4 4 bs)
  | 3 => .onEvent (field 2 1 bs) (field 3 2 bs)
  | k => .unknown k

/-- A segment or loop record of 20 bytes. -/
def recordOf (bs : List Byte) : RawRecord :=
  match field 0 1 bs with
  | 0 =>
    .segment
      { basis := if flag 1 0 bs then .angle else .time
        length := field 2 4 bs
        shape := if flag 1 1 bs then .ramp else .hold
        startValue := signedField 6 4 bs
        endValue := if flag 1 4 bs then some (signedField 10 4 bs) else none
        secondary := optionalField (flag 1 5 bs) 14 4 bs
        marker := optionalField (flag 1 6 bs) 18 1 bs
        endFlag := flag 1 2 bs }
  | 1 => .loop (field 2 1 bs) (field 3 2 bs)
  | t => .unknown t

/-- The records of a SEG_APPEND body, 20 bytes each. -/
def recordsOf (bs : List Byte) : List RawRecord :=
  (List.range ((bs.length - 2) / 20)).map fun i => recordOf (bytesAt (2 + 20 * i) 20 bs)

/-- The settings of a CAPTURE_CFG body, two bytes each. -/
def settingsOf (bs : List Byte) : List CaptureSetting :=
  (List.range ((bs.length - 4) / 2)).map fun i =>
    { monitor := field (4 + 2 * i) 1 bs, up := flag (5 + 2 * i) 0 bs, down := flag (5 + 2 * i) 1 bs }

/-- The configuration record of a CHANNEL_CONFIG body. -/
def configOf (bs : List Byte) : RawConfig where
  kind := field 1 1 bs
  parkValue := field 3 4 bs
  lowLevel := optionalField (flag 2 0 bs) 7 2 bs
  highLevel := optionalField (flag 2 1 bs) 9 2 bs
  pattern := optionalField (flag 2 2 bs) 11 1 bs
  pulseWidth := optionalField (flag 2 3 bs) 12 2 bs
  pwmFrequency := optionalField (flag 2 4 bs) 14 4 bs
  lowWater := optionalField (flag 2 5 bs) 18 2 bs
  startGroup := optionalField (flag 2 6 bs) 20 1 bs

/-- The pattern record of a WHEEL_DEFINE body. -/
def patternOf (bs : List Byte) : RawPattern where
  span := field 1 1 bs
  positions := field 2 1 bs
  width := field 3 2 bs
  missingCount := field 5 1 bs
  missing := (bytesAt 6 8 bs).map fun b => b.toNat
  offset := field 14 2 bs
  polarity := field 16 1 bs

/-- A fault entry definition of 62 bytes. -/
def definitionOf (bs : List Byte) : RawEntry where
  entry := field 0 1 bs
  cls :=
    match field 1 1 bs with
    | 0 =>
      .electrical
        { kind := field 3 1 bs
          lineCount := field 4 1 bs
          lines := (bytesAt 5 8 bs).map fun b => b.toNat
          bus := field 13 1 bs
          resistance := field 14 1 bs
          isolate := flag 2 4 bs
          tripLimit := optionalField (flag 2 1 bs) 15 2 bs
          tripTime := optionalField (flag 2 2 bs) 17 4 bs
          chatter :=
            if flag 2 3 bs then
              some { onTime := field 21 4 bs, offTime := field 25 4 bs, cycles := field 29 2 bs }
            else none }
    | 1 =>
      .signal
        { channel := field 3 1 bs
          kind := field 4 1 bs
          value := signedField 5 4 bs
          position := field 9 1 bs
          count := field 10 1 bs }
    | c => .unknown c
  condition := conditionOf (bytesAt 35 12 bs)
  latestStart := optionalField (flag 2 0 bs) 47 4 bs
  duration :=
    match field 51 1 bs with
    | 0 => .time (field 52 4 bs)
    | 1 => .angle (field 52 4 bs)
    | 2 => .untilEvent (field 52 1 bs)
    | 3 => .untilDisarm
    | k => .unknown k
  repeatCount := optionalField (flag 2 5 bs) 56 2 bs
  spacing := optionalField (flag 2 6 bs) 58 4 bs

/-- The request a body of an allowed length spells, by its kind byte (10.8). -/
def requestOf (f : Frame) : Instr :=
  let t := f.tag.toNat
  let b := f.body
  match f.kind.toNat with
  | 0x01 => .statusGet t
  | 0x02 => .linkReset t
  | 0x03 => .noticeLevel t (field 0 1 b) (field 1 1 b) (field 2 1 b)
  | 0x04 => .errlogGet t
  | 0x05 => .errlogClear t (field 0 1 b)
  | 0x06 => .guardSet t (optionalField (flag 0 0 b) 1 2 b) (optionalField (flag 0 1 b) 3 2 b)
  | 0x07 => .keepalive t (field 0 4 b)
  | 0x08 => .safeEnter t
  | 0x09 => .safeLeave t
  | 0x10 => .engineGet t
  | 0x11 => .engineSpeed t (field 0 2 b) (field 2 2 b)
  | 0x12 => .engineMode t (field 0 1 b) (field 1 1 b)
  | 0x13 => .engineAngleSet t (field 0 2 b) (field 2 4 b)
  | 0x14 => .engineFollowCfg t (field 0 2 b) (field 2 2 b) (field 4 2 b)
  | 0x18 => .channelConfig t (field 0 1 b) (configOf b)
  | 0x19 => .channelStart t (field 0 1 b)
  | 0x1A => .channelStop t (field 0 1 b)
  | 0x1B => .channelDisable t (field 0 1 b)
  | 0x1C => .channelGet t (field 0 1 b)
  | 0x1D => .wheelDefine t (field 0 1 b) (patternOf b)
  | 0x1E => .segAppend t (field 0 1 b) (field 1 1 b) (recordsOf b)
  | 0x1F => .loopBreak t (field 0 1 b)
  | 0x20 => .slotConfig t (field 0 1 b) (field 1 1 b) (field 2 1 b) (field 3 1 b)
  | 0x21 => .slotGet t (field 0 1 b)
  | 0x22 => .triggerCfg t (field 0 1 b) (optionalField (flag 1 0 b) 2 2 b)
  | 0x23 => .groupArm t (field 0 1 b) (conditionOf (bytesAt 1 12 b))
  | 0x24 => .groupCancel t (field 0 1 b)
  | 0x28 => .monitorConfig t (field 0 1 b) (field 1 2 b) (field 3 2 b)
  | 0x29 => .monitorRead t (field 0 1 b)
  | 0x2A =>
    .captureCfg t (optionalField (flag 0 0 b) 1 1 b) (optionalField (flag 0 1 b) 2 1 b) (field 3 1 b) (settingsOf b)
  | 0x30 =>
    .patrolCfg t (optionalField (flag 0 0 b) 1 2 b) (optionalField (flag 0 1 b) 3 1 b)
      (optionalField (flag 0 2 b) 4 1 b)
  | 0x31 => .cellRestore t (field 0 1 b) (field 1 1 b)
  | 0x32 => .matrixGet t (optionalField (decide (b.length = 1)) 0 1 b)
  | 0x33 => .matrixClear t
  | 0x38 => .entryDefine t (definitionOf b)
  | 0x39 => .entryArm t (field 0 1 b)
  | 0x3A => .entryDisarm t (field 0 1 b)
  | 0x3B => .entryDelete t (field 0 1 b)
  | 0x3C => .entryGet t (field 0 1 b)
  | _ => .badKind f

/-- The command a trusted frame spells: BAD_KIND for one the interpreter's envelope checks refuse (R174), whose three
refusals that one row of the table covers. -/
def decodeFrame (f : Frame) : Instr :=
  if f.tag = 0#8 then .badKind f
  else
    match lengthAllowed f.kind.toNat f.body.length with
    | some true => requestOf f
    | _ => .badKind f

/-- The opcode table's rows carry no bits, so no word spells a command (log entry 31). -/
def decodeTableWord (_nbits _w : Nat) : Option Instr := none

end Sys2Proof
end

