-- ==== Sys2Proof/Machine/Data.lean ====
section
/-! DEFINITION. The data the part holds, block by block, and the bodies of its replies and notices. Each type names the
rule that gives it. Times kept for reckoning are tick counts (R1); `Stamp.time` and every reported time is rig time. -/

namespace Sys2Proof.Machine

/-! ### The angle engine (R1 to R21) -/

/-- The engine's modes. -/
inductive Mode where
  | fixed
  | track
  | follow
  deriving DecidableEq, Repr

/-- The motion status (R4). -/
inductive Motion where
  | stopped
  | ramping
  | steady
  deriving DecidableEq, Repr

/-- Rig time, integer angle and cycle count of a tick (R2, R3). -/
structure Stamp where
  time  : Nat
  angle : Nat
  cycle : Nat
  deriving DecidableEq, Repr

/-- Rig time and the tick count (R1). -/
structure Clock where
  rigTime : Nat
  ticks   : Nat
  deriving DecidableEq, Repr

/-- What has come about on the present tick and has not been taken on it (MODEL's own field, log entry 6): the cadences,
and the tick's test of the flush interval (R95). -/
structure Marks where
  milli   : Bool
  level   : Bool
  monitor : Bool
  current : Bool
  flush   : Bool
  deriving DecidableEq, Repr

/-- The state of the angle engine (R2 to R17, R21). `acc` is the combined value of R2. -/
structure Engine where
  mode         : Mode
  trackChannel : Option Nat
  internal     : Nat
  speed        : Nat
  target       : Nat
  rampRate     : Nat
  increment    : Nat
  motion       : Motion
  acc          : Nat
  cycle        : Nat
  counts       : Nat
  offset       : Nat
  tolerance    : Nat
  step         : Nat
  indexError   : Int
  indexCount   : Nat
  indexTime    : Nat
  sinceIndex   : Nat
  missingMark  : Bool
  windowNet    : Int
  windowCounts : Nat
  deriving DecidableEq, Repr

/-- One motion of the accumulator, as the engine hands it to its neighbours (R2): direction, amount in 1/65,536 units,
integer angle and cycle count before and after. -/
structure Move where
  forward     : Bool
  amount      : Nat
  angleBefore : Nat
  angleAfter  : Nat
  cycleBefore : Nat
  cycleAfter  : Nat
  deriving DecidableEq, Repr

/-! ### Replay channels and the segment store (R22 to R67) -/

/-- The channel kinds (R22). -/
inductive Kind where
  | level
  | pwm
  | pulse
  | wheel
  | speed
  deriving DecidableEq, Repr

/-- The eight channel states (2.3.1). -/
inductive ChState where
  | off
  | idle
  | primed
  | running
  | starved
  | done
  | faulted
  | held
  deriving DecidableEq, Repr

/-- The configuration record of a configured channel (R23); a field its kind does not use is absent. -/
structure ChConfig where
  kind         : Kind
  parkValue    : Nat
  lowLevel     : Option Nat
  highLevel    : Option Nat
  pattern      : Option Nat
  pulseWidth   : Option Nat
  pwmFrequency : Option Nat
  lowWater     : Option Nat
  startGroup   : Option Nat
  deriving DecidableEq, Repr

/-- A segment record as stored, its values clamped (R49, R52). -/
structure Segment where
  basis     : Basis
  length    : Nat
  shape     : Shape
  start     : Nat
  stop      : Option Nat
  secondary : Option Nat
  marker    : Option Nat
  endFlag   : Bool
  deriving DecidableEq, Repr

/-- The contents of a queue's record: a segment, or a loop with its working fields (R50). -/
inductive Content where
  | segment (s : Segment)
  | loop (k r remaining : Nat) (broken : Bool)
  deriving DecidableEq, Repr

/-- One record held in a channel queue and the slot that holds it (R47, R48). -/
structure QRec where
  slot    : Nat
  content : Content
  deriving DecidableEq, Repr

/-- The record in play: its place (counted from 0 here, from 1 in CHANNEL_GET), the tick it started on, and its angle
travel in 1/65,536 units (R55 to R57). -/
structure Play where
  place     : Nat
  startTick : Nat
  travel    : Nat
  deriving DecidableEq, Repr

/-- A running PWM or PULSE period: the applied frequency and duty, its length and high time in fine ticks, and the fine
tick it began on (R33, R35). A PULSE period's duty is 0. -/
structure Period where
  frequency : Nat
  duty      : Nat
  length    : Nat
  high      : Nat
  start     : Nat
  deriving DecidableEq, Repr

/-- A signal fault's kind with its fields (R128, R139). -/
inductive SigFault where
  | stuck
  | offset (value : Int)
  | drop (position count : Nat)
  | shift (shift : Int)
  deriving DecidableEq, Repr

/-- The modifier a channel holds (R40); `stuck` is the value and, for PWM, the frequency that STUCK took at its first
render (R41). -/
structure Modifier where
  entry : Nat
  fault : SigFault
  stuck : Option (Nat × Nat)
  deriving DecidableEq, Repr

/-- A modifier as a render takes it (R41): STUCK takes `last` at its first render and keeps it; every other stands. -/
def Modifier.taken (last : Nat × Nat) (m : Modifier) : Modifier :=
  match m.fault with
  | .stuck => { m with stuck := some (m.stuck.getD last) }
  | _ => m

/-- One replay channel (R22 to R46) with its queue (R48). `held` is the base value that STARVED, DONE and FAULTED hold;
`dac` is the code last written by a LEVEL channel; `pin` is the pin as it stands on the tick: a DAC code on bank A, 0
or 1 on bank D. `startAt` and `resumeAt` are the ticks a start or a resume falls on (R25, R54). `applied` is the modifier
as the channel's last render took it, which a second render on the same tick applies too (R40; MODEL's own field, log
entry 35). -/
structure Channel where
  state      : ChState
  config     : Option ChConfig
  frequency  : Option Nat
  queue      : List QRec
  play       : Option Play
  base       : Nat
  output     : Nat
  held       : Nat
  dac        : Nat
  pin        : Nat
  period     : Option Period
  slipTotal  : Nat
  starvedAt  : Option Nat
  startAt    : Option Nat
  resumeAt   : Option Nat
  runStart   : Option Nat
  modifier   : Option Modifier
  applied    : Option Modifier
  deriving DecidableEq, Repr

/-- A tooth-wheel pattern record (R37). -/
structure Pattern where
  span      : Nat
  positions : Nat
  width     : Nat
  missing   : List Nat
  offset    : Nat
  toothHigh : Bool
  deriving DecidableEq, Repr

/-! ### Conditions, event slots, triggers and groups (R68 to R87) -/

inductive Edge where
  | rise
  | fall
  | both
  deriving DecidableEq, Repr

/-- The phases of an ENTRY occurrence (R76). -/
inductive Phase where
  | active
  | released
  deriving DecidableEq, Repr

/-- A slot's source selection (R75). -/
inductive Source where
  | none
  | trigger (input : Nat) (edge : Edge)
  | monitor (monitor : Nat) (up : Bool)
  | angleMark (angle : Nat)
  | segmentMark (tag : Nat) (channel : Option Nat)
  | entry (entry : Nat) (phase : Phase)
  | group (group : Nat)
  deriving DecidableEq, Repr

/-- An occurrence as it is raised (R75). -/
inductive Occurrence where
  | trigger (input : Nat) (rising : Bool)
  | monitor (monitor : Nat) (up : Bool)
  | angleMark (angle : Nat)
  | segmentMark (tag channel : Nat)
  | entry (entry : Nat) (phase : Phase)
  | group (group : Nat)
  deriving DecidableEq, Repr

/-- What raised an occurrence, as the last-occurrence record keeps it (R74). -/
inductive Origin where
  | trigger (input : Nat)
  | monitor (monitor : Nat)
  | angle (angle : Nat)
  | channel (channel : Nat)
  | entry (entry : Nat)
  | group (group : Nat)
  deriving DecidableEq, Repr

/-- An event slot (R74). -/
structure EventSlot where
  source : Source
  count  : Nat
  last   : Option (Stamp × Origin)
  deriving DecidableEq, Repr

/-- A trigger input (R79): filtered level, filter width, the width the present tick judges by (R80), and the tick on
which a change in progress began. -/
structure TriggerInput where
  filtered : Bool
  width    : Nat
  judged   : Nat
  change   : Option Nat
  deriving DecidableEq, Repr

/-- A condition (R68). -/
inductive Condition where
  | now
  | atTime (time : Nat)
  | atAngle (angle : Nat) (fromCycle : Option Nat)
  | onEvent (slot count : Nat)
  deriving DecidableEq, Repr

/-- A waiting form (R69): a time (NOW and AT_TIME), an angle with a cycle floor, or a slot with a target. -/
inductive Waiting where
  | time (time : Nat)
  | angle (angle : Nat) (floor : Option Nat)
  | event (slot target : Nat)
  deriving DecidableEq, Repr

/-- A group's last-start record (R81). -/
structure GroupStart where
  stamp    : Stamp
  channels : Nat
  deriving DecidableEq, Repr

/-- A start group (R81); ARMED while it holds a condition. -/
structure Group where
  armed      : Option (Condition × Waiting)
  startCount : Nat
  lastStart  : Option GroupStart
  deriving DecidableEq, Repr

/-! ### Monitors and capture (R88 to R100) -/

/-- A monitor input (R88, R89, R91); `high` is the hysteresis state and `toSet` the mark that it is due to be set. -/
structure Monitor where
  highThreshold : Nat
  lowThreshold  : Nat
  high          : Bool
  toSet         : Bool
  last          : Nat
  minimum       : Nat
  maximum       : Nat
  sampleTime    : Nat
  captureUp     : Bool
  captureDown   : Bool
  deriving DecidableEq, Repr

/-- A capture record (R93), with the tick it was taken on, from which its age is reckoned (R1, R95). -/
structure CaptureRecord where
  monitor : Nat
  up      : Bool
  stamp   : Stamp
  tick    : Nat
  deriving DecidableEq, Repr

/-- The capture ring, oldest record first (R93 to R97). -/
structure Capture where
  ring     : List CaptureRecord
  dropped  : Nat
  dropMark : Bool
  batch    : Nat
  flush    : Nat
  deriving DecidableEq, Repr

/-! ### The fault matrix (R101 to R125) -/

/-- One cell: commanded state, last sensed state, and health record (R101); `true` is CLOSED. -/
structure Cell where
  commanded : Bool
  sensed    : Option Bool
  noMake    : Nat
  worn      : Bool
  deriving DecidableEq, Repr

/-- The line states (R104). -/
inductive LineState where
  | pass
  | held (entry : Nat)
  | broken
  | isolated (clear : Bool)
  deriving DecidableEq, Repr

/-- The readback of an isolated line still to be made, and the cell whose weld is logged (R119). -/
structure Isolation where
  readAt : Nat
  logged : CellId
  deriving DecidableEq, Repr

/-- A matrix line: its seven cells in the order of CellId, its state, the tick of its last open command, and the
fault-cell close that R109 holds back on it. -/
structure Line where
  cells     : List Cell
  state     : LineState
  lastOpen  : Nat
  heldClose : Option CellId
  isolation : Option Isolation
  deriving DecidableEq, Repr

/-- A bus termination (R102). -/
inductive Termination where
  | none
  | resistorGnd (code : Nat)
  | resistorBat (code : Nat)
  deriving DecidableEq, Repr

inductive MatrixState where
  | readying
  | ready
  | lockout
  deriving DecidableEq, Repr

/-- One step under way (6.3.1, R106): whether it closes or opens, whether it is verified or read once (R116), the cells
commanded in the attempt, the attempt's number, and the tick of its readback (absent while a close is held back). -/
structure Step where
  closing  : Bool
  verified : Bool
  targets  : List (Nat × CellId)
  attempt  : Nat
  readAt   : Option Nat
  deriving DecidableEq, Repr

/-- The insertion steps of R110. -/
inductive InsertStep where
  | openSeries
  | closeFault (cell : CellId)
  | settle
  deriving DecidableEq, Repr

/-- Where a sequence stands: inserting with the steps still to come, or releasing in its opening or closing step. -/
inductive SeqPhase where
  | inserting (rest : List InsertStep)
  | opening
  | closing
  deriving DecidableEq, Repr

/-- An entry's steps under way (R106, R110 to R116): `fast` once it runs as a fast release, `disarmed` once a disarm
waits for the step in flight (R114), `broken` the lines whose series cell failed to close in this release (R113).
`followed` is the tick of the readback that an insertion step was begun on, absent for a first step or a retry (R114). -/
structure Seq where
  phase    : SeqPhase
  fast     : Bool
  disarmed : Bool
  step     : Step
  broken   : List Nat
  followed : Option Nat
  deriving DecidableEq, Repr

/-- A restore under way (R120). -/
structure Restore where
  lines : List Nat
  step  : Step
  deriving DecidableEq, Repr

/-- The fault matrix (R101 to R105, R117, R121). -/
structure Matrix where
  lines          : List Line
  terminations   : List Termination
  lineSense      : List Nat
  busSense       : List Nat
  senseTick      : Nat
  state          : MatrixState
  firstPass      : Bool
  restore        : Option Restore
  settle         : Nat
  patrolInterval : Nat
  wearThreshold  : Nat
  patrolPosition : Nat
  patrolNext     : Nat
  patrolLast     : Nat
  deriving DecidableEq, Repr

/-! ### The fault schedule (R126 to R152) -/

/-- The nine entry states (R126). -/
inductive EntryState where
  | empty
  | loaded
  | armed
  | blocked
  | inserting
  | active
  | releasing
  | done
  | aborted
  deriving DecidableEq, Repr

/-- The electrical kinds (R127); `openLine` is OPEN. -/
inductive ElecKind where
  | openLine
  | shortGnd
  | shortBat
  | shortPin
  | leakGnd
  | leakBat
  deriving DecidableEq, Repr

/-- The class fields of an ELECTRICAL definition (R127); `bus` and `resistance` are absent where the kind does not use
them. -/
structure Electrical where
  kind       : ElecKind
  lines      : List Nat
  bus        : Option Nat
  resistance : Option Nat
  isolate    : Bool
  tripLimit  : Option Nat
  tripTime   : Option Nat
  chatter    : Option Chatter
  deriving DecidableEq, Repr

inductive EntryClass where
  | electrical (e : Electrical)
  | signal (channel : Nat) (fault : SigFault)
  deriving DecidableEq, Repr

/-- The durations (R128, R140). -/
inductive Duration where
  | time (length : Nat)
  | angle (length : Nat)
  | untilEvent (slot : Nat)
  | untilDisarm
  deriving DecidableEq, Repr

/-- A fault entry's definition (R127, R128). -/
structure EntryDef where
  cls         : EntryClass
  condition   : Condition
  latestStart : Option Nat
  duration    : Duration
  repeatCount : Option Nat
  spacing     : Option Nat
  deriving DecidableEq, Repr

/-- The end causes (6.1 of the introduction, R143). -/
inductive EndCause where
  | completed
  | missed
  | tripped
  | disarmed
  | safe
  | cellFault
  | lockout
  | noTarget
  deriving DecidableEq, Repr

/-- The last-insertion record (R130). -/
structure LastInsertion where
  dueTime     : Nat
  grantedTime : Option Nat
  start       : Option Stamp
  endTime     : Option Nat
  endCause    : Option EndCause
  tripSense   : Option Nat
  tripCurrent : Option Nat
  deriving DecidableEq, Repr

/-- The chatter of an ACTIVE entry (R142): whether the fault stands on, the appointed tick of the next toggle (absent
once the last cycle is made), and the cycles made. -/
structure ChatterRun where
  on     : Bool
  nextAt : Option Nat
  made   : Nat
  deriving DecidableEq, Repr

/-- A fault entry: definition and runtime fields (R126, R130), and the working fields of its lifetime: the tick it
became ACTIVE, its angle travel (R140), whether its UNTIL_EVENT watch has begun, its overcurrent runs as pairs of sense
number and first tick (R141), its chatter (R142) and the matrix steps under way for it. -/
structure Entry where
  state            : EntryState
  definition       : Option EntryDef
  waiting          : Option Waiting
  occurrences      : Nat
  repeatsRemaining : Nat
  duePoint         : Option Nat
  blockedSince     : Option Nat
  deadline         : Option Nat
  endCause         : Option EndCause
  last             : Option LastInsertion
  activeTick       : Nat
  travel           : Nat
  untilWatch       : Bool
  runs             : List (Nat × Nat)
  chatter          : Option ChatterRun
  seq              : Option Seq
  deriving DecidableEq, Repr

/-- The claim table (R136): the holder of each line, bus and channel, and the short budget in use. -/
structure Claims where
  lines    : List (Option Nat)
  buses    : List (Option Nat)
  channels : List (Option Nat)
  budget   : Nat
  deriving DecidableEq, Repr

/-! ### Guard, safe hold and the error log (R153 to R170) -/

inductive SafeCause where
  | expiry
  | request
  deriving DecidableEq, Repr

/-- While SAFE: the safe cause and the rig time of entry (R153). -/
structure SafeInfo where
  cause : SafeCause
  time  : Nat
  deriving DecidableEq, Repr

/-- The link guard (R153); ON while it holds a period. `windowStart` and `deadline` are 0 while OFF and not reported;
`expiresAt` is the first tick an expiry may be taken on (R154: a deadline set behind the request's tick expires on
the next). -/
structure Guard where
  period      : Option Nat
  safeRate    : Nat
  lastValue   : Option Nat
  windowStart : Nat
  deadline    : Nat
  expiresAt   : Nat
  expiryCount : Nat
  deriving DecidableEq, Repr

inductive ErrClass where
  | corrected
  | recoverable
  | fatal
  deriving DecidableEq, Repr

/-- The error codes, in the order of the table of R163. -/
inductive ErrCode where
  | storeCorrected
  | cellRetryOk
  | linkCheck
  | linkFraming
  | linkOverrun
  | linkTruncated
  | channelUnderrun
  | storeUncorrectable
  | entryMissed
  | trip
  | cellNoMake
  | cellWorn
  | lineBroken
  | indexSlip
  | indexMissing
  | captureDropped
  | guardExpired
  | cellWelded
  deriving DecidableEq, Repr

/-- What an error concerns (R162). -/
inductive Subject where
  | channel (n : Nat)
  | cell (line : Nat) (cell : CellId)
  | line (n : Nat)
  | entry (n : Nat)
  | monitor (n : Nat)
  | engine
  | link
  deriving DecidableEq, Repr

/-- One logging (R162). -/
structure Logging where
  code    : ErrCode
  subject : Subject
  detail  : Int
  stamp   : Stamp
  deriving DecidableEq, Repr

/-- The places a weld is found at, by name (R163). -/
inductive WeldPlace where
  | step
  | fast
  | isolate
  | patrol
  deriving DecidableEq, Repr

/-- A class record (R164); `later` is kept in the order of R163, without duplicates. -/
structure ClassRecord where
  count : Nat
  first : Option Logging
  later : List ErrCode
  deriving DecidableEq, Repr

/-- The error log (R164). -/
structure ErrorLog where
  corrected   : ClassRecord
  recoverable : ClassRecord
  fatal       : ClassRecord
  deriving DecidableEq, Repr

/-! ### The rig link (R171 to R183) -/

/-- The refusal codes (10.2.1). -/
inductive RefusalCode where
  | badKind
  | badLength
  | badField
  | busy
  | notConfigured
  | kindMismatch
  | queueFull
  | storeFull
  | shortBody
  | nestedLoop
  | noLoop
  | locked
  | notReady
  | safeHold
  | cellWorn
  | lineUnusable
  | stillWelded
  deriving DecidableEq, Repr

/-- The notice sources (10.3.1). -/
inductive NoticeSource where
  | part
  | guard
  | cls (c : ErrClass)
  | matrix
  | entry (n : Nat)
  | channel (n : Nat)
  | group (n : Nat)
  | capture
  | engine
  | link
  deriving DecidableEq, Repr

/-- The level of every notice source (R176, R177). -/
structure Levels where
  part        : Nat
  guard       : Nat
  corrected   : Nat
  recoverable : Nat
  fatal       : Nat
  matrix      : Nat
  entries     : List Nat
  channels    : List Nat
  groups      : List Nat
  capture     : Nat
  engine      : Nat
  link        : Nat
  deriving DecidableEq, Repr

/-- A queued notice (R176). -/
structure QNotice where
  source  : NoticeSource
  repeats : Nat
  age     : Nat
  deriving DecidableEq, Repr

/-- The link counters (R180). -/
structure Counters where
  framesReceived : Nat
  checkErrors    : Nat
  framingErrors  : Nat
  truncations    : Nat
  overruns       : Nat
  huntBytes      : Nat
  repliesSent    : Nat
  noticesSent    : Nat
  deriving DecidableEq, Repr

inductive ResetCause where
  | powerOn
  | supplyDip
  | link
  deriving DecidableEq, Repr

/-- The receiver's character state (R171): HUNT, or a frame in progress with its start tick and the bytes received so
far, sync included. -/
inductive Receiver where
  | hunt
  | frame (start : Nat) (bytes : List Byte)
  deriving DecidableEq, Repr

/-! ### Bodies of replies and notices -/

/-- The snapshot of ENGINE_GET (R19). -/
structure EngineSnapshot where
  rigTime         : Nat
  mode            : Mode
  trackChannel    : Option Nat
  motion          : Motion
  speed           : Nat
  target          : Nat
  rampRate        : Nat
  increment       : Nat
  angle           : Nat
  fraction        : Nat
  cycle           : Nat
  followCounts    : Nat
  followOffset    : Nat
  followTolerance : Nat
  indexError      : Int
  indexCount      : Nat
  indexTime       : Nat
  sinceIndex      : Nat
  missingMark     : Bool
  deriving DecidableEq, Repr

/-- The record in play as CHANNEL_GET reports it (R44): place from 1, basis, elapsed amount. -/
structure Position where
  place   : Nat
  basis   : Basis
  elapsed : Nat
  deriving DecidableEq, Repr

/-- The snapshot of CHANNEL_GET (R44). `period` is the running period's frequency, length and high time. -/
structure ChannelSnapshot where
  channel          : Nat
  state            : ChState
  config           : Option ChConfig
  baseValue        : Nat
  outputValue      : Nat
  period           : Option (Nat × Nat × Nat)
  currentFrequency : Option Nat
  position         : Option Position
  held             : Nat
  pending          : Nat
  slipTotal        : Nat
  lowWaterLow      : Bool
  runStart         : Option Nat
  modifier         : Option (Nat × SigFault)
  deriving DecidableEq, Repr

/-- The group snapshot (R83). -/
structure GroupSnapshot where
  group      : Nat
  condition  : Option (Condition × Waiting)
  primed     : List Nat
  startCount : Nat
  lastStart  : Option GroupStart
  deriving DecidableEq, Repr

/-- One event slot as SLOT_GET reports it (R78). -/
structure SlotSnapshot where
  slot    : Nat
  source  : Source
  count   : Nat
  last    : Option (Stamp × Origin)
  waiters : Nat
  deriving DecidableEq, Repr

/-- One monitor as MONITOR_READ reports it (R92). -/
structure MonitorSnapshot where
  monitor       : Nat
  current       : Nat
  minimum       : Nat
  maximum       : Nat
  highThreshold : Nat
  lowThreshold  : Nat
  high          : Bool
  toSet         : Bool
  captureUp     : Bool
  captureDown   : Bool
  sampleTime    : Nat
  deriving DecidableEq, Repr

/-- The matrix summary (R123). -/
structure MatrixSummary where
  state          : MatrixState
  firstPassDone  : Bool
  restore        : Option (List Nat)
  settle         : Nat
  patrolInterval : Nat
  wearThreshold  : Nat
  patrolPosition : Nat
  patrolNext     : Nat
  lineStates     : List LineState
  wornCells      : List (Nat × CellId)
  buses          : List (Termination × Nat)
  deriving DecidableEq, Repr

/-- The detail of one line (R123). -/
structure LineDetail where
  line     : Nat
  state    : LineState
  lastOpen : Nat
  sense    : Nat
  cells    : List Cell
  deriving DecidableEq, Repr

/-- The claims one entry holds, as ENTRY_GET reports them (R150). -/
structure HeldClaims where
  lines   : List Nat
  bus     : Option Nat
  channel : Option Nat
  budget  : Nat
  deriving DecidableEq, Repr

/-- The snapshot of ENTRY_GET (R150). -/
structure EntrySnapshot where
  entry            : Nat
  state            : EntryState
  definition       : Option EntryDef
  waiting          : Option Waiting
  occurrences      : Nat
  repeatsRemaining : Nat
  duePoint         : Option Nat
  blockedSince     : Option Nat
  deadline         : Option Nat
  endCause         : Option EndCause
  last             : Option LastInsertion
  claims           : Option HeldClaims
  deriving DecidableEq, Repr

/-- One entry's line in the ALL summary of ENTRY_GET (R150): its class (`true` for ELECTRICAL), state and repeats. -/
structure EntryBrief where
  entry            : Nat
  electrical       : Option Bool
  state            : EntryState
  repeatsRemaining : Nat
  deriving DecidableEq, Repr

/-- The guard snapshot (R153). -/
structure GuardSnapshot where
  period      : Option Nat
  safeRate    : Nat
  lastValue   : Option Nat
  windowStart : Option Nat
  deadline    : Option Nat
  expiryCount : Nat
  safe        : Option SafeInfo
  rigTime     : Nat
  deriving DecidableEq, Repr

/-- The snapshot of STATUS_GET (R181). -/
structure StatusSnapshot where
  partCode     : Nat
  revision     : Nat
  rigTime      : Nat
  safeCause    : Option SafeCause
  guardOn      : Bool
  matrixState  : MatrixState
  mode         : Mode
  motion       : Motion
  speed        : Nat
  angle        : Nat
  cycle        : Nat
  freeSlots    : Nat
  summary      : Bool
  resetCause   : ResetCause
  inbound      : Nat
  replies      : Nat
  notices      : Nat
  counters     : Counters
  deriving DecidableEq, Repr

/-- The body of a reply or the snapshot of a notice, by contents. `empty` stands for an ACK whose contents the manual
does not give. `weld` beside a class record is the name of the place of a CELL_WELDED held as its first error (R163);
in ERRLOG_GET's body it is the FATAL record's, the only one that can hold that code. -/
inductive Body where
  | empty
  | status (s : StatusSnapshot)
  | linkReset (time : Nat)
  | noticeLevel (kind : Nat) (index : Nat) (level : Nat)
  | errorLog (summary : Bool) (corrected recoverable fatal : ClassRecord) (weld : Option WeldPlace)
  | errorClass (cls : ErrClass) (record : ClassRecord) (weld : Option WeldPlace)
  | errorNotice (cls : ErrClass) (record : ClassRecord) (weld : Option WeldPlace) (summary : Bool)
  | guard (g : GuardSnapshot)
  | keepalive (value : Nat) (isNew restarted : Bool) (deadline : Option Nat) (safe : Bool)
  | engine (e : EngineSnapshot)
  | engineSpeed (clamped : Bool) (target rate : Nat) (motion : Motion)
  | engineMode (mode : Mode) (channel : Option Nat)
  | angleSet (angle cycle : Nat)
  | channelConfig (channel : Nat) (state : ChState) (config : Option ChConfig)
  | channelState (channel : Nat) (state : ChState)
  | channelStop (channel freed : Nat) (state : ChState)
  | channelDisable (channel freed : Nat)
  | channel (c : ChannelSnapshot)
  | wheel (index pitch : Nat)
  | segAppend (channel appended clamped place held pending free : Nat)
  | loopBreak (channel place r remaining : Nat)
  | slotConfig (slot : Nat) (source : Source)
  | slots (s : List SlotSnapshot)
  | trigger (input width : Nat) (filtered : Bool)
  | group (g : GroupSnapshot)
  | monitorConfig (monitor high low : Nat) (state toSet : Bool)
  | monitors (m : List MonitorSnapshot)
  | captureCfg (batch flush : Nat) (enables : List (Bool × Bool)) (records dropped : Nat)
  | captureBatch (records : List CaptureRecord) (dropped remaining : Nat) (oldest : Option Nat)
  | patrolCfg (settle interval wear : Nat)
  | cellHealth (line : Nat) (health : List (Nat × Bool))
  | matrixSummary (m : MatrixSummary)
  | lineDetail (l : LineDetail)
  | matrixClear (state : MatrixState) (lines : List Nat)
  | entryState (entry : Nat) (state : EntryState)
  | entry (e : EntrySnapshot)
  | entryAll (entries : List EntryBrief) (claims : Claims) (blocked : List (Nat × Nat))
  | linkCounters (c : Counters)
  | resetDone (cause : ResetCause) (partCode revision : Nat) (healthKept : Bool)
  deriving DecidableEq, Repr

/-- A refusal's body (R175): code, field index and record position; `named` is the line or slot the rule says the
refusal names, for which the body of R175 has no field (log entry 18). -/
structure Refused where
  code     : RefusalCode
  field    : Nat
  position : Nat
  named    : Option Nat
  deriving DecidableEq, Repr

/-- The part's answer to a request (R175). -/
inductive Answer where
  | ack (body : Body)
  | refuse (r : Refused)
  deriving DecidableEq, Repr

/-- A reply, carrying its request's tag (R175). -/
structure Reply where
  tag    : Nat
  answer : Answer
  deriving DecidableEq, Repr

/-- A notice as sent: the header's fields (R179, 10.8) and the source's snapshot. -/
structure Notice where
  source  : NoticeSource
  level   : Nat
  repeats : Nat
  time    : Nat
  body    : Body
  deriving DecidableEq, Repr

/-- A frame being sent. -/
inductive OutFrame where
  | reply (r : Reply)
  | notice (n : Notice)
  deriving DecidableEq, Repr

/-- The transmitter's frame, its characters from sync to check (10.1.1), the tick its transmission began and the tick it
ends (R178). -/
structure Transmission where
  frame      : OutFrame
  characters : List Byte
  startTick  : Nat
  endTick    : Nat
  deriving DecidableEq, Repr

/-- The rig link (R171 to R183). -/
structure Link where
  receiver     : Receiver
  inbound      : List Frame
  replies      : List Reply
  notices      : List QNotice
  levels       : Levels
  transmitter  : Option Transmission
  resetPending : Bool
  counters     : Counters
  resetCause   : ResetCause
  deriving DecidableEq, Repr

/-! ### The pins -/

/-- What stands on the part's input pins: trigger levels, monitor voltages, current senses, cell contacts (one list of
seven for each line) and the encoder's A, B and Z as last sampled. -/
structure Pins where
  triggers     : List Bool
  monitors     : List Int
  lineCurrents : List Nat
  busCurrents  : List Nat
  contacts     : List (List Bool)
  encA         : Bool
  encB         : Bool
  encZ         : Bool
  deriving DecidableEq, Repr

end Sys2Proof.Machine
end

