-- ==== Sys2Proof/Machine/Part.lean ====
section
/-! DEFINITION. The whole part: every block's state (3.1 of the introduction), and the input pins it reads. -/

namespace Sys2Proof.Machine

/-- The part. `damage` lists the bit errors that have come into held slots and play has not yet read (3.6.1);
`freeIndex` counts the frames formed, which the free values Config.bodyLength and Config.bodyByte are taken at
(MODEL's own field, log entry 1); `marks` are the
MODEL's own (log entry 6). -/
structure Part where
  clock     : Clock
  marks     : Marks
  pins      : Pins
  engine    : Engine
  patterns  : List (Option Pattern)
  channels  : List Channel
  damage    : List (Nat × SlotError)
  slots     : List EventSlot
  triggers  : List TriggerInput
  groups    : List Group
  monitors  : List Monitor
  capture   : Capture
  matrix    : Matrix
  entries   : List Entry
  claims    : Claims
  guard     : Guard
  safe      : Option SafeInfo
  log       : ErrorLog
  link      : Link
  freeIndex : Nat
  deriving DecidableEq, Repr

end Sys2Proof.Machine
end

