-- ==== Sys2Proof/Machine/Reset.lean ====
section
/-! DEFINITION. What each block holds after a reset (R21, R46, R67, R87, R99, R100, R125, R152, R161, R170, R183). -/

namespace Sys2Proof.Machine

/-- The engine after any reset (R21). -/
def Engine.atReset : Engine where
  mode := .fixed
  trackChannel := none
  internal := 0
  speed := 0
  target := 0
  rampRate := 1000
  increment := 0
  motion := .stopped
  acc := 0
  cycle := 0
  counts := 360
  offset := 0
  tolerance := 64
  step := 4194304
  indexError := 0
  indexCount := 0
  indexTime := 0
  sinceIndex := 0
  missingMark := false
  windowNet := 0
  windowCounts := 0

/-- A channel after any reset (R46, R67), and after CHANNEL_DISABLE (R27). DESIGN CHOICE (log entry 33): an OFF channel has no
base value (2.3.1), and CHANNEL_GET, which R44 lets leave out neither value, reports base_value and output_value 0. -/
def Channel.atReset : Channel where
  state := .off
  config := none
  frequency := none
  queue := []
  play := none
  base := 0
  output := 0
  held := 0
  dac := 0
  pin := 0
  period := none
  slipTotal := 0
  starvedAt := none
  startAt := none
  resumeAt := none
  runStart := none
  modifier := none
  applied := none

/-- An event slot after any reset (R87). -/
def EventSlot.atReset : EventSlot where
  source := .none
  count := 0
  last := none

/-- A trigger input after any reset: its filtered level is the level sampled at rig time 0 (R87). -/
def TriggerInput.atReset (level : Bool) : TriggerInput where
  filtered := level
  width := 0
  judged := 0
  change := none

/-- A start group after any reset (R87). -/
def Group.atReset : Group where
  armed := none
  startCount := 0
  lastStart := none

/-- The pin voltage as a monitor's sample: held within 0..60,000 mV (R88). -/
def monitorReading (millivolts : Int) : Nat := min millivolts.toNat Config.maxMonitor

/-- A monitor after any reset: the sample at rig time 0 is its last, minimum and maximum and sets its state (R99). -/
def Monitor.atReset (millivolts : Int) : Monitor where
  highThreshold := 3000
  lowThreshold := 2000
  high := decide (3000 ≤ monitorReading millivolts)
  toSet := false
  last := monitorReading millivolts
  minimum := monitorReading millivolts
  maximum := monitorReading millivolts
  sampleTime := 0
  captureUp := false
  captureDown := false

/-- The capture ring after any reset (R100). -/
def Capture.atReset : Capture where
  ring := []
  dropped := 0
  dropMark := false
  batch := 16
  flush := 5

/-- A current reading: a current above 10,000 mA reads 10,000 (R103). -/
def currentReading (milliamps : Nat) : Nat := min milliamps Config.maxCurrent

/-- A cell after any reset (R125): unpowered, its health as given. -/
def Cell.atReset (closed : Bool) (health : Nat × Bool) : Cell where
  commanded := closed
  sensed := none
  noMake := health.1
  worn := health.2

/-- A line after any reset (R125): series CLOSED, fault cells OPEN, PASS, the health of its cells as given. -/
def Line.atReset (health : List (Nat × Bool)) : Line where
  cells := (List.range Config.cellsPerLine).map fun c => Cell.atReset (c == 0) (health.getD c (0, false))
  state := .pass
  lastOpen := 0
  heldClose := none
  isolation := none

/-- The matrix after a reset (R125); the senses are read from rig time 0 on (R103). -/
def Matrix.atReset (health : List (List (Nat × Bool))) (pins : Pins) : Matrix where
  lines := (List.range Config.lines).map fun l => Line.atReset (health.getD l [])
  terminations := List.replicate Config.buses .none
  lineSense := pins.lineCurrents.map Machine.currentReading
  busSense := pins.busCurrents.map Machine.currentReading
  senseTick := 0
  state := .readying
  firstPass := false
  restore := none
  settle := 100
  patrolInterval := 1
  wearThreshold := 16
  patrolPosition := 0
  patrolNext := 1000
  patrolLast := 0

/-- A fault entry after any reset, and after ENTRY_DELETE: EMPTY, holding nothing (R126, R152). -/
def Entry.empty : Entry where
  state := .empty
  definition := none
  waiting := none
  occurrences := 0
  repeatsRemaining := 0
  duePoint := none
  blockedSince := none
  deadline := none
  endCause := none
  last := none
  activeTick := 0
  travel := 0
  untilWatch := false
  runs := []
  chatter := none
  seq := none

/-- The claim table after any reset (R152). -/
def Claims.atReset : Claims where
  lines := List.replicate Config.lines none
  buses := List.replicate Config.buses none
  channels := List.replicate Config.channels none
  budget := 0

/-- The link guard after any reset (R161). -/
def Guard.atReset : Guard where
  period := none
  safeRate := 5000
  lastValue := none
  windowStart := 0
  deadline := 0
  expiresAt := 0
  expiryCount := 0

/-- A class record with nothing in it (R164, R168, R170). -/
def ClassRecord.none : ClassRecord where
  count := 0
  first := Option.none
  later := []

/-- The error log after any reset (R170). -/
def ErrorLog.atReset : ErrorLog where
  corrected := ClassRecord.none
  recoverable := ClassRecord.none
  fatal := ClassRecord.none

/-- The levels after any reset (10.3.1). -/
def Levels.atReset : Levels where
  part := 0
  guard := 0
  corrected := 6
  recoverable := 2
  fatal := 0
  matrix := 1
  entries := List.replicate Config.entries 3
  channels := List.replicate Config.channels 4
  groups := List.replicate Config.groups 4
  capture := 5
  engine := 6
  link := 6

/-- The link counters after any reset (R180). -/
def Counters.atReset : Counters where
  framesReceived := 0
  checkErrors := 0
  framingErrors := 0
  truncations := 0
  overruns := 0
  huntBytes := 0
  repliesSent := 0
  noticesSent := 0

/-- The rig link after a reset of the given cause: at rig time 0 the PART source has raised its one cause (R183). -/
def Link.atReset (cause : ResetCause) : Link where
  receiver := .hunt
  inbound := []
  replies := []
  notices := [{ source := .part, repeats := 1, age := 0 }]
  levels := Levels.atReset
  transmitter := none
  resetPending := false
  counters := Counters.atReset
  resetCause := cause

/-- The health records of all cells, which a LINK reset keeps (R125). -/
def Matrix.health (m : Matrix) : List (List (Nat × Bool)) :=
  m.lines.map fun l => l.cells.map fun c => (c.noMake, c.worn)

/-- The part after a reset of the given cause (R183). The pins are the outside's and stand as they stood; a LINK reset
keeps the cell health. -/
def Part.afterReset (cause : ResetCause) (p : Part) : Part where
  clock := { rigTime := 0, ticks := 0 }
  marks := { milli := false, level := false, monitor := false, current := false, flush := false }
  pins := p.pins
  engine := Engine.atReset
  patterns := List.replicate Config.patterns none
  channels := List.replicate Config.channels Channel.atReset
  damage := []
  slots := List.replicate Config.eventSlots EventSlot.atReset
  triggers := p.pins.triggers.map TriggerInput.atReset
  groups := List.replicate Config.groups Group.atReset
  monitors := p.pins.monitors.map Monitor.atReset
  capture := Capture.atReset
  matrix := Matrix.atReset (if cause = .link then p.matrix.health else []) p.pins
  entries := List.replicate Config.entries Entry.empty
  claims := Claims.atReset
  guard := Guard.atReset
  safe := none
  log := ErrorLog.atReset
  link := Link.atReset cause
  freeIndex := p.freeIndex

/-- The pins of State.reset (DESIGN CHOICE, log entry 5): logic inputs low, no voltage, no current, every cell's contact
at rest (series closed, fault cells open). -/
def Pins.atRest : Pins where
  triggers := List.replicate Config.triggers false
  monitors := List.replicate Config.monitors 0
  lineCurrents := List.replicate Config.lines 0
  busCurrents := List.replicate Config.buses 0
  contacts := List.replicate Config.lines [true, false, false, false, false, false, false]
  encA := false
  encB := false
  encZ := false

/-- The part right after POWER_ON with its pins at rest. -/
def Part.atPowerOn : Part where
  clock := { rigTime := 0, ticks := 0 }
  marks := { milli := false, level := false, monitor := false, current := false, flush := false }
  pins := Pins.atRest
  engine := Engine.atReset
  patterns := List.replicate Config.patterns none
  channels := List.replicate Config.channels Channel.atReset
  damage := []
  slots := List.replicate Config.eventSlots EventSlot.atReset
  triggers := List.replicate Config.triggers (TriggerInput.atReset false)
  groups := List.replicate Config.groups Group.atReset
  monitors := List.replicate Config.monitors (Monitor.atReset 0)
  capture := Capture.atReset
  matrix := Matrix.atReset [] Pins.atRest
  entries := List.replicate Config.entries Entry.empty
  claims := Claims.atReset
  guard := Guard.atReset
  safe := none
  log := ErrorLog.atReset
  link := Link.atReset .powerOn
  freeIndex := 0

end Sys2Proof.Machine
end

