-- ==== Sys2Proof/Machine/State.lean ====
section
/-! DEFINITION. The machine's state: the part and the queue of commands that are waiting, first in, first out. -/

namespace Sys2Proof.Machine

/-- The state: the part (every register, queue, counter, mode and pin of the manual's blocks, see Machine/Part.lean) and
the commands waiting to be taken. -/
structure State where
  part    : Part
  pending : List Instr
  deriving DecidableEq, Repr

/-- Why the machine stops with a fault. -/
inductive Fault where
  /-- Raised by an event command that names a channel, trigger input, line, entry or group the part does not have
  (5.4 of the introduction gives the ranges), such as a segment end on channel 40. Such an event cannot arise on the
  part; a request that names one is answered BAD_FIELD by its own rule and never raises this. Safe: the model stops where
  the part has nothing to do. -/
  | noSuchUnit
  deriving DecidableEq, Repr

/-- Why a command is refused a meaning. -/
inductive Refusal where
  /-- Raised by exec's arm for a command not yet modelled, by its mnemonic. Safe. No arm raises it now. -/
  | notModelled (mnemonic : String)
  deriving DecidableEq, Repr

/-- The machine right after POWER_ON (R183) with its pins at rest and no command waiting. -/
def State.reset : State where
  part := Part.atPowerOn
  pending := []

end Sys2Proof.Machine
end

