-- ==== Sys2Proof/Machine/Ops.lean ====
section
/-! DEFINITION. Named operations over the part's tables, its clock, its notices and its error log. -/

namespace Sys2Proof.Machine

/-! ### Time -/

/-- The tick the part stands on: every cadence, deadline and elapsed amount is reckoned from the tick count (R1). -/
def Part.now (p : Part) : Nat := p.clock.ticks

/-- A kept tick as rig time reports it: rig time holds at its last value (R1). -/
def reported (tick : Nat) : Nat := min tick Config.lastRigTime

/-- The integer angle (R2). -/
def Engine.angle (e : Engine) : Nat := e.acc / Config.unitParts

/-- The fraction of an angle unit, in 1/65,536 (R2). -/
def Engine.fraction (e : Engine) : Nat := e.acc % Config.unitParts

/-- The stamp of the present tick, after the engine motion taken so far (R3, R74, R162). -/
def Part.stamp (p : Part) : Stamp where
  time := p.clock.rigTime
  angle := p.engine.angle
  cycle := p.engine.cycle

/-- A count that holds at `top` (5.3 of the introduction). -/
def bump (top n : Nat) : Nat := min (n + 1) top

/-- A 32-bit count that wraps (5.3). -/
def wrap32 (n : Nat) : Nat := n % Config.mod32

/-- Integer division with the result rounded half up (5.3). -/
def roundHalfUp (n d : Nat) : Nat := (2 * n + d) / (2 * d)

/-! ### The tables -/

def Part.channel (p : Part) (c : Nat) : Channel := p.channels.getD c Channel.atReset
def Part.setChannel (c : Nat) (x : Channel) (p : Part) : Part := { p with channels := p.channels.set c x }
def Part.entry (p : Part) (e : Nat) : Entry := p.entries.getD e Entry.empty
def Part.setEntry (e : Nat) (x : Entry) (p : Part) : Part := { p with entries := p.entries.set e x }
def Part.slot (p : Part) (s : Nat) : EventSlot := p.slots.getD s EventSlot.atReset
def Part.setSlot (s : Nat) (x : EventSlot) (p : Part) : Part := { p with slots := p.slots.set s x }
def Part.group (p : Part) (g : Nat) : Group := p.groups.getD g Group.atReset
def Part.setGroup (g : Nat) (x : Group) (p : Part) : Part := { p with groups := p.groups.set g x }
def Part.trigger (p : Part) (i : Nat) : TriggerInput := p.triggers.getD i (TriggerInput.atReset false)
def Part.setTrigger (i : Nat) (x : TriggerInput) (p : Part) : Part := { p with triggers := p.triggers.set i x }
def Part.monitor (p : Part) (m : Nat) : Monitor := p.monitors.getD m (Monitor.atReset 0)
def Part.setMonitor (m : Nat) (x : Monitor) (p : Part) : Part := { p with monitors := p.monitors.set m x }
/-- The pattern at an index; absent while it is undefined. -/
def Part.pattern (p : Part) (i : Nat) : Option Pattern := (p.patterns.getD i none)
def Part.line (p : Part) (l : Nat) : Line := p.matrix.lines.getD l (Line.atReset [])
def Part.setLine (l : Nat) (x : Line) (p : Part) : Part :=
  { p with matrix := { p.matrix with lines := p.matrix.lines.set l x } }

/-- A cell's place in its line (R101, 10.8). -/
def cellIndex : CellId → Nat
  | .series => 0
  | .ground => 1
  | .battery => 2
  | .bus0 => 3
  | .bus1 => 4
  | .bus2 => 5
  | .bus3 => 6

/-- The seven cells in order. -/
def allCells : List CellId := [.series, .ground, .battery, .bus0, .bus1, .bus2, .bus3]

/-- The six fault cells in order (6.1 of the introduction). -/
def faultCells : List CellId := [.ground, .battery, .bus0, .bus1, .bus2, .bus3]

/-- The bus cell of a bus (R101). -/
def busCell : Nat → CellId
  | 0 => .bus0
  | 1 => .bus1
  | 2 => .bus2
  | _ => .bus3

def Line.cell (l : Line) (c : CellId) : Cell := l.cells.getD (cellIndex c) (Cell.atReset false (0, false))
def Line.setCell (c : CellId) (x : Cell) (l : Line) : Line := { l with cells := l.cells.set (cellIndex c) x }
def Part.cell (p : Part) (l : Nat) (c : CellId) : Cell := (p.line l).cell c
def Part.setCell (l : Nat) (c : CellId) (x : Cell) (p : Part) : Part := p.setLine l ((p.line l).setCell c x)

/-- The contact of a cell as it stands on the readback pin; `true` is closed. -/
def Part.contact (p : Part) (l : Nat) (c : CellId) : Bool :=
  (p.pins.contacts.getD l []).getD (cellIndex c) false

/-! ### Notices -/

/-- The level of a source (R176). -/
def Levels.of (v : Levels) : NoticeSource → Nat
  | .part => v.part
  | .guard => v.guard
  | .cls .corrected => v.corrected
  | .cls .recoverable => v.recoverable
  | .cls .fatal => v.fatal
  | .matrix => v.matrix
  | .entry n => v.entries.getD n 3
  | .channel n => v.channels.getD n 4
  | .group n => v.groups.getD n 4
  | .capture => v.capture
  | .engine => v.engine
  | .link => v.link

/-- Writing the level of a source (R177). -/
def Levels.write (v : Levels) (level : Nat) : NoticeSource → Levels
  | .part => { v with part := level }
  | .guard => { v with guard := level }
  | .cls .corrected => { v with corrected := level }
  | .cls .recoverable => { v with recoverable := level }
  | .cls .fatal => { v with fatal := level }
  | .matrix => { v with matrix := level }
  | .entry n => { v with entries := v.entries.set n level }
  | .channel n => { v with channels := v.channels.set n level }
  | .group n => { v with groups := v.groups.set n level }
  | .capture => { v with capture := level }
  | .engine => { v with engine := level }
  | .link => { v with link := level }

/-- Whether a source has a notice queued (R176). -/
def Part.queued (src : NoticeSource) (p : Part) : Bool := p.link.notices.any fun n => n.source = src

/-- A notice queue with one more cause of a source whose notice is queued: its repeat count rises, holding at 65,535;
its age and place are kept (R176). -/
def addCause (src : NoticeSource) (q : List QNotice) : List QNotice :=
  q.map fun n => if n.source = src then { n with repeats := bump Config.max16 n.repeats } else n

/-- Raising a cause for a source (R176): nothing at level 7, one more repeat where its notice is queued, else a notice
with repeat count 1 and the tick's rig time as its age joins the queue. -/
def Part.raise (src : NoticeSource) (p : Part) : Part :=
  if p.link.levels.of src = 7 then p
  else if p.queued src then { p with link := { p.link with notices := addCause src p.link.notices } }
  else
    { p with
      link := { p.link with notices := p.link.notices ++ [{ source := src, repeats := 1, age := p.clock.rigTime }] } }

/-! ### The error log -/

/-- The class of each code (R163). -/
def ErrCode.cls : ErrCode → ErrClass
  | .storeCorrected => .corrected
  | .cellRetryOk => .corrected
  | .linkCheck => .corrected
  | .linkFraming => .corrected
  | .linkOverrun => .corrected
  | .linkTruncated => .corrected
  | .channelUnderrun => .recoverable
  | .storeUncorrectable => .recoverable
  | .entryMissed => .recoverable
  | .trip => .recoverable
  | .cellNoMake => .recoverable
  | .cellWorn => .recoverable
  | .lineBroken => .recoverable
  | .indexSlip => .recoverable
  | .indexMissing => .recoverable
  | .captureDropped => .recoverable
  | .guardExpired => .recoverable
  | .cellWelded => .fatal

/-- The codes of a class in the order of R163. -/
def ErrClass.codes : ErrClass → List ErrCode
  | .corrected => [.storeCorrected, .cellRetryOk, .linkCheck, .linkFraming, .linkOverrun, .linkTruncated]
  | .recoverable =>
    [.channelUnderrun, .storeUncorrectable, .entryMissed, .trip, .cellNoMake, .cellWorn, .lineBroken, .indexSlip,
      .indexMissing, .captureDropped, .guardExpired]
  | .fatal => [.cellWelded]

def ErrorLog.of (l : ErrorLog) : ErrClass → ClassRecord
  | .corrected => l.corrected
  | .recoverable => l.recoverable
  | .fatal => l.fatal

def ErrorLog.write (l : ErrorLog) (r : ClassRecord) : ErrClass → ErrorLog
  | .corrected => { l with corrected := r }
  | .recoverable => { l with recoverable := r }
  | .fatal => { l with fatal := r }

/-- A class record after one logging (R164): the first becomes the first-error record; a later one raises the count,
which holds at 65,535, and its code joins the later-code set, kept in the order of R163. -/
def ClassRecord.add (g : Logging) (r : ClassRecord) : ClassRecord :=
  if r.count = 0 then { count := 1, first := some g, later := [] }
  else
    { r with
      count := bump Config.max16 r.count
      later := g.code.cls.codes.filter fun c => c = g.code || r.later.contains c }

/-- One logging with the present stamp (R162): the record of its class takes it and the class's notice is raised
(R164, R169). -/
def Part.logError (code : ErrCode) (subject : Subject) (detail : Int) (p : Part) : Part :=
  let g : Logging := { code := code, subject := subject, detail := detail, stamp := p.stamp }
  ({ p with log := p.log.write ((p.log.of code.cls).add g) code.cls }).raise (.cls code.cls)

end Sys2Proof.Machine
end

