-- ==== Sys2Proof/Machine/Flags.lean ====
section
/-! DEFINITION. Every status and flag the manual derives from other state: motion status, low-water status, pending
counts, the summary flag, and the tests the rules make of the part's state. -/

namespace Sys2Proof.Machine

/-- The motion status in FIXED (R4), from the internal speed and not from the truncated speed value. -/
def fixedMotion (internal target : Nat) : Motion :=
  if internal = target * 1000 then (if target = 0 then .stopped else .steady) else .ramping

/-- The motion status in TRACK (R4). -/
def trackMotion (speed : Nat) : Motion := if speed = 0 then .stopped else .steady

/-- The motion status in FOLLOW from the counts of the window just completed (R4, R15). -/
def followMotion (windowCounts : Nat) : Motion := if windowCounts = 0 then .stopped else .steady

/-- Records held after the record in play in queue order; with none in play, every record held (R48). -/
def Channel.pending (ch : Channel) : Nat :=
  match ch.play with
  | some pl => ch.queue.length - (pl.place + 1)
  | none => ch.queue.length

/-- The low-water mark; 0 where the channel has none (R23). -/
def Channel.lowMark (ch : Channel) : Nat :=
  match ch.config with
  | some c => c.lowWater.getD 0
  | none => 0

/-- The low-water status: LOW while the mark is not 0, the channel is RUNNING or STARVED, and pending is at or below
the mark (R63). -/
def Channel.lowWaterLow (ch : Channel) : Bool :=
  ch.lowMark ≠ 0 && (ch.state = .running || ch.state = .starved) && ch.pending ≤ ch.lowMark

/-- The kind of a configured channel. -/
def Channel.kind (ch : Channel) : Option Kind := ch.config.map ChConfig.kind

/-- Records held by all queues together (R47). -/
def Part.heldRecords (p : Part) : Nat := (p.channels.map fun ch => ch.queue.length).sum

/-- Free segment slots: every slot is free or holds one record (R47). -/
def Part.freeSlots (p : Part) : Nat := Config.slots - p.heldRecords

/-- The summary flag: set while the count of any class is above 0 (R166). -/
def Part.summaryFlag (p : Part) : Bool :=
  p.log.corrected.count ≠ 0 || p.log.recoverable.count ≠ 0 || p.log.fatal.count ≠ 0

/-- SAFE or NORMAL (R153). -/
def Part.inSafe (p : Part) : Bool := p.safe.isSome

/-- Whether the interpreter takes frames: the reply queue has room and no LINK_RESET is pending (R174, R182). -/
def Part.interpreterReady (p : Part) : Bool :=
  p.link.replies.length < Config.linkQueue && !p.link.resetPending

/-- Whether the fourth law of R109 keeps every fault cell from being closed. -/
def Part.closesBarred (p : Part) : Bool := p.inSafe || p.matrix.state = .lockout

/-- The channels PRIMED for a group, in channel order (R82, R83). -/
def Part.primedFor (p : Part) (g : Nat) : List Nat :=
  (List.range Config.channels).filter fun c =>
    (p.channel c).state = .primed && (p.channel c).config.any fun cfg => cfg.startGroup = some g

/-- Whether an entry waits on a slot (R77): an ON_EVENT waiting form in ARMED or BLOCKED, or an UNTIL_EVENT duration in
INSERTING or ACTIVE. -/
def Entry.waitsOn (e : Entry) (s : Nat) : Bool :=
  let byForm := match e.waiting with
    | some (.event slot _) => slot = s && (e.state = .armed || e.state = .blocked)
    | _ => false
  let byDuration := match e.definition with
    | some d => d.duration = .untilEvent s && (e.state = .inserting || e.state = .active)
    | none => false
  byForm || byDuration

/-- Whether a group's waiting form is on a slot. -/
def Group.waitsOn (g : Group) (s : Nat) : Bool :=
  match g.armed with
  | some (_, .event slot _) => slot = s
  | _ => false

/-- The number of waiters that hold a slot (R78). -/
def Part.slotWaiters (p : Part) (s : Nat) : Nat :=
  (p.entries.filter fun e => e.waitsOn s).length + (p.groups.filter fun g => g.waitsOn s).length

/-- An AT_TIME waiting form is met when rig time is at or after its time; a time beyond the last value rig time can
hold is met when rig time reaches that value (R68, R70). -/
def Part.timeReached (t : Nat) (p : Part) : Bool := min t Config.lastRigTime ≤ p.clock.rigTime

/-- A cycle c is at or after the floor n when (c − n) modulo 2^32 is less than 2^31 (R71, R145). -/
def atOrAfter (c n : Nat) : Bool := (c + (Config.mod32 - n % Config.mod32)) % Config.mod32 < 2147483648

end Sys2Proof.Machine
end

