-- ==== Sys2Proof/Machine/Operands.lean ====
section
/-! DEFINITION. The operands of the requests: the checks each rule makes of a field, and the stored form a checked field
takes. A check list stands in the order of its rule's table; the first that fails gives the refusal. -/

namespace Sys2Proof.Machine

/-! ### Refusals -/

/-- A refusal that names no field of the body (R175). -/
def refusal (code : RefusalCode) : Refused := { code := code, field := 0, position := 0, named := none }

/-- BAD_FIELD naming a field, counted from 1 as 10.8 counts it. -/
def badField (field : Nat) : Refused := { code := .badField, field := field, position := 0, named := none }

/-- A refusal about one record of a list: its field and the record's position from 1 (R51, R97, R175). -/
def badRecord (code : RefusalCode) (field position : Nat) : Refused :=
  { code := code, field := field, position := position, named := none }

/-- The first check that fails, each check given as the failing condition and its refusal. -/
def firstFailure (checks : List (Bool × Refused)) : Option Refused :=
  (checks.find? fun c => c.1).map fun c => c.2

/-- Outside lo..hi. -/
def outside (lo hi n : Nat) : Bool := n < lo || hi < n

/-- An optional field that is present and outside lo..hi. -/
def outsideIf (lo hi : Nat) (n : Option Nat) : Bool := n.any fun v => outside lo hi v

/-- A required field that is absent or outside lo..hi. -/
def missingOr (lo hi : Nat) (n : Option Nat) : Bool :=
  match n with
  | some v => outside lo hi v
  | none => true

/-! ### Enumerated fields (10.8) -/

def parseMode : Nat → Option Mode
  | 0 => some .fixed
  | 1 => some .track
  | 2 => some .follow
  | _ => none

def parseKind : Nat → Option Kind
  | 0 => some .level
  | 1 => some .pwm
  | 2 => some .pulse
  | 3 => some .wheel
  | 4 => some .speed
  | _ => none

def parseClass : Nat → Option ErrClass
  | 0 => some .corrected
  | 1 => some .recoverable
  | 2 => some .fatal
  | _ => none

def parseCell : Nat → Option CellId
  | 0 => some .series
  | 1 => some .ground
  | 2 => some .battery
  | 3 => some .bus0
  | 4 => some .bus1
  | 5 => some .bus2
  | 6 => some .bus3
  | _ => none

/-- The electrical kinds, numbered in the order R127 lists them (DEDUCED, log entry 19). -/
def parseElecKind : Nat → Option ElecKind
  | 0 => some .openLine
  | 1 => some .shortGnd
  | 2 => some .shortBat
  | 3 => some .shortPin
  | 4 => some .leakGnd
  | 5 => some .leakBat
  | _ => none

/-- A source selection of SLOT_CONFIG (R75, R77, 10.8): `none` of the outer option for an unknown kind, of the inner for a
selection field outside its range. -/
def parseSource (kind byte2 byte3 : Nat) : Option (Option Source) :=
  match kind with
  | 0 => some (some .none)
  | 1 =>
    some (if outside 0 7 byte2 then none else
      match byte3 with
      | 0 => some (.trigger byte2 .rise)
      | 1 => some (.trigger byte2 .fall)
      | 2 => some (.trigger byte2 .both)
      | _ => none)
  | 2 =>
    some (if outside 0 15 byte2 then none else
      match byte3 with
      | 0 => some (.monitor byte2 true)
      | 1 => some (.monitor byte2 false)
      | _ => none)
  | 3 =>
    some (if outside 0 46079 (byte2 * 256 + byte3) then none else some (.angleMark (byte2 * 256 + byte3)))
  | 4 =>
    some (if outside 1 15 byte2 then none
      else if byte3 = 255 then some (.segmentMark byte2 none)
      else if outside 0 31 byte3 then none
      else some (.segmentMark byte2 (some byte3)))
  | 5 =>
    some (if outside 0 127 byte2 then none else
      match byte3 with
      | 0 => some (.entry byte2 .active)
      | 1 => some (.entry byte2 .released)
      | _ => none)
  | 6 => some (if outside 0 7 byte2 then none else some (.group byte2))
  | _ => none

/-- The sources a NOTICE_LEVEL names (R177): `none` for an unknown kind, an empty list for an index out of range. The
index FF hex is ALL; the index of a single source is ignored. -/
def parseSources (kind index : Nat) : Option (List NoticeSource) :=
  let many (n : Nat) (f : Nat → NoticeSource) : List NoticeSource :=
    if index = 255 then (List.range n).map f else if index < n then [f index] else []
  match kind with
  | 0 => some [.part]
  | 1 => some [.guard]
  | 2 =>
    some (if index = 255 then [.cls .corrected, .cls .recoverable, .cls .fatal]
      else match parseClass index with
        | some c => [.cls c]
        | none => [])
  | 3 => some [.matrix]
  | 4 => some (many Config.entries .entry)
  | 5 => some (many Config.channels .channel)
  | 6 => some (many Config.groups .group)
  | 7 => some [.capture]
  | 8 => some [.engine]
  | 9 => some [.link]
  | _ => none

/-! ### Channel configuration (R23, R24) -/

/-- The largest value of a kind's primary unit (R23, R30, R52). -/
def Kind.top : Kind → Nat
  | .level => 12000
  | .pwm => 10000
  | .pulse => 200000
  | .wheel => 1
  | .speed => 40000

/-- Whether a channel of the bank and kind uses the two levels (R23). -/
def usesLevels (c : Nat) (k : Kind) : Bool :=
  c < Config.bankA && (k = .pwm || k = .pulse || k = .wheel)

/-- R24's fourth check, in the order of R23: the fields the kind uses, absent or out of range. -/
def configChecks (c : Nat) (k : Kind) (r : RawConfig) : List (Bool × Refused) :=
  [ (outside 0 k.top r.parkValue, badField 3),
    (usesLevels c k && missingOr 0 12000 r.lowLevel, badField 4),
    (usesLevels c k && missingOr 0 12000 r.highLevel, badField 5),
    (k = .wheel && missingOr 0 7 r.pattern, badField 6),
    (k = .pulse && missingOr 1 10000 r.pulseWidth, badField 7),
    (k = .pwm && missingOr 10 200000 r.pwmFrequency, badField 8),
    (k ≠ .wheel && missingOr 0 4095 r.lowWater, badField 9),
    (outsideIf 0 7 r.startGroup, badField 10) ]

/-- The record as written: fields the kind does not use are ignored (2.2.1). -/
def storedConfig (c : Nat) (k : Kind) (r : RawConfig) : ChConfig where
  kind := k
  parkValue := r.parkValue
  lowLevel := if usesLevels c k then r.lowLevel else none
  highLevel := if usesLevels c k then r.highLevel else none
  pattern := if k = .wheel then r.pattern else none
  pulseWidth := if k = .pulse then r.pulseWidth else none
  pwmFrequency := if k = .pwm then r.pwmFrequency else none
  lowWater := if k = .wheel then none else r.lowWater
  startGroup := r.startGroup

/-! ### Wheel patterns (R37) -/

/-- R37's checks, in its order. -/
def patternChecks (index : Nat) (r : RawPattern) : List (Bool × Refused) :=
  let span := if r.span = 0 then Config.revUnits else Config.cycleUnits
  let listed := r.missing.take r.missingCount
  [ (outside 0 7 index, badField 1),
    (outside 0 1 r.span, badField 2),
    (outside 2 120 r.positions || span % r.positions ≠ 0, badField 3),
    (outside 16 (span / r.positions - 16) r.width, badField 4),
    (8 < r.missingCount || listed.any (fun m => r.positions ≤ m) || !decide listed.Nodup, badField 5),
    (outside 0 (span - 1) r.offset, badField 6),
    (outside 0 1 r.polarity, badField 7) ]

/-- The pattern record as defined (R37). -/
def storedPattern (r : RawPattern) : Pattern where
  span := if r.span = 0 then Config.revUnits else Config.cycleUnits
  positions := r.positions
  width := r.width
  missing := r.missing.take r.missingCount
  offset := r.offset
  toothHigh := r.polarity = 0

/-! ### Segment and loop records (R49 to R52) -/

/-- A structurally faulty record (R51). -/
def recordFaulty : RawRecord → Bool
  | .segment r =>
    r.length = 0 || (r.basis = .angle && 11796480 < r.length) || (r.shape = .ramp && r.endValue.isNone) ||
      outsideIf 1 15 r.marker
  | .loop k _ => outside 1 64 k
  | .unknown _ => true

def recordIsLoop : RawRecord → Bool
  | .loop _ _ => true
  | _ => false

def recordIsAngle : RawRecord → Bool
  | .segment r => r.basis = .angle
  | _ => false

def QRec.isLoop (q : QRec) : Bool :=
  match q.content with
  | .loop _ _ _ _ => true
  | .segment _ => false

/-- A value held to 0..top, and 1 if it was clamped (R52). -/
def clampValue (top : Nat) (v : Int) : Nat × Nat :=
  if v < 0 then (0, 1) else if (top : Int) < v then (top, 1) else (v.toNat, 0)

/-- A PWM record's secondary held to 10..200,000, and 1 if it was clamped (R52). -/
def clampSecondary (v : Nat) : Nat × Nat :=
  if v < 10 then (10, 1) else if 200000 < v then (200000, 1) else (v, 0)

/-- A record as stored on a channel of a kind, and how many of its fields were clamped (R49, R50, R52): a HOLD's end value
and the secondary of any kind but PWM are not stored. -/
def storedRecord (k : Kind) : RawRecord → Content × Nat
  | .segment r =>
    let start := clampValue k.top r.startValue
    let stop : Option (Nat × Nat) := if r.shape = .ramp then r.endValue.map (clampValue k.top) else none
    let sec : Option (Nat × Nat) := if k = .pwm then r.secondary.map clampSecondary else none
    (.segment
      { basis := r.basis, length := r.length, shape := r.shape, start := start.1, stop := stop.map Prod.fst,
        secondary := sec.map Prod.fst, marker := r.marker, endFlag := r.endFlag },
      start.2 + (stop.map Prod.snd).getD 0 + (sec.map Prod.snd).getD 0)
  | .loop k' r => (.loop k' r r false, 0)
  | .unknown _ => (.loop 0 0 0 false, 0)

/-- The first loop record of a request whose body holds a loop record or is not all held (R51), read over the queue as it
will stand; `before` says of each record ahead, nearest first, whether it is a loop record. -/
def loopCheck (position : Nat) (before : List Bool) : List RawRecord → Option Refused
  | [] => none
  | r :: rest =>
    let fault : Option Refused :=
      match r with
      | .loop k _ =>
        if (before.take k).any id then some (badRecord .nestedLoop 3 position)
        else if before.length < k then some (badRecord .shortBody 3 position)
        else none
      | _ => none
    match fault with
    | some f => some f
    | none => loopCheck (position + 1) (recordIsLoop r :: before) rest

/-! ### Conditions (R68) -/

/-- The field of a condition record that fails R68's form check: 0 the kind, 1 and 2 the kind's fields. DESIGN CHOICE (log entry
50): a time above 2^48 − 1 is outside R68's range and refused, though R68 also says that a time beyond rig time's last value
is accepted; the 48-bit field of 10.8 carries none. -/
def conditionFault : RawCondition → Option Nat
  | .now => none
  | .atTime t => if Config.lastRigTime < t then some 1 else none
  | .atAngle a f =>
    if outside 0 46079 a then some 1 else if f.any (fun c => Config.max32 < c) then some 2 else none
  | .onEvent s n => if outside 0 15 s then some 1 else if outside 1 65535 n then some 2 else none
  | .unknown _ => some 0

/-- A checked condition record as held. -/
def conditionStored : RawCondition → Condition
  | .now => .now
  | .atTime t => .atTime t
  | .atAngle a f => .atAngle a f
  | .onEvent s n => .onEvent s n
  | .unknown _ => .now

/-- How many fields the condition's kind has (10.8 counts them one by one in ENTRY_DEFINE). -/
def conditionFields : RawCondition → Nat
  | .now => 0
  | .atTime _ => 1
  | .atAngle _ _ => 2
  | .onEvent _ _ => 2
  | .unknown _ => 0

/-! ### Fault entry definitions (R127 to R129) -/

/-- The kinds that may chatter (R127). -/
def ElecKind.chatters : ElecKind → Bool
  | .openLine => true
  | .shortGnd => true
  | .shortBat => true
  | _ => false

/-- The kinds that use a bus (R127). -/
def ElecKind.usesBus : ElecKind → Bool
  | .shortPin => true
  | .leakGnd => true
  | .leakBat => true
  | _ => false

/-- The LEAK kinds (R127). -/
def ElecKind.leaks : ElecKind → Bool
  | .leakGnd => true
  | .leakBat => true
  | _ => false

/-- The kinds that draw on the short budget (R136). -/
def ElecKind.shorts : ElecKind → Bool
  | .shortGnd => true
  | .shortBat => true
  | _ => false

/-- The kinds that use the isolate-load flag (R127). -/
def ElecKind.isolates : ElecKind → Bool
  | .openLine => false
  | .shortPin => false
  | _ => true

/-- R129's third check for an ELECTRICAL definition, in the order of R127; the fields a kind does not use, OPEN's trip fields
among them, are not looked at. -/
def electricalChecks (r : RawElectrical) : List (Bool × Refused) :=
  let lines := r.lines.take r.lineCount
  match parseElecKind r.kind with
  | none => [(true, badField 3)]
  | some k =>
    [ (outside 1 8 r.lineCount || lines.any (fun l => Config.lines ≤ l) || !decide lines.Nodup ||
        (k = .shortPin && r.lineCount < 2), badField 4),
      (k.usesBus && outside 0 3 r.bus, badField 5),
      (k.leaks && outside 0 15 r.resistance, badField 6),
      (k ≠ .openLine && outsideIf 100 8000 r.tripLimit, badField 8),
      (k ≠ .openLine && outsideIf 50 100000 r.tripTime, badField 9),
      (r.chatter.isSome && !k.chatters, badField 10),
      (r.chatter.any (fun c => 1000000 < c.onTime), badField 10),
      (r.chatter.any (fun c => 1000000 < c.offTime), badField 11) ]

/-- R129's fourth check: chatter times below twice the settle interval in force. -/
def chatterChecks (settle : Nat) (r : RawElectrical) : List (Bool × Refused) :=
  [ (r.chatter.any (fun c => c.onTime < 2 * settle), badField 10),
    (r.chatter.any (fun c => c.offTime < 2 * settle), badField 11) ]

/-- An ELECTRICAL definition as written; fields the kind does not use are ignored (R127). DESIGN CHOICE (log entry 39): an
ignored bus or resistance reads back absent, an ignored isolate clear; OPEN's trip fields are stored as given. -/
def storedElectrical (k : ElecKind) (r : RawElectrical) : Electrical where
  kind := k
  lines := r.lines.take r.lineCount
  bus := if k.usesBus then some r.bus else none
  resistance := if k.leaks then some r.resistance else none
  isolate := k.isolates && r.isolate
  tripLimit := r.tripLimit
  tripTime := r.tripTime
  chatter := r.chatter

/-- The signal fault a SIGNAL definition names, its kinds numbered in the order R128 lists them (DEDUCED, log entry
19). -/
def parseFault (r : RawSignal) : Option SigFault :=
  match r.kind with
  | 0 => some .stuck
  | 1 => some (.offset r.value)
  | 2 => some (.drop r.position r.count)
  | 3 => some (.shift r.value)
  | _ => none

/-- The fault kinds each channel kind accepts (the table of 2.9.1). -/
def Kind.accepts (k : Kind) : SigFault → Bool
  | .stuck => true
  | .offset _ => k ≠ .wheel
  | .drop _ _ => k = .wheel
  | .shift _ => k = .wheel

/-- R129's third check for a SIGNAL definition, in the order of R128; `kind` is the channel's present kind, which sets
the range of an OFFSET value. DESIGN CHOICE (log entry 45): an OFF channel has no kind and a WHEEL channel no range, so no
OFFSET value is checked there, and the later checks refuse the definition. -/
def signalChecks (kind : Option Kind) (r : RawSignal) : List (Bool × Refused) :=
  match parseFault r with
  | none => [(outside 0 31 r.channel, badField 3), (true, badField 4)]
  | some f =>
    (outside 0 31 r.channel, badField 3) ::
      (match f with
      | .stuck => []
      | .offset v => [(kind.any (fun k => k ≠ .wheel && k.top < v.natAbs), badField 5)]
      | .drop q n => [(outside 0 119 q, badField 5), (outside 1 120 n, badField 6)]
      | .shift v => [(46079 < v.natAbs, badField 5)])

/-- The index of the condition's kind among ENTRY_DEFINE's fields (10.8, log entry 18): after entry and class come the
ten class fields of an ELECTRICAL definition, or the channel, the signal kind and that kind's fields. -/
def conditionField : RawClass → Nat
  | .electrical _ => 13
  | .signal r =>
    match parseFault r with
    | some (.offset _) => 6
    | some (.drop _ _) => 7
    | some (.shift _) => 6
    | _ => 5
  | .unknown _ => 3

/-- R129's sixth check: the common fields of R128, the first at field index `at0`. -/
def commonChecks (at0 : Nat) (r : RawEntry) : List (Bool × Refused) :=
  let spacingBad := match r.condition with
    | .atAngle _ _ => outsideIf 0 65535 r.spacing
    | .onEvent _ _ => outsideIf 1 65535 r.spacing
    | _ => outsideIf 0 Config.max32 r.spacing
  [ (outsideIf 0 Config.max32 r.latestStart, badField at0),
    (match r.duration with | .unknown _ => true | _ => false, badField (at0 + 1)),
    (match r.duration with
      | .time n => outside 1 Config.max32 n
      | .angle n => outside 1 11796480 n
      | .untilEvent s => outside 0 15 s
      | _ => false, badField (at0 + 2)),
    (outsideIf 0 65535 r.repeatCount, badField (at0 + 3)),
    (spacingBad, badField (at0 + 4)) ]

def durationStored : RawDuration → Duration
  | .time n => .time n
  | .angle n => .angle n
  | .untilEvent s => .untilEvent s
  | .untilDisarm => .untilDisarm
  | .unknown _ => .untilDisarm

/-- The class of a checked definition as written. -/
def classStored : RawClass → EntryClass
  | .electrical r => .electrical (storedElectrical ((parseElecKind r.kind).getD .openLine) r)
  | .signal r => .signal r.channel ((parseFault r).getD .stuck)
  | .unknown _ => .signal 0 .stuck

/-- A checked definition as written (R129). -/
def definitionStored (r : RawEntry) : EntryDef where
  cls := classStored r.cls
  condition := conditionStored r.condition
  latestStart := r.latestStart
  duration := durationStored r.duration
  repeatCount := r.repeatCount
  spacing := r.spacing

/-! ### Operand forms of a stored definition -/

/-- The fault cell an electrical kind closes (R110). -/
def Electrical.faultCell (d : Electrical) : Option CellId :=
  match d.kind with
  | .openLine => none
  | .shortGnd => some .ground
  | .shortBat => some .battery
  | _ => some (busCell (d.bus.getD 0))

/-- The cells of each line an entry needs (R127): those its insertion commands. -/
def Electrical.neededCells (d : Electrical) : List CellId :=
  (if d.kind = .openLine || d.isolate then [.series] else []) ++ d.faultCell.toList

/-- The sense paths of an entry by sense number (R127, R141): a line's number, or 64 plus the bus; OPEN has none. -/
def Electrical.paths (d : Electrical) : List Nat :=
  match d.kind with
  | .openLine => []
  | .shortGnd => d.lines
  | .shortBat => d.lines
  | _ => [Config.lines + d.bus.getD 0]

/-- The lines an entry takes of the short budget (R136). -/
def Electrical.budget (d : Electrical) : Nat := if d.kind.shorts then d.lines.length else 0

/-- The insertion steps of each kind (R110). -/
def Electrical.insertSteps (d : Electrical) : List InsertStep :=
  match d.kind with
  | .openLine => [.openSeries]
  | .shortGnd => (if d.isolate then [.openSeries] else []) ++ [.closeFault .ground]
  | .shortBat => (if d.isolate then [.openSeries] else []) ++ [.closeFault .battery]
  | .shortPin => [.closeFault (busCell (d.bus.getD 0))]
  | _ => [if d.isolate then .openSeries else .settle, .closeFault (busCell (d.bus.getD 0))]

/-- The termination an insertion sets as it begins (R102, R110). -/
def Electrical.termination (d : Electrical) : Option Termination :=
  match d.kind with
  | .shortPin => some .none
  | .leakGnd => some (.resistorGnd (d.resistance.getD 0))
  | .leakBat => some (.resistorBat (d.resistance.getD 0))
  | _ => none

def EntryDef.electrical? (d : EntryDef) : Option Electrical :=
  match d.cls with
  | .electrical e => some e
  | .signal _ _ => none

def Entry.electrical? (e : Entry) : Option Electrical := e.definition.bind EntryDef.electrical?

/-- The channel and fault of a SIGNAL entry. -/
def Entry.signal? (e : Entry) : Option (Nat × SigFault) :=
  e.definition.bind fun d =>
    match d.cls with
    | .electrical _ => none
    | .signal c f => some (c, f)

end Sys2Proof.Machine
end

