-- ==== Sys2Proof/Machine/Angle.lean ====
section
/-! DEFINITION. The accumulator's motions, the passing of angles, and the speed's arithmetic (R2 to R15). -/

namespace Sys2Proof.Machine

/-- The increment of a speed value, in 1/65,536 units per µs (R7). -/
def incrementOf (speed : Nat) : Nat := (speed * 6291456 + 500000) / 1000000

/-- The follow step of E counts per revolution (R10). -/
def followStep (counts : Nat) : Nat := roundHalfUp (Config.revUnits * Config.unitParts) counts

/-- One motion of the accumulator (R2, R8, R10): forward past the top of the cycle raises the cycle count, backward below
0 lowers it, each modulo 2^32. -/
def Engine.move (forward : Bool) (amount : Nat) (e : Engine) : Engine × Move :=
  let e' :=
    if forward then
      (if Config.cycleParts ≤ e.acc + amount then
        { e with acc := e.acc + amount - Config.cycleParts, cycle := wrap32 (e.cycle + 1) }
      else { e with acc := e.acc + amount })
    else
      (if amount ≤ e.acc then { e with acc := e.acc - amount }
      else { e with acc := e.acc + Config.cycleParts - amount, cycle := wrap32 (e.cycle + Config.mod32 - 1) })
  (e', { forward := forward, amount := amount, angleBefore := e.angle, angleAfter := e'.angle, cycleBefore := e.cycle,
         cycleAfter := e'.cycle })

/-- Whether a motion passes an angle (R3): forward from p to q it passes p + 1 to q; where q is less than p it has crossed
the top and passes p + 1 to 46,079 and 0 to q. Backward motion passes nothing. -/
def Move.passes (m : Move) (a : Nat) : Bool :=
  m.forward &&
    (if m.angleBefore ≤ m.angleAfter then m.angleBefore < a && a ≤ m.angleAfter
    else (m.angleBefore < a && a < Config.cycleUnits) || a ≤ m.angleAfter)

/-- The cycle count an angle is passed on (R3): the old count before the crossing of the top, the new from 0 on. -/
def Move.passCycle (m : Move) (a : Nat) : Nat :=
  if m.angleBefore ≤ m.angleAfter then m.cycleAfter else if m.angleBefore < a then m.cycleBefore else m.cycleAfter

/-- The FIXED ramp's internal speed after one update (R5). -/
def rampStep (internal target rate : Nat) : Nat :=
  let goal := target * 1000
  let step := rate * 4
  if internal ≤ goal then (if goal - internal ≤ step then goal else internal + step)
  else if internal - goal ≤ step then goal else internal - step

/-- The speed value written, with its increment computed anew where the value has changed; in FOLLOW the increment is held
at 0 (R5, R7). -/
def Engine.withSpeed (speed : Nat) (e : Engine) : Engine :=
  { e with
    speed := speed
    increment := if e.mode = .follow then 0 else if speed = e.speed then e.increment else incrementOf speed }

/-- The speed taken in TRACK or FOLLOW: internal speed and target follow it (R4, R9, R15). -/
def Engine.takeSpeed (speed : Nat) (e : Engine) : Engine :=
  { e.withSpeed speed with internal := speed * 1000, target := speed }

/-- The speed estimate of a completed window (R15). -/
def followSpeed (net : Int) (counts : Nat) : Nat :=
  min (roundHalfUp (net.natAbs * 240000) counts) Config.maxSpeed

/-- The signed distance from an index candidate to an angle, taken circularly into −23,040..23,039 (R12). -/
def circularError (angle candidate : Nat) : Int :=
  ((angle : Int) - (candidate : Int) + 23040) % 46080 - 23040

/-- The index candidate the snap takes (R12): the nearer; of two equally near, the one forward of the angle. -/
def snapCandidate (angle offset : Nat) : Nat :=
  let e1 := circularError angle offset
  let e2 := circularError angle (offset + Config.revUnits)
  if e1.natAbs < e2.natAbs then offset
  else if e2.natAbs < e1.natAbs then offset + Config.revUnits
  else if e1 < 0 then offset else offset + Config.revUnits

/-- The index snap as a motion (R12): forward where the error is negative, else backward, by the difference between the
combined values taken that way. -/
def Engine.snap (e : Engine) : Engine × Move :=
  let candidate := snapCandidate e.angle e.offset
  let goal := candidate * Config.unitParts
  if circularError e.angle candidate < 0 then
    e.move true ((goal + Config.cycleParts - e.acc) % Config.cycleParts)
  else e.move false ((e.acc + Config.cycleParts - goal) % Config.cycleParts)

/-- The engine written back, raising its notice where the mode or the motion status has changed (R4, R20). DESIGN CHOICE (log
entry 48): where one order changes both, as safe hold's of a moving TRACK engine does (R18), that is one cause. -/
def Part.setEngine (e : Engine) (p : Part) : Part :=
  let p' := { p with engine := e }
  if e.mode = p.engine.mode && e.motion = p.engine.motion then p' else p'.raise .engine

/-- A travel after a motion (R57): forward adds, backward subtracts and is held at 0. -/
def Move.travel (m : Move) (travel : Nat) : Nat :=
  if m.forward then travel + m.amount else travel - m.amount

end Sys2Proof.Machine
end

