-- ==== Sys2Proof/Machine/Render.lean ====
section
/-! DEFINITION. What a channel renders: base values, signal-fault modifiers, periods, teeth and pins (R22, R28 to R43). -/

namespace Sys2Proof.Machine

/-- A segment's value at an elapsed amount: a HOLD's start value; a RAMP's start plus (end − start) × e / L, the quotient
truncated toward zero (R31). -/
def Segment.valueAt (r : Segment) (e : Nat) : Nat :=
  match r.shape, r.stop with
  | .ramp, some stop => ((r.start : Int) + (((stop : Int) - r.start) * e).tdiv r.length).toNat
  | _, _ => r.start

/-- The value a channel renders once the record has completed it (R28). -/
def Segment.endValue (r : Segment) : Nat :=
  match r.shape, r.stop with
  | .ramp, some stop => stop
  | _, _ => r.start

/-- The segment in play. -/
def Channel.playing (ch : Channel) : Option (Play × Segment) :=
  ch.play.bind fun pl =>
    (ch.queue[pl.place]?).bind fun q =>
      match q.content with
      | .segment r => some (pl, r)
      | .loop _ _ _ _ => none

/-- The elapsed amount e of the record in play (R31): microseconds since it started, or whole units of travel. -/
def elapsedOf (now : Nat) (pl : Play) (r : Segment) : Nat :=
  match r.basis with
  | .time => now - pl.startTick
  | .angle => pl.travel / Config.unitParts

/-- The park value (R23). -/
def Channel.park (ch : Channel) : Nat := (ch.config.map ChConfig.parkValue).getD 0

/-- The base value of a channel that takes segments, from its state (2.3.1). -/
def Channel.baseNow (now : Nat) (ch : Channel) : Nat :=
  match ch.state with
  | .off => 0
  | .idle => ch.park
  | .primed => ch.park
  | .held => ch.park
  | .running =>
    match ch.playing with
    | some (pl, r) => r.valueAt (elapsedOf now pl r)
    | none => ch.park
  | .starved => ch.held
  | .done => ch.held
  | .faulted => ch.held

/-- The largest value the channel's kind renders (R30). -/
def Channel.top (ch : Channel) : Nat := (ch.kind.map Kind.top).getD 0

/-- A render takes the modifier the channel then holds (R40, R41). `last` is the value, and for PWM the frequency, that STUCK
takes at its first render. -/
def Channel.take (last : Nat × Nat) (ch : Channel) : Channel :=
  { ch with modifier := ch.modifier.map (Modifier.taken last), applied := ch.modifier.map (Modifier.taken last) }

/-- A value rendered (R30, R40 to R42): the modifier taken is applied to the base value and the result held within the
kind's range. -/
def Channel.show (base : Nat) (ch : Channel) : Channel :=
  match ch.applied with
  | none => { ch with base := base, output := min base ch.top }
  | some m =>
    match m.fault with
    | .stuck => { ch with base := base, output := (m.stuck.map Prod.fst).getD ch.output }
    | .offset d => { ch with base := base, output := min ((base : Int) + d).toNat ch.top }
    | _ => { ch with base := base, output := min base ch.top }

/-- The DAC code of a level in millivolts (R32). -/
def dacCode (millivolts : Nat) : Nat := roundHalfUp (millivolts * 65535) 12000

/-- A LEVEL or SPEED channel's value shown; a LEVEL channel writes its DAC code (R32, R39). -/
def Channel.levelShow (now : Nat) (ch : Channel) : Channel :=
  match ch.kind with
  | some .level =>
    let ch' := ch.show (ch.baseNow now)
    { ch' with dac := dacCode ch'.output }
  | some .speed => ch.show (ch.baseNow now)
  | _ => ch

/-- The render of a LEVEL or SPEED channel at a level tick (R32, R39). -/
def Channel.levelRender (now : Nat) (ch : Channel) : Channel := (ch.take (ch.output, 0)).levelShow now

/-- A period's length in fine ticks (R33, R35). -/
def periodLength (frequency : Nat) : Nat := roundHalfUp 400000000 frequency

/-- A PWM period begun at a fine tick with the duty and frequency shown (R33, R34): the rendered duty and the current
frequency, or the pair STUCK holds (R41). -/
def Channel.pwmShow (now start : Nat) (ch : Channel) : Channel :=
  let ch' := ch.show (ch.baseNow now)
  let freq := match ch.applied with
    | some { entry := _, fault := .stuck, stuck := some v } => v.2
    | _ => ch.frequency.getD 0
  let length := periodLength freq
  { ch' with
    period := some { frequency := freq, duty := ch'.output, length := length,
                     high := roundHalfUp (length * ch'.output) 10000, start := start } }

/-- The next PWM period, begun at a fine tick (R33, R34); STUCK takes the pair of the period before it (R41). -/
def Channel.pwmPeriod (now start : Nat) (ch : Channel) : Channel :=
  (ch.take (match ch.period with
    | some q => (q.duty, q.frequency)
    | none => (ch.output, ch.frequency.getD 0))).pwmShow now start

/-- A PULSE period begun at a fine tick where the frequency shown is not 0 (R35, R36): the pulse is the smaller of the
configured width and half the period. -/
def Channel.pulseFrom (start : Nat) (ch : Channel) : Channel :=
  if ch.output = 0 then { ch with period := none }
  else
    let length := periodLength ch.output
    let width := ((ch.config.bind ChConfig.pulseWidth).getD 0) * Config.finePerMicro
    { ch with
      period := some { frequency := ch.output, duty := 0, length := length, high := min width (length / 2),
                       start := start } }

/-- A PULSE channel's rendered frequency shown, and the period it begins at a fine tick (R35, R36). -/
def Channel.pulseShow (now start : Nat) (ch : Channel) : Channel := (ch.show (ch.baseNow now)).pulseFrom start

/-- A PULSE channel's render and, where the rendered frequency is not 0, the next period (R35, R36); STUCK takes the
frequency of the period before it, or 0 (R41). -/
def Channel.pulsePeriod (now start : Nat) (ch : Channel) : Channel :=
  (ch.take (match ch.period with
    | some q => (q.frequency, 0)
    | none => (0, 0))).pulseShow now start

/-- Whether the record in play has reached its length (R56, R57). -/
def reachedLength (now : Nat) (pl : Play) (r : Segment) : Bool :=
  match r.basis with
  | .time => pl.startTick + r.length ≤ now
  | .angle => r.length * Config.unitParts ≤ pl.travel

/-- Whether play is due on a channel on a tick and has not been taken (R25, R54, R56, R57): its start, its resuming, or the
end of its record. -/
def Channel.playWaits (now : Nat) (ch : Channel) : Bool :=
  match ch.state with
  | .running =>
    match ch.startAt with
    | some t => t ≤ now
    | none => ch.playing.any fun x => reachedLength now x.1 x.2
  | .starved => !ch.queue.isEmpty && ch.resumeAt.any fun t => t ≤ now
  | _ => false

/-- Whether a channel is PULSE, shows something and runs no period (R36). -/
def Channel.looking (ch : Channel) : Bool := decide (ch.state ≠ .off) && decide (ch.kind = some .pulse) && ch.period.isNone

/-- Whether a channel takes its values at level ticks (R22). -/
def Channel.levelled (ch : Channel) : Bool :=
  decide (ch.state ≠ .off) && (decide (ch.kind = some .level) || decide (ch.kind = some .speed))

/-- A channel's first period where it has none: PWM, and PULSE with a nonzero frequency, start one on the tick of the
change (R34, R36). -/
def Channel.firstPeriod (now : Nat) (ch : Channel) : Channel :=
  match ch.kind with
  | some .pwm => ch.pwmPeriod now (now * Config.finePerMicro)
  | some .pulse => ch.pulsePeriod now (now * Config.finePerMicro)
  | _ => ch

/-- Whether an angle lies within a present tooth of the pattern (R38), with the positions a DROP takes away (R43). -/
def Pattern.tooth (pt : Pattern) (drop : Option (Nat × Nat)) (angle : Nat) : Bool :=
  let pitch := pt.span / pt.positions
  let rel := (angle + pt.span - pt.offset) % pt.span
  let k := rel / pitch
  let dropped := match drop with
    | some (q, n) => (k + pt.positions - q % pt.positions) % pt.positions < n
    | none => false
  rel % pitch < pt.width && !pt.missing.contains k && !dropped

/-- The angle a pattern is evaluated at: modulo its span, moved by a SHIFT (R38, R43). -/
def Pattern.angleAt (pt : Pattern) (shift : Int) (angle : Nat) : Nat :=
  (((angle % pt.span : Nat) + shift) % (pt.span : Int)).toNat

/-- A WHEEL channel's render: RUNNING from the angle, else its park state (R25, R38). DROP and SHIFT act on the pattern
of a RUNNING channel (R43), STUCK on the state shown (R41). -/
def Channel.wheelRender (pattern : Option Pattern) (angle : Nat) (ch : Channel) : Channel :=
  let fromAngle := ch.state = .running && ch.startAt.isNone
  let shown (drop : Option (Nat × Nat)) (shift : Int) : Nat :=
    match pattern with
    | some pt => if pt.tooth drop (pt.angleAt shift angle) then 1 else 0
    | none => 0
  let base := if fromAngle then shown none 0 else ch.park
  let ch' := ch.show base
  if fromAngle then
    match ch.applied.map Modifier.fault with
    | some (.drop q n) => { ch' with output := shown (some (q, n)) 0 }
    | some (.shift s) => { ch' with output := shown none s }
    | _ => ch'
  else ch'

/-- A channel whose render is the microsecond tick takes its modifier as the tick comes (R40, log entry 35): a WHEEL channel,
and a PULSE channel with no period running, whose STUCK takes 0 (R41). -/
def Channel.tickTake (ch : Channel) : Channel :=
  if ch.kind = some .wheel && ch.state ≠ .off then ch.take (ch.output, 0)
  else if ch.looking then ch.take (0, 0)
  else ch

/-- The pattern a channel names. -/
def Part.patternOf (p : Part) (ch : Channel) : Option Pattern :=
  (ch.config.bind ChConfig.pattern).bind p.pattern

/-- The pin of a two-state output (R22, R33, R38): `high_level` or `low_level` on bank A, logic on bank D. -/
def Channel.twoState (c : Nat) (high : Bool) (ch : Channel) : Nat :=
  if c < Config.bankA then
    dacCode (((ch.config.bind fun cfg => if high then cfg.highLevel else cfg.lowLevel)).getD 0)
  else if high then 1 else 0

/-- Whether the running period's output is in its high state at a fine tick (R33, R35). -/
def Period.highAt (q : Period) (fine : Nat) : Bool := q.start ≤ fine && fine < q.start + q.high

/-- A channel's pin as it stands on a tick (R22): a DAC code on bank A, 0 or 1 on bank D. DESIGN CHOICE (log entry 34): a
level that CHANNEL_CONFIG changes while a bank A output stands in its state reaches the pin at once. -/
def Part.pinOf (p : Part) (c : Nat) (ch : Channel) : Nat :=
  match ch.state, ch.kind with
  | .off, _ => 0
  | _, none => 0
  | _, some .level => ch.dac
  | _, some .speed => 0
  | _, some .wheel =>
    ch.twoState c (decide (ch.output = 1) == ((p.patternOf ch).map Pattern.toothHigh).getD true)
  | _, some _ => ch.twoState c ((ch.period.map fun q => q.highAt (p.now * Config.finePerMicro)).getD false)

/-- A channel written back with its pin brought up to date. -/
def Part.putChannel (c : Nat) (ch : Channel) (p : Part) : Part := p.setChannel c { ch with pin := p.pinOf c ch }

/-- A change made to every channel in turn, each with its number. -/
def Part.mapChannels (f : Nat → Channel → Channel) (p : Part) : Part :=
  { p with channels := p.channels.mapIdx f }

/-- One WHEEL channel renders on the present tick (R25, R82). -/
def Part.renderWheel (c : Nat) (p : Part) : Part :=
  p.putChannel c ((p.channel c).wheelRender (p.patternOf (p.channel c)) p.engine.angle)

/-- Every WHEEL channel that is not OFF renders (R38). -/
def Part.renderWheels (p : Part) : Part :=
  p.mapChannels fun c ch =>
    if ch.kind = some .wheel && ch.state ≠ .off then
      let ch' := ch.wheelRender (p.patternOf ch) p.engine.angle
      { ch' with pin := p.pinOf c ch' }
    else ch

/-- Every PWM and PULSE pin as it stands on the present tick (R33, R35). -/
def Part.refreshPins (p : Part) : Part :=
  p.mapChannels fun c ch =>
    if ch.kind = some .pwm || ch.kind = some .pulse then { ch with pin := p.pinOf c ch } else ch

/-- Every LEVEL and SPEED channel that is not OFF renders (R32, R39). -/
def Part.renderLevels (p : Part) : Part :=
  p.mapChannels fun c ch =>
    if ch.levelled then
      let ch' := ch.levelRender p.now
      { ch' with pin := p.pinOf c ch' }
    else ch

/-- Every PULSE channel with no period running looks at its rendered frequency (R22, R36). While play is due on the channel
the base value last rendered stands, and the channel looks again when the play is taken (2.4.1, R56; log entry 42). -/
def Part.renderLooks (p : Part) : Part :=
  p.mapChannels fun c ch =>
    if ch.looking then
      let ch' := ch.show (if ch.playWaits p.now then ch.base else ch.baseNow p.now)
      { ch' with pin := p.pinOf c ch' }
    else ch

/-- Whether a period began on the present tick, at one of the fine ticks since the tick before. -/
def Period.begunOn (now : Nat) (q : Period) : Bool :=
  q.start ≤ now * Config.finePerMicro && now * Config.finePerMicro < q.start + Config.finePerMicro

/-- Whether a channel's render of the present tick has been taken, so that play taken after it renders again: a level tick
taken (`waits` is its mark), a period begun on the tick, or the look (2.4.1, 3.5.1). -/
def Channel.rendered (now : Nat) (waits : Bool) (ch : Channel) : Bool :=
  if ch.levelled then now % 10 = 0 && !waits
  else ch.looking ||
    ((ch.kind = some .pwm || ch.kind = some .pulse) && ch.period.any fun q => q.begunOn now)

/-- The render of the present tick taken again, with the modifier it took (R40): a level, the look, or the period begun on
the tick. -/
def Channel.again (now : Nat) (ch : Channel) : Channel :=
  if ch.levelled then ch.levelShow now
  else if ch.looking then ch.show (ch.baseNow now)
  else
    match ch.kind, ch.period with
    | some .pwm, some q => ch.pwmShow now q.start
    | some .pulse, some q => ch.pulseShow now q.start
    | _, _ => ch

/-- A channel renders again on a tick whose render has been taken, so that a record started after it, or moved on by a
motion after it, is shown on the tick (R55, 3.5.1); not while play is due on it. -/
def Part.renderAgain (c : Nat) (p : Part) : Part :=
  let ch := p.channel c
  if ch.rendered p.now p.marks.level && !ch.playWaits p.now then p.putChannel c (ch.again p.now) else p

/-- Whether a channel's record in play moves by the angle (R57). -/
def Channel.onAngle (ch : Channel) : Bool := ch.state = .running && ch.playing.any fun x => x.2.basis = .angle

/-- Every channel whose ANGLE record a motion has moved on renders again where its render of the tick was taken before the
motion (3.5.1). -/
def Part.renderTravels (p : Part) : Part :=
  p.mapChannels fun c ch =>
    if ch.onAngle && ch.rendered p.now p.marks.level && !ch.playWaits p.now then
      let ch' := ch.again p.now
      { ch' with pin := p.pinOf c ch' }
    else ch

end Sys2Proof.Machine
end

