-- ==== Sys2Proof/Machine/Store.lean ====
section
/-! DEFINITION. Slots, queues and records: taking and freeing slots, the store check, and the channel states the store
brings about (R47 to R66). What follows from an event on the same tick is left as tasks for Machine/Cascade.lean. -/

namespace Sys2Proof.Machine

/-- Work that follows on the same tick, in the course of the event that raised it (R72, R82, R137). -/
inductive Task where
  /-- An occurrence is raised (R74). -/
  | occur (o : Occurrence)
  /-- A source raises a cause (R176). -/
  | notify (src : NoticeSource)
  /-- An ARMED entry's waiting form is met, with its due point (R134). -/
  | due (entry : Nat) (w : Waiting) (point : Nat)
  /-- An ARMED group's waiting form is met (R82). -/
  | startGroup (group : Nat) (w : Waiting)
  /-- A PRIMED channel of a starting group starts (R82). -/
  | startMember (channel : Nat)
  /-- A group whose member channels have started is counted (R82). -/
  | groupDone (group started : Nat)
  /-- Play reaches a place of a queue, with the carry of an ANGLE record that ended on this tick, the pending count before
  and the marker of the record that ended (R55, R58 to R60). -/
  | arrive (channel place : Nat) (carry : Option Nat) (before marker : Nat)
  /-- The low-water cause is tested against the pending count before (R63). -/
  | lowWater (channel before : Nat)
  /-- The record in play ends if its length is reached (R56, R57). -/
  | endSegment (channel : Nat)
  /-- A STARVED channel with an appended record resumes (R54). -/
  | resume (channel : Nat)
  /-- A monitor offers a capture record (R93). -/
  | capture (monitor : Nat) (up : Bool)
  /-- A channel whose play has been taken renders again where its render of the tick was taken before (R55). -/
  | renderAgain (channel : Nat)
  /-- The play due on a channel is taken, as it is before the channel renders on the tick (2.4.1). -/
  | play (channel : Nat)
  /-- An occurrence was counted on an entry's UNTIL_EVENT slot, with the entry's ended occurrences at that moment (R140). -/
  | endUntil (entry ended : Nat)
  /-- An ACTIVE entry's occurrence ends with a cause (R143). -/
  | endActive (entry : Nat) (cause : EndCause)
  /-- The claim arbiter judges a BLOCKED entry in the pass of a give-back of these lines (R137, R185). -/
  | judge (entry : Nat) (back : List Nat)
  /-- The release of an entry has ended, leaving these lines BROKEN (R113). -/
  | released (entry : Nat) (broken : List Nat)
  /-- An occurrence has ended and its entry is settled (R144). -/
  | finish (entry : Nat)
  deriving DecidableEq, Repr

/-! ### Slots -/

/-- The slots that hold a record (R47). -/
def Part.heldSlots (p : Part) : List Nat := p.channels.flatMap fun ch => ch.queue.map QRec.slot

/-- The lowest-numbered slot from `n` on that is not used, looked for over `fuel` slots (R47). -/
def firstFree : Nat → Nat → List Nat → Nat
  | 0, n, _ => n
  | fuel + 1, n, used => if used.contains n then firstFree fuel (n + 1) used else n

/-- The slots an append of `k` records takes, lowest free first, one for each record in order (R47). -/
def takeSlots : Nat → List Nat → List Nat
  | 0, _ => []
  | k + 1, used =>
    let s := firstFree (used.length + 1) 0 used
    s :: takeSlots k (s :: used)

/-- Reading a slot and checking it (R64, R65): false if it cannot be read; a correctable error is put right, written back
and logged. -/
def Part.readSlot (c slot : Nat) (p : Part) : Bool × Part :=
  match p.damage.find? fun d => d.1 = slot with
  | none => (true, p)
  | some (_, .correctable) =>
    (true, ({ p with damage := p.damage.filter fun d => d.1 ≠ slot }).logError .storeCorrected (.channel c) slot)
  | some (_, .uncorrectable) => (false, p)

/-- A bit error that comes into a slot; with an error in it already the record is beyond the code's correction, which
mends one bit and detects two (3.6.1, log entry 7). -/
def addDamage (slot : Nat) (e : SlotError) (ds : List (Nat × SlotError)) : List (Nat × SlotError) :=
  if ds.any fun d => d.1 = slot then ds.map fun d => if d.1 = slot then (slot, .uncorrectable) else d
  else ds ++ [(slot, e)]

/-! ### Queues and states -/

/-- A channel's queue freed whole: place of play and starved tick cleared (R66). -/
def Channel.emptied (ch : Channel) : Channel :=
  { ch with queue := [], play := none, starvedAt := none, startAt := none, resumeAt := none }

/-- A channel written back in a state, its notice raised if the state has changed (R45). -/
def Part.enterState (c : Nat) (st : ChState) (ch : Channel) (p : Part) : Part :=
  let p' := p.putChannel c { ch with state := st }
  if (p.channel c).state = st then p' else p'.raise (.channel c)

/-- A channel returned to its park value with its queue freed (R26, R29): a PWM channel's current frequency becomes
`pwm_frequency`. -/
def Channel.parked (ch : Channel) : Channel :=
  { ch.emptied with frequency := ch.config.bind ChConfig.pwmFrequency }

/-- Whether a loop record held later in the queue has the record at a place in its body (R53, R58). -/
def retainedAt (queue : List QRec) (place : Nat) : Bool :=
  (queue.zipIdx).any fun (q, j) =>
    match q.content with
    | .loop k _ _ _ => place < j && j ≤ place + k
    | .segment _ => false

/-- The channel starves: no record follows the one that ended (R60). -/
def Part.starve (c marker : Nat) (p : Part) : Part :=
  let ch := p.channel c
  (p.logError .channelUnderrun (.channel c) marker).enterState c .starved
    { ch with play := none, starvedAt := some p.now, startAt := none, resumeAt := none }

/-- The channel finds a record it cannot read (R65): FAULTED, its queue freed. -/
def Part.faultChannel (c slot : Nat) (p : Part) : Part :=
  (p.logError .storeUncorrectable (.channel c) slot).enterState c .faulted (p.channel c).emptied

/-- A segment starts (R55): it becomes the record in play, with the carry as its travel if it is of ANGLE basis, and a PWM
channel takes its secondary. What follows: its marker's occurrence, the low-water test, and its end if the carry reaches
its length (R57). -/
def Part.startSegment (c place : Nat) (r : Segment) (carry : Option Nat) (before : Nat) (p : Part) : Part × List Task :=
  let ch := p.channel c
  let travel := if r.basis = .angle then carry.getD 0 else 0
  let ch' := { ch with
    play := some { place := place, startTick := p.now, travel := travel }
    frequency := if ch.kind = some .pwm then (r.secondary.orElse fun _ => ch.frequency) else ch.frequency
    startAt := none
    resumeAt := none }
  (p.setChannel c ch',
    (match r.marker with
      | some m => [.occur (.segmentMark m c)]
      | none => []) ++
    [.lowWater c before] ++
    (if r.basis = .angle && r.length * Config.unitParts ≤ travel then [.endSegment c] else []))

/-- Play reaches a place of the queue (R55, R58 to R60): a segment starts; a loop record returns to its body while it is
unbroken and passes are left, and otherwise is freed with its body; past the tail the channel starves. -/
def Part.arrive (c place : Nat) (carry : Option Nat) (before marker : Nat) (p : Part) : Part × List Task :=
  match (p.channel c).queue[place]? with
  | none => (p.starve c marker, [])
  | some q =>
    match p.readSlot c q.slot with
    | (false, p') => (p'.faultChannel c q.slot, [])
    | (true, p') =>
      match q.content with
      | .segment r => p'.startSegment c place r carry before
      | .loop k r remaining broken =>
        let ch := p'.channel c
        if !broken && (r = 0 || 0 < remaining) then
          let left := if r = 0 then remaining else remaining - 1
          let q' := { q with content := .loop k r left broken }
          (p'.setChannel c { ch with queue := ch.queue.set place q' }, [.arrive c (place - k) carry before marker])
        else
          (p'.setChannel c { ch with queue := ch.queue.take (place - k) ++ ch.queue.drop (place + 1) },
            [.arrive c (place - k) carry before 0])

/-- The record in play ends (R56 to R58): its slot is retained or freed, and play goes on to the record after it, or the
channel becomes DONE where it carries the END flag; where the channel's render of the tick was taken before, it renders again
(R55, R58). -/
def Part.endSegment (c : Nat) (p : Part) : Part × List Task :=
  let ch := p.channel c
  match ch.state, ch.playing with
  | .running, some (pl, r) =>
    if reachedLength p.now pl r then
      if r.endFlag then (p.enterState c .done { ch.emptied with held := r.endValue }, [.renderAgain c])
      else
        let kept := retainedAt ch.queue pl.place
        let carry := if r.basis = .angle then some (pl.travel - r.length * Config.unitParts) else none
        (p.setChannel c { ch with
            queue := if kept then ch.queue else ch.queue.eraseIdx pl.place
            play := none
            held := ch.base },
          [.arrive c (if kept then pl.place + 1 else pl.place) carry ch.pending (r.marker.getD 0), .renderAgain c])
    else (p, [])
  | _, _ => (p, [])

/-- A PRIMED channel becomes RUNNING on the tick of its group's start (R82): a WHEEL channel renders from the angle, any
other starts its head record and renders it where the tick's own render was taken before the start (R55). -/
def Part.startMember (c : Nat) (p : Part) : Part × List Task :=
  let ch := p.channel c
  if ch.state = .primed then
    let ch' := { ch with runStart := some p.now, startAt := none, held := ch.park }
    let p' := p.enterState c .running ch'
    if ch.kind = some .wheel then (p'.renderWheel c, [])
    else (p', [.arrive c 0 none ch.queue.length 0, .renderAgain c])
  else (p, [])

/-- A STARVED channel resumes on the tick after an accepted append (R54): it becomes RUNNING and adds the starved time to its
slip total, unless the record cannot be read; the record is rendered on the tick where the render was taken before. -/
def Part.resume (c : Nat) (p : Part) : Part × List Task :=
  let ch := p.channel c
  match ch.state, ch.resumeAt, ch.queue.head? with
  | .starved, some t, some q =>
    if t ≤ p.now then
      if p.damage.contains (q.slot, .uncorrectable) then (p.faultChannel c q.slot, [])
      else
        let slip := p.now - ch.starvedAt.getD p.now
        (p.enterState c .running
            { ch with slipTotal := min (ch.slipTotal + slip) Config.max32, starvedAt := none, resumeAt := none,
                      runStart := some p.now },
          [.arrive c 0 none ch.queue.length 0, .renderAgain c])
    else (p, [])
  | _, _, _ => (p, [])

/-- A channel started by CHANNEL_START with no group starts on the next tick (R25): a WHEEL channel renders from the angle,
any other starts its head record and renders it on the tick where its render was taken before (R55). -/
def Part.runStart (c : Nat) (p : Part) : Part × List Task :=
  let ch := p.channel c
  match ch.state, ch.startAt with
  | .running, some t =>
    if t ≤ p.now then
      let p' := p.setChannel c { ch with startAt := none, held := ch.park }
      if ch.kind = some .wheel then (p'.renderWheel c, [])
      else (p', [.arrive c 0 none ch.queue.length 0, .renderAgain c])
    else (p, [])
  | _, _ => (p, [])

/-- The play of a channel that is due on the present tick, whichever piece it is: its start, its resuming, or the end of
its record (R25, R54, R56, R57). -/
def Part.playDue (c : Nat) (p : Part) : Part × List Task :=
  match (p.channel c).state with
  | .running => if (p.channel c).startAt.isSome then p.runStart c else p.endSegment c
  | .starved => p.resume c
  | _ => (p, [])

/-- The low-water cause (R63): pending taken from above the mark to at or below it. -/
def Part.lowWater (c before : Nat) (p : Part) : Part :=
  let ch := p.channel c
  if ch.lowMark ≠ 0 && ch.lowMark < before && ch.pending ≤ ch.lowMark then p.raise (.channel c) else p

end Sys2Proof.Machine
end

