-- ==== Sys2Proof/Machine/Steps.lean ====
section
/-! DEFINITION. The matrix's cell commands, steps and readbacks, insertion and release, isolation and lockout (R101 to
R120). -/

namespace Sys2Proof.Machine

/-- Whether the matrix holds a line for an entry (R104). -/
def LineState.isHeld : LineState → Bool
  | .held _ => true
  | _ => false

/-- Whether a line is ISOLATED (R104). -/
def LineState.isIsolated : LineState → Bool
  | .isolated _ => true
  | _ => false

/-- Whether a line is BROKEN or ISOLATED, so that it is not armed on (R131) and not handed over (R185). -/
def LineState.isUnfit : LineState → Bool
  | .broken => true
  | .isolated _ => true
  | _ => false

/-! ### Cell commands -/

/-- A line's new state, the matrix notice raised for every change but into HELD and out of HELD to PASS (R104, R124). -/
def Part.setLineState (l : Nat) (st : LineState) (p : Part) : Part :=
  let old := (p.line l).state
  let p' := p.setLine l { p.line l with state := st }
  match old, st with
  | .held _, .pass => p'
  | _, .held _ => p'
  | _, _ => if old = st then p' else p'.raise .matrix

/-- An open command to a cell; its tick is the line's last open time, and no close stays held back (R101, R109). -/
def Part.commandOpen (l : Nat) (c : CellId) (p : Part) : Part :=
  let ln := p.line l
  p.setLine l { ln.setCell c { ln.cell c with commanded := false } with lastOpen := p.now, heldClose := none }

/-- A close command to a cell, given at once. -/
def Part.commandClosed (l : Nat) (c : CellId) (p : Part) : Part :=
  let ln := p.line l
  p.setLine l { ln.setCell c { ln.cell c with commanded := true } with heldClose := none }

/-- A close command under the laws of R109: a series cell's is given at once; a fault cell's is not given in SAFE or
LOCKOUT, and is held back until one settle interval has passed since the line's last open. -/
def Part.commandClose (l : Nat) (c : CellId) (p : Part) : Part :=
  if c = .series then p.commandClosed l c
  else if p.closesBarred then p
  else if p.now < (p.line l).lastOpen + p.matrix.settle then p.setLine l { p.line l with heldClose := some c }
  else p.commandClosed l c

/-- The commands of one attempt (R106). -/
def Part.giveCommands (closing : Bool) (targets : List (Nat × CellId)) (p : Part) : Part :=
  targets.foldl (fun q t => if closing then q.commandClose t.1 t.2 else q.commandOpen t.1 t.2) p

/-- The tick of an attempt's readback: one settle interval after its last command, absent while a close is held back
(R106). -/
def Part.readTick (targets : List (Nat × CellId)) (p : Part) : Option Nat :=
  if targets.any fun t => (p.line t.1).heldClose.isSome then none else some (p.now + p.matrix.settle)

/-- An attempt begun: its commands given and its readback set. -/
def Part.beginAttempt (closing verified : Bool) (attempt : Nat) (targets : List (Nat × CellId)) (p : Part) :
    Part × Step :=
  let p' := p.giveCommands closing targets
  (p', { closing := closing, verified := verified, targets := targets, attempt := attempt, readAt := p'.readTick targets })

/-! ### Readback and wear -/

/-- A readback that disagrees with the command: the no-make count rises, and reaching the wear threshold marks the cell
WORN, logs CELL_WORN and raises the matrix notice (R106, R108). -/
def Part.countNoMake (l : Nat) (c : CellId) (p : Part) : Part :=
  let x := p.cell l c
  let n := bump 255 x.noMake
  let p' := p.setCell l c { x with noMake := n }
  if p.matrix.wearThreshold ≤ n && !x.worn then
    (((p'.setCell l c { x with noMake := n, worn := true }).logError .cellWorn (.cell l c) n)).raise .matrix
  else p'

/-- A cell's contact read (R101). -/
def Part.sense (l : Nat) (c : CellId) (p : Part) : Part :=
  p.setCell l c { p.cell l c with sensed := some (p.contact l c) }

/-- The cells of an attempt read back (R106): each that reads other than commanded counts a no-make. DESIGN CHOICE (log entry
46): the CELL_WORN loggings of several cells come in the order the step names its cells. -/
def Part.readBack (closing : Bool) (targets : List (Nat × CellId)) (p : Part) : Part :=
  targets.foldl
    (fun q t =>
      let q' := q.sense t.1 t.2
      if q.contact t.1 t.2 = closing then q' else q'.countNoMake t.1 t.2) p

/-- The cells of an attempt that read wrong. -/
def Part.readWrong (closing : Bool) (targets : List (Nat × CellId)) (p : Part) : List (Nat × CellId) :=
  targets.filter fun t => p.contact t.1 t.2 ≠ closing

/-- The cells of an attempt that read right. -/
def Part.readRight (closing : Bool) (targets : List (Nat × CellId)) (p : Part) : List (Nat × CellId) :=
  targets.filter fun t => p.contact t.1 t.2 = closing

/-- CELL_RETRY_OK for each cell that read right only on a second or third attempt (R106), in the order of the step's cells
(DESIGN CHOICE, log entry 46). -/
def Part.logRetries (attempt : Nat) (right : List (Nat × CellId)) (p : Part) : Part :=
  if attempt < 2 then p
  else right.foldl (fun q t => q.logError .cellRetryOk (.cell t.1 t.2) attempt) p

/-- CELL_NO_MAKE for each cell still open at the end of a closing step (R107), in the order of the step's cells (DESIGN
CHOICE, log entry 46). -/
def Part.logNoMakes (wrong : List (Nat × CellId)) (p : Part) : Part :=
  wrong.foldl (fun q t => q.logError .cellNoMake (.cell t.1 t.2) (q.cell t.1 t.2).noMake) p

/-! ### Releases -/

/-- The lines an entry holds in the matrix. -/
def Part.linesHeldBy (e : Nat) (p : Part) : List Nat :=
  match (p.entry e).electrical? with
  | some d => d.lines.filter fun l => (p.line l).state = .held e
  | none => []

/-- The fault cells a release opens: those of the entry commanded CLOSED on its lines (R110). -/
def Part.openTargets (e : Nat) (p : Part) : List (Nat × CellId) :=
  match (p.entry e).electrical? with
  | some d =>
    (p.linesHeldBy e).flatMap fun l =>
      (d.faultCell.toList.filter fun c => (p.cell l c).commanded).map fun c => (l, c)
  | none => []

/-- The series cells a release closes: those commanded OPEN on the entry's lines (R110). -/
def Part.closeTargets (e : Nat) (p : Part) : List (Nat × CellId) :=
  ((p.linesHeldBy e).filter fun l => !(p.cell l .series).commanded).map fun l => (l, .series)

/-- The closing step of a release, or its end where no series cell is commanded OPEN (R110, R113). -/
def Part.releaseClosing (e : Nat) (fast : Bool) (broken : List Nat) (p : Part) : Part × List Task :=
  let targets := p.closeTargets e
  if targets.isEmpty then
    (p.setEntry e { p.entry e with seq := none }, [.released e broken])
  else
    let (p', step) := p.beginAttempt true (!fast) 1 targets
    (p'.setEntry e { p'.entry e with
      seq := some
        { phase := .closing, fast := fast, disarmed := false, step := step, broken := broken, followed := none } }, [])

/-- A release from what is commanded (R110): first every fault cell commanded CLOSED is opened, then every series cell
commanded OPEN is closed; a step with no cell to command is left out. -/
def Part.releaseOpening (e : Nat) (fast : Bool) (p : Part) : Part × List Task :=
  let targets := p.openTargets e
  if targets.isEmpty then p.releaseClosing e fast []
  else
    let (p', step) := p.beginAttempt false (!fast) 1 targets
    (p'.setEntry e { p'.entry e with
      seq := some
        { phase := .opening, fast := fast, disarmed := false, step := step, broken := [], followed := none } }, [])

/-- An entry written back in a state, its notice raised if the state has changed (R151). -/
def Part.enterEntry (e : Nat) (st : EntryState) (x : Entry) (p : Part) : Part :=
  let p' := p.setEntry e { x with state := st }
  if (p.entry e).state = st then p' else p'.raise (.entry e)

/-- The entry becomes RELEASING and the matrix begins its release, verified or fast (R143); the overcurrent watch and the
chatter end, and a close still held back on its lines is not given. -/
def Part.beginRelease (e : Nat) (fast : Bool) (p : Part) : Part × List Task :=
  let x := p.entry e
  let p1 := p.enterEntry e .releasing { x with runs := [], chatter := none, untilWatch := false, seq := none }
  let p2 := (p1.linesHeldBy e).foldl (fun q l => q.setLine l { q.line l with heldClose := none }) p1
  p2.releaseOpening e fast

/-- The cause recorded for an occurrence: the first stands (R143). -/
def Part.recordCause (e : Nat) (cause : EndCause) (p : Part) : Part :=
  let x := p.entry e
  if x.endCause.isSome then p else p.setEntry e { x with endCause := some cause }

/-! ### Lockout -/

/-- A line isolated for a weld of one of its cells (R119): all seven cells commanded OPEN, ISOLATED with its clear mark
clear, a readback one settle interval later. The matrix notice is raised. -/
def Part.isolate (l : Nat) (c : CellId) (p : Part) : Part :=
  let p1 := allCells.foldl (fun q k => q.commandOpen l k) p
  let p2 := p1.setLine l { p1.line l with
    isolation := some { readAt := p1.now + p1.matrix.settle, logged := c }, state := .isolated false }
  p2.raise .matrix

/-- SAFE or lockout meets an insertion step that a readback of the same tick has just begun (R114): its closes are held
back by R109, so they count as not given (log entry 40). -/
def Part.holdBackCloses (e : Nat) (p : Part) : Part :=
  match (p.entry e).seq with
  | some s =>
    if s.step.closing && s.followed = some p.now then
      (s.step.targets.filter fun t => (p.line t.1).state = .held e).foldl
        (fun q t => q.setCell t.1 t.2 { q.cell t.1 t.2 with commanded := false }) p
    else p
  | none => p

/-- What lockout does to an entry (R116, R119, R148): INSERTING or ACTIVE and ELECTRICAL, it ends with cause LOCKOUT unless
a cause is recorded and is fast released; RELEASING, its release goes on as a fast release. -/
def Part.lockEntry (e : Nat) (p : Part) : Part × List Task :=
  let x := p.entry e
  match x.electrical?, x.state with
  | some _, .inserting => ((p.recordCause e .lockout).holdBackCloses e).beginRelease e true
  | some _, .active => (p.recordCause e .lockout).beginRelease e true
  | some _, .releasing => (p.setEntry e { x with seq := x.seq.map fun s => { s with fast := true } }, [])
  | _, _ => (p, [])

/-- A function that leaves tasks, done for each number in turn. -/
def Part.forEach (f : Nat → Part → Part × List Task) (ns : List Nat) (p : Part) : Part × List Task :=
  ns.foldl (fun (q, ts) n => let r := f n q; (r.1, ts ++ r.2)) (p, [])

/-- The matrix state written, its notice raised if it has changed (R105). -/
def Part.setMatrixState (st : MatrixState) (p : Part) : Part :=
  let p' := { p with matrix := { p.matrix with state := st } }
  if p.matrix.state = st then p' else p'.raise .matrix

/-- The number a place of a weld is logged by (R163). -/
def WeldPlace.number : WeldPlace → Nat
  | .step => 1
  | .fast => 2
  | .isolate => 3
  | .patrol => 4

/-- What welds already logged bring about (R119): the matrix enters LOCKOUT, or is in it already; each welded line is
isolated; on entering LOCKOUT every HELD line is fast released. -/
def Part.lockOut (welds : List (Nat × CellId)) (p : Part) : Part × List Task :=
  let p1 := p.setMatrixState .lockout
  let p2 := welds.foldl (fun q w => q.isolate w.1 w.2) p1
  if p.matrix.state ≠ .lockout then p2.forEach (fun e q => q.lockEntry e) (List.range Config.entries) else (p2, [])

/-- The welds of one readback (R107, R119): each is logged with where it was found, and then the matrix locks out. DESIGN
CHOICE (log entry 37): R119 orders one weld; of several in one readback all are logged first, then LOCKOUT is entered, then
each line is isolated. -/
def Part.weldsFound (place : WeldPlace) (welds : List (Nat × CellId)) (p : Part) : Part × List Task :=
  if welds.isEmpty then (p, [])
  else (welds.foldl (fun q w => q.logError .cellWelded (.cell w.1 w.2) place.number) p).lockOut welds

/-! ### Insertion -/

/-- A step of an insertion begun (R110), with the tick of the readback it follows, if it follows one. -/
def Part.beginInsertStep (e : Nat) (followed : Option Nat) (st : InsertStep) (rest : List InsertStep) (p : Part) : Part :=
  let ls := p.linesHeldBy e
  let (closing, targets) : Bool × List (Nat × CellId) :=
    match st with
    | .openSeries => (false, ls.map fun l => (l, .series))
    | .closeFault c => (true, ls.map fun l => (l, c))
    | .settle => (false, [])
  let (p', step) := p.beginAttempt closing true 1 targets
  p'.setEntry e { p'.entry e with
    seq := some
      { phase := .inserting rest, fast := false, disarmed := false, step := step, broken := [], followed := followed } }

/-- The termination of an entry's bus commanded (R102). -/
def Part.setTermination (d : Electrical) (t : Termination) (p : Part) : Part :=
  match d.bus with
  | some b => { p with matrix := { p.matrix with terminations := p.matrix.terminations.set b t } }
  | none => p

/-- The matrix accepts an insertion (R111): every line of the entry becomes HELD, the termination is set, and the first step
begins. -/
def Part.acceptInsertion (e : Nat) (d : Electrical) (p : Part) : Part :=
  let p1 := d.lines.foldl (fun q l => q.setLineState l (.held e)) p
  let p2 := match d.termination with
    | some t => p1.setTermination d t
    | none => p1
  match d.insertSteps with
  | st :: rest => p2.beginInsertStep e none st rest
  | [] => p2

/-- The insertion is complete (R138): the entry becomes ACTIVE with the tick's stamp, its duration, watch and chatter start,
and one ENTRY occurrence with phase ACTIVE is raised. -/
def Part.insertionComplete (e : Nat) (d : Electrical) (p : Part) : Part × List Task :=
  let x := p.entry e
  let x' := { x with
    seq := none
    activeTick := p.now
    travel := 0
    runs := []
    chatter := d.chatter.map fun c => { on := true, nextAt := some (p.now + c.onTime), made := 0 }
    last := x.last.map fun r => { r with start := some p.stamp } }
  (p.enterEntry e .active x', [.occur (.entry e .active)])

/-- What follows the end of an insertion step, `ok` if every cell read as commanded (R106, R112, R114): the release where a
disarm waits for the step or it failed, else the next step, or the completed insertion. -/
def Part.insertStepEnded (e : Nat) (d : Electrical) (ok : Bool) (rest : List InsertStep) (disarmed : Bool) (p : Part) :
    Part × List Task :=
  if disarmed then p.beginRelease e false
  else if !ok then (p.recordCause e .cellFault).beginRelease e false
  else
    match rest with
    | st :: rest' => (p.beginInsertStep e (some p.now) st rest', [])
    | [] => p.insertionComplete e d

/-! ### Readbacks of entries' steps -/

/-- A further attempt of a verified step, on the cells that read wrong (R106). -/
def Part.retry (e : Nat) (s : Seq) (wrong : List (Nat × CellId)) (p : Part) : Part :=
  let (p', step) := p.beginAttempt s.step.closing true (s.step.attempt + 1) wrong
  p'.setEntry e { p'.entry e with seq := some { s with step := step, followed := none } }

/-- What follows the last readback of a step (R107, R112, R113, R116): welds lock the matrix out, no-makes are logged, and
the sequence goes on. `place` is where a weld is found. DESIGN CHOICE (log entry 52): where the lockout ends the releases of
other entries at once and this entry's own release ends too, R137 leaves open which give-back is first; those of the other
entries come first, in entry order, and this entry's last, whatever its number. -/
def Part.stepEnded (e : Nat) (d : Electrical) (s : Seq) (wrong : List (Nat × CellId)) (place : WeldPlace) (p : Part) :
    Part × List Task :=
  if s.step.closing then
    let p1 := p.logNoMakes wrong
    match s.phase with
    | .inserting rest => p1.insertStepEnded e d wrong.isEmpty rest s.disarmed
    | _ =>
      (p1.setEntry e { p1.entry e with seq := none }, [.released e (s.broken ++ wrong.map Prod.fst)])
  else
    let (p1, ts) := p.weldsFound place wrong
    match s.phase with
    | .inserting rest =>
      if wrong.isEmpty then p1.insertStepEnded e d true rest s.disarmed
      else if (p1.entry e).state = .inserting then
        -- the weld was found with the matrix in LOCKOUT already: the remaining lines are fast released
        let (p2, ts') := (p1.recordCause e .lockout).beginRelease e true
        (p2, ts ++ ts')
      else (p1, ts)
    | _ =>
      let fast := ((p1.entry e).seq.map Seq.fast).getD true || !wrong.isEmpty
      let (p2, ts') := p1.releaseClosing e fast s.broken
      (p2, ts ++ ts')

/-- The readback of a verified step of an entry (R106): retried up to three attempts, or taken as the last attempt where the
release has since become a fast one (R116). DESIGN CHOICE (log entry 46): of one readback's loggings, whose order no rule
gives, every CELL_WORN comes first, then every CELL_RETRY_OK, then every CELL_NO_MAKE or CELL_WELDED. -/
def Part.stepReadback (e : Nat) (p : Part) : Part × List Task :=
  let x := p.entry e
  match x.electrical?, x.seq with
  | some d, some s =>
    if s.step.verified && s.step.readAt.any (fun t => t ≤ p.now) then
      let wrong := p.readWrong s.step.closing s.step.targets
      let right := p.readRight s.step.closing s.step.targets
      let p1 := (p.readBack s.step.closing s.step.targets).logRetries s.step.attempt right
      if wrong.isEmpty || 3 ≤ s.step.attempt || s.fast then p1.stepEnded e d s wrong .step
      else (p1.retry e s wrong, [])
    else (p, [])
  | _, _ => (p, [])

/-- The readback of a fast release's step: read once, no retries (R116). -/
def Part.fastReadback (e : Nat) (p : Part) : Part × List Task :=
  let x := p.entry e
  match x.electrical?, x.seq with
  | some d, some s =>
    if !s.step.verified && s.step.readAt.any (fun t => t ≤ p.now) then
      let wrong := p.readWrong s.step.closing s.step.targets
      (p.readBack s.step.closing s.step.targets).stepEnded e d s wrong .fast
    else (p, [])
  | _, _ => (p, [])

/-- A held-back close given (R109): once one settle interval has passed since the line's last open, and not in SAFE or
LOCKOUT; the holder's attempt is then read back one settle interval after its last command (R106). DESIGN CHOICE (log
entry 36): where PATROL_CFG changes the settle interval between the first and the last command of an attempt, the wait
is the interval in force at the last. -/
def Part.giveHeldClose (l : Nat) (p : Part) : Part :=
  let ln := p.line l
  match ln.heldClose with
  | some c =>
    if p.now < ln.lastOpen + p.matrix.settle || p.closesBarred then p
    else
      let p1 := p.commandClosed l c
      match ln.state with
      | .held e =>
        match (p1.entry e).seq with
        | some s =>
          if s.step.readAt.isNone then
            p1.setEntry e { p1.entry e with
              seq := some { s with step := { s.step with readAt := p1.readTick s.step.targets } } }
          else p1
        | none => p1
      | _ => p1
  | none => p

/-! ### Isolation readback, patrol and restore -/

/-- The cells of a line that are commanded OPEN and read closed (R119). -/
def Part.stillClosed (l : Nat) (p : Part) : List CellId :=
  allCells.filter fun c => p.contact l c && !(p.cell l c).commanded

/-- The cells of an isolated line read back (R119): each still closed counts a no-make, and each but the one whose weld is
logged logs CELL_WELDED, cell by cell in the order of R101 (DESIGN CHOICE, log entry 46). -/
def Part.readIsolated (l : Nat) (logged : CellId) (p : Part) : Part :=
  allCells.foldl
    (fun q c =>
      let q1 := q.sense l c
      if q.contact l c && !(q.cell l c).commanded then
        let q2 := q1.countNoMake l c
        if c = logged then q2 else q2.logError .cellWelded (.cell l c) WeldPlace.isolate.number
      else q1) p

/-- The readback of an isolated line (R119). DESIGN CHOICE (log entry 38): where a MATRIX_CLEAR restore has begun on the line
by then, a cell commanded CLOSED again is only sensed, and a weld found clears the clear mark of a line still ISOLATED; a line
the restore has given back, be it PASS, BROKEN or HELD by a new entry, is isolated anew for any cell commanded OPEN that reads
closed, one commanded on this very tick included, and the matrix is in LOCKOUT again (R104, R105). -/
def Part.isolationReadback (l : Nat) (p : Part) : Part × List Task :=
  match (p.line l).isolation with
  | some i =>
    if i.readAt ≤ p.now then
      let p1 := (p.setLine l { p.line l with isolation := none }).readIsolated l i.logged
      if (p1.line l).state.isIsolated then
        (if (p.stillClosed l).any fun c => c ≠ i.logged then p1.setLineState l (.isolated false) else p1, [])
      else
        match p.stillClosed l with
        | [] => (p1, [])
        | c :: _ => p1.lockOut [(l, c)]
    else (p, [])
  | none => (p, [])

/-- What a patrol check finds on a line that is not HELD (R118). -/
def Part.patrolLine (l : Nat) (p : Part) : Part × List Task :=
  let st := (p.line l).state
  match st with
  | .held _ => (p, [])
  | _ =>
    let p1 := allCells.foldl (fun q c => q.sense l c) p
    let closed := faultCells.filter fun c => p1.contact l c
    let seriesClosed := p1.contact l .series
    match st with
    | .isolated clear =>
      if clear = closed.isEmpty then (p1, [])
      else ((p1.setLine l { p1.line l with state := .isolated closed.isEmpty }).raise .matrix, [])
    | _ =>
      match closed with
      | c :: _ => p1.weldsFound .patrol [(l, c)]
      | [] =>
        if st = .pass && !seriesClosed then
          ((p1.setLineState l .broken).logError .lineBroken (.line l) (p1.cell l .series).noMake, [])
        else if st = .broken && seriesClosed then (p1.setLineState l .pass, [])
        else (p1, [])

/-- One patrol step (R117): the check, the position moved on, the next step's tick, and, after line 63 of the first pass,
the first-pass mark, with a READYING matrix becoming READY (R105). -/
def Part.patrolStep (p : Part) : Part × List Task :=
  if p.matrix.patrolNext ≤ p.now then
    let at0 := p.matrix.patrolNext
    let l := p.matrix.patrolPosition
    let (p1, ts) := p.patrolLine l
    let passEnds := !p.matrix.firstPass && l = 63
    let firstPass := p.matrix.firstPass || passEnds
    let gap := if firstPass then p.matrix.patrolInterval * 1000 else 1000
    let p2 := { p1 with
      matrix := { p1.matrix with
        patrolPosition := if l = 63 then 0 else l + 1
        firstPass := firstPass
        patrolNext := at0 + gap
        patrolLast := at0 } }
    (if passEnds && p2.matrix.state = .readying then p2.setMatrixState .ready else p2, ts)
  else (p, [])

/-- The end of a restore's step for one line (R120): PASS or BROKEN by its series cell, or still ISOLATED with the series cell
commanded OPEN again where patrol has cleared its clear mark. -/
def Part.restoreLine (wrong : List (Nat × CellId)) (l : Nat) (p : Part) : Part :=
  match (p.line l).state with
  | .isolated true => p.setLineState l (if wrong.contains (l, .series) then .broken else .pass)
  | .isolated false => p.commandOpen l .series
  | _ => p

/-- The matrix state after LOCKOUT is left (R105). -/
def Matrix.unlocked (m : Matrix) : MatrixState := if m.firstPass then .ready else .readying

/-- The readback of a restore's step (R106, R120; the order of its loggings is log entry 46). -/
def Part.restoreReadback (p : Part) : Part :=
  match p.matrix.restore with
  | some r =>
    if r.step.readAt.any (fun t => t ≤ p.now) then
      let wrong := p.readWrong true r.step.targets
      let right := p.readRight true r.step.targets
      let p1 := (p.readBack true r.step.targets).logRetries r.step.attempt right
      if !wrong.isEmpty && r.step.attempt < 3 then
        let (p2, step) := p1.beginAttempt true true (r.step.attempt + 1) wrong
        { p2 with matrix := { p2.matrix with restore := some { r with step := step } } }
      else
        let p2 := p1.logNoMakes wrong
        let p3 := r.lines.foldl (fun q l => q.restoreLine wrong l) p2
        let p4 := { p3 with matrix := { p3.matrix with restore := none } }
        let anyLeft := p4.matrix.lines.any fun ln => ln.state.isIsolated
        (if anyLeft then p4 else p4.setMatrixState p4.matrix.unlocked).raise .matrix
    else p
  | none => p

end Sys2Proof.Machine
end

