-- ==== Sys2Proof/Machine/Schedule.lean ====
section
/-! DEFINITION. The fault schedule's shared operations: claims, becoming due, granting, ending and settling occurrences
(R134 to R149). -/

namespace Sys2Proof.Machine

/-! ### Claims (R136) -/

/-- Nothing, or the entry itself, holds a claim. -/
def freeFor (e : Nat) (holder : Option Nat) : Bool :=
  match holder with
  | none => true
  | some h => h = e

/-- An entry's claims are free (R136): no other entry holds a line, bus or channel it claims, and the short budget has room
for its lines. -/
def Claims.freeOf (cl : Claims) (e : Nat) : EntryClass → Bool
  | .electrical d =>
    d.lines.all (fun l => freeFor e (cl.lines.getD l none)) &&
      d.bus.all (fun b => freeFor e (cl.buses.getD b none)) &&
      (!d.kind.shorts || cl.budget + d.lines.length ≤ Config.shortBudget)
  | .signal c _ => freeFor e (cl.channels.getD c none)

/-- All of an entry's claims taken together (R136). -/
def Claims.take (cl : Claims) (e : Nat) : EntryClass → Claims
  | .electrical d =>
    { cl with
      lines := d.lines.foldl (fun ls l => ls.set l (some e)) cl.lines
      buses := d.bus.toList.foldl (fun bs b => bs.set b (some e)) cl.buses
      budget := cl.budget + d.budget }
  | .signal c _ => { cl with channels := cl.channels.set c (some e) }

/-- A table with an entry's holds given back. -/
def release (e : Nat) (holders : List (Option Nat)) : List (Option Nat) :=
  holders.map fun h => if h = some e then none else h

/-- All of an entry's claims given back together (R136). -/
def Claims.giveBack (cl : Claims) (e : Nat) (c : EntryClass) : Claims :=
  { lines := release e cl.lines
    buses := release e cl.buses
    channels := release e cl.channels
    budget := match c with
      | .electrical d => cl.budget - d.budget
      | .signal _ _ => cl.budget }

/-! ### The blocked set (R137) -/

/-- An entry placed among others by `blocked_since`, the lower number first among equals. -/
def insertBlocked (x : Nat × Nat) : List (Nat × Nat) → List (Nat × Nat)
  | [] => [x]
  | y :: ys => if y.2 ≤ x.2 then y :: insertBlocked x ys else x :: y :: ys

/-- The BLOCKED entries with their `blocked_since`, in the arbiter's order (R137). -/
def Part.blockedSet (p : Part) : List (Nat × Nat) :=
  (List.range Config.entries).foldl
    (fun acc e =>
      match (p.entry e).state, (p.entry e).blockedSince with
      | .blocked, some t => insertBlocked (e, t) acc
      | _, _ => acc) []

/-- The arbiter's pass after a give-back of some lines: each BLOCKED entry is judged in order (R137). -/
def Part.arbiterPass (back : List Nat) (p : Part) : List Task := p.blockedSet.map fun b => .judge b.1 back

/-- The lines of an entry's class (R136). -/
def EntryClass.lines : EntryClass → List Nat
  | .electrical d => d.lines
  | .signal _ _ => []

/-! ### Ending an occurrence -/

/-- An occurrence that took no claims ends with a cause (R134, R135, R137). -/
def Part.endUnclaimed (e : Nat) (cause : EndCause) (p : Part) : Part × List Task :=
  (p.recordCause e cause, [.finish e])

/-- A give-back (R136, R143): the claims become free together, the arbiter passes over the blocked set, the RELEASED
occurrence is raised, and the entry is settled (order: log entry 12). -/
def Part.giveBack (e : Nat) (c : EntryClass) (p : Part) : Part × List Task :=
  let p' := { p with claims := p.claims.giveBack e c }
  (p', p'.arbiterPass c.lines ++ [.occur (.entry e .released), .finish e])

/-- A release has ended (R113): a LEAK entry's termination becomes NONE, every line still HELD by it becomes PASS or BROKEN,
and the claims are given back. -/
def Part.released (e : Nat) (broken : List Nat) (p : Part) : Part × List Task :=
  match (p.entry e).electrical? with
  | some d =>
    let p1 := if d.kind.leaks then p.setTermination d .none else p
    let p2 := (p1.linesHeldBy e).foldl
      (fun q l => q.setLineState l (if broken.contains l then .broken else .pass)) p1
    let p3 := p2.setEntry e { p2.entry e with seq := none }
    p3.giveBack e (.electrical d)
  | none => (p, [])

/-- An ACTIVE SIGNAL entry's occurrence ends (R139, R143): the channel drops the modifier and the claim is given back. -/
def Part.endSignal (e c : Nat) (f : SigFault) (p : Part) : Part × List Task :=
  let ch := p.channel c
  let p1 := if ch.modifier.any (fun m => m.entry = e) then p.setChannel c { ch with modifier := none } else p
  p1.giveBack e (.signal c f)

/-- An ACTIVE entry's occurrence ends with a cause, unless one is recorded already (R140, R143): an ELECTRICAL entry begins
its verified release, a SIGNAL entry ends at once. -/
def Part.endActive (e : Nat) (cause : EndCause) (p : Part) : Part × List Task :=
  let x := p.entry e
  match x.state, x.endCause, x.definition.map EntryDef.cls with
  | .active, none, some (.electrical _) => (p.recordCause e cause).beginRelease e false
  | .active, none, some (.signal c f) => (p.recordCause e cause).endSignal e c f
  | _, _, _ => (p, [])

/-! ### Becoming due and being granted -/

/-- Whether a SIGNAL entry's channel can take its fault (R134): neither OFF nor HELD, and of a kind that accepts it. -/
def Part.targetValid (c : Nat) (f : SigFault) (p : Part) : Bool :=
  let ch := p.channel c
  ch.state ≠ .off && ch.state ≠ .held && ch.kind.any fun k => k.accepts f

/-- The matrix's answers to an admission (R111). -/
inductive Admission where
  | locked
  | unusable
  | admitted
  deriving DecidableEq, Repr

/-- Whether the matrix admits an insertion (R111). `back` are the lines of the give-back in whose pass it is asked: one
that its release left BROKEN or ISOLATED makes the answer UNUSABLE (R185), in LOCKOUT too, where R111 and R148 answer
LOCKED (DESIGN CHOICE, log entry 41: the special rule before the general). -/
def Part.admission (back : List Nat) (d : Electrical) (p : Part) : Admission :=
  if d.lines.any fun l => back.contains l && (p.line l).state.isUnfit then .unusable
  else if p.matrix.state = .lockout then .locked
  else if d.lines.any fun l =>
      (p.line l).state ≠ .pass || d.neededCells.any fun c => (p.cell l c).worn then .unusable
  else .admitted

/-- The grant of an ELECTRICAL entry (R136, R138): its claims are taken, it becomes INSERTING, and the matrix accepts the
insertion. -/
def Part.grantElectrical (e : Nat) (d : Electrical) (p : Part) : Part × List Task :=
  let x := p.entry e
  let p1 := p.enterEntry e .inserting { x with
    waiting := none
    blockedSince := none
    last := x.last.map fun r => { r with grantedTime := some p.clock.rigTime } }
  let p2 := { p1 with claims := p1.claims.take e (.electrical d) }
  (p2.acceptInsertion e d, [])

/-- The grant of a SIGNAL entry (R136, R139): its claim is taken, it becomes ACTIVE with the tick's stamp, and its channel
takes the modifier. -/
def Part.grantSignal (e c : Nat) (f : SigFault) (p : Part) : Part × List Task :=
  let x := p.entry e
  let p1 := p.enterEntry e .active { x with
    waiting := none
    blockedSince := none
    activeTick := p.now
    travel := 0
    last := x.last.map fun r => { r with grantedTime := some p.clock.rigTime, start := some p.stamp } }
  let p2 := { p1 with claims := p1.claims.take e (.signal c f) }
  let p3 := p2.setChannel c { p2.channel c with modifier := some { entry := e, fault := f, stuck := none } }
  (p3, [.occur (.entry e .active)])

/-- An entry whose claims are not all free waits in the blocked set, keeping its place if it is in it (R134, R137). -/
def Part.block (e : Nat) (p : Part) : Part :=
  let x := p.entry e
  if x.state = .blocked then p else p.enterEntry e .blocked { x with blockedSince := some p.now }

/-- An entry asks for its claims (R134, R137): a SIGNAL entry's channel is looked at first; claims not all free leave it
BLOCKED; an ELECTRICAL entry whose claims are free is asked about at the matrix; else it is granted. `back` are the lines
given back in the arbiter's pass it is asked in. -/
def Part.askClaims (e : Nat) (back : List Nat) (p : Part) : Part × List Task :=
  match (p.entry e).definition.map EntryDef.cls with
  | some (.signal c f) =>
    if !p.targetValid c f then p.endUnclaimed e .noTarget
    else if p.claims.freeOf e (.signal c f) then p.grantSignal e c f
    else (p.block e, [])
  | some (.electrical d) =>
    if p.claims.freeOf e (.electrical d) then
      match p.admission back d with
      | .locked => p.endUnclaimed e .lockout
      | .unusable => p.endUnclaimed e .cellFault
      | .admitted => p.grantElectrical e d
    else (p.block e, [])
  | none => (p, [])

/-- The due reference an entry's deadline is counted from (R135): the due point for NOW and AT_TIME, else the tick. -/
def dueReference (c : Condition) (point now : Nat) : Nat :=
  match c with
  | .now => point
  | .atTime _ => point
  | .atAngle _ _ => now
  | .onEvent _ _ => now

/-- An ARMED entry becomes due (R134, R135): its last-insertion record is begun afresh, its due point and deadline are
written; with the deadline behind it is MISSED, else it asks for its claims. DESIGN CHOICE (log entry 49): R134 ends a SIGNAL entry
whose channel cannot take the fault with NO_TARGET and R135 one behind its deadline with MISSED, each at once; where both hold
the deadline is looked at first. -/
def Part.due (e : Nat) (w : Waiting) (point : Nat) (p : Part) : Part × List Task :=
  let x := p.entry e
  match x.state, x.definition with
  | .armed, some d =>
    if x.waiting = some w then
      let deadline := d.latestStart.map fun n => dueReference d.condition point p.now + n
      let p1 := p.setEntry e { x with
        duePoint := some point
        deadline := deadline
        endCause := none
        last := some { dueTime := p.clock.rigTime, grantedTime := none, start := none, endTime := none,
                       endCause := none, tripSense := none, tripCurrent := none } }
      if deadline.any fun t => t < p.now then p1.endUnclaimed e .missed else p1.askClaims e []
    else (p, [])
  | _, _ => (p, [])

/-- The arbiter judges a BLOCKED entry (R137). -/
def Part.judge (e : Nat) (back : List Nat) (p : Part) : Part × List Task :=
  if (p.entry e).state = .blocked then p.askClaims e back else (p, [])

/-! ### Settling -/

/-- The waiting form of the next repeat (R145), from the previous due point and the spacing. -/
def EntryDef.nextWaiting (d : EntryDef) (point : Nat) : Waiting :=
  match d.condition with
  | .now => .time (point + d.spacing.getD 0)
  | .atTime _ => .time (point + d.spacing.getD 0)
  | .atAngle a _ => .angle a (some (wrap32 (point + d.spacing.getD 0)))
  | .onEvent s _ => .event s (wrap32 (point + d.spacing.getD 1))

/-- The due task of a repeat whose waiting form is met on the tick it is set (R145). -/
def Part.metAtOnce (e : Nat) (w : Waiting) (p : Part) : List Task :=
  match w with
  | .time t => if p.timeReached t then [.due e w t] else []
  | .event s target => if atOrAfter (p.slot s).count target then [.due e w target] else []
  | .angle _ _ => []

/-- The state an ended occurrence settles its entry to, with the repeats then remaining (R144): ARMED for a repeat (LOADED in
SAFE), DONE, ABORTED or LOADED. -/
def settledState (cause : EndCause) (repeats : Nat) (safe : Bool) : EntryState × Nat :=
  match cause with
  | .completed => if 0 < repeats then (if safe then .loaded else .armed, repeats - 1) else (.done, 0)
  | .missed => if 0 < repeats then (if safe then .loaded else .armed, repeats - 1) else (.done, 0)
  | .disarmed => (.loaded, repeats)
  | _ => (.aborted, 0)

/-- An occurrence has ended (R143, R144): `occurrences` rises, the last-insertion record takes the end, a MISSED occurrence is
logged (R135), and the entry is settled by its cause; a repeat's waiting form met at once makes it due again. -/
def Part.finish (e : Nat) (p : Part) : Part × List Task :=
  let x := p.entry e
  match x.endCause, x.definition with
  | some cause, some d =>
    let n := bump Config.max16 x.occurrences
    let p1 := if cause = .missed then p.logError .entryMissed (.entry e) n else p
    let (st, repeats) := settledState cause x.repeatsRemaining p.inSafe
    let w := if st = .armed then some (d.nextWaiting (x.duePoint.getD 0)) else none
    let p2 := p1.enterEntry e st { x with
      waiting := w
      occurrences := n
      repeatsRemaining := repeats
      blockedSince := none
      deadline := none
      endCause := none
      last := x.last.map fun r => { r with endTime := some p.clock.rigTime, endCause := some cause }
      runs := []
      chatter := none
      untilWatch := false
      seq := none }
    (p2, match w with
      | some w' => p2.metAtOnce e w'
      | none => [])
  | _, _ => (p, [])

end Sys2Proof.Machine
end

