-- ==== Sys2Proof/Machine/Cascade.lean ====
section
/-! DEFINITION. What an event brings about on its own tick: occurrences, the waiters they meet, group starts, and the
work these begin in turn (R70 to R76, R82, R90 to R95, R137). Each piece of work is done whole before what was left
after it, but for the entries' dues, which come last and in entry-number order. -/

namespace Sys2Proof.Machine

/-! ### Occurrences (R74, R75) -/

/-- Whether a slot's source selection matches an occurrence (R75). -/
def Source.matchesOcc (s : Source) (o : Occurrence) : Bool :=
  match s, o with
  | .trigger i edge, .trigger j rising => i = j && (edge = .both || decide (edge = .rise) == rising)
  | .monitor m up, .monitor n up' => m = n && up == up'
  | .angleMark a, .angleMark b => a = b
  | .segmentMark t c, .segmentMark t' c' => t = t' && (c.all fun k => k = c')
  | .entry e ph, .entry e' ph' => e = e' && ph = ph'
  | .group g, .group g' => g = g'
  | _, _ => false

/-- The origin an occurrence leaves in the last-occurrence record (R74). -/
def Occurrence.origin : Occurrence → Origin
  | .trigger i _ => .trigger i
  | .monitor m _ => .monitor m
  | .angleMark a => .angle a
  | .segmentMark _ c => .channel c
  | .entry e _ => .entry e
  | .group g => .group g

/-- A slot counts an occurrence (R74): its count rises by one, and its last-occurrence record takes the tick's stamp and the
origin. -/
def Part.countOn (o : Occurrence) (s : Nat) (p : Part) : Part :=
  let x := p.slot s
  p.setSlot s { x with count := wrap32 (x.count + 1), last := some (p.stamp, o.origin) }

/-- The slots whose selection matches an occurrence, in slot order (R74). -/
def Part.matching (o : Occurrence) (p : Part) : List Nat :=
  (List.range Config.eventSlots).filter fun s => (p.slot s).source.matchesOcc o

/-- An angle waiting form is met by a motion (R71): it passes the angle on a cycle at or after the floor. -/
def Move.meets (m : Move) : Waiting → Bool
  | .angle a floor => m.passes a && floor.all fun n => atOrAfter (m.passCycle a) n
  | _ => false

/-- The due point a passing gives (R69): the cycle count the angle was passed on. -/
def Move.point (m : Move) : Waiting → Nat
  | .angle a _ => m.passCycle a
  | _ => 0

/-- Whether a waiting form is met by a motion, or by a count that one of some slots has just reached, and its due point
(R69, R71, R72). -/
def Part.met (slots : List Nat) (m : Option Move) (w : Waiting) (p : Part) : Option Nat :=
  match w with
  | .event s n => if slots.contains s && (p.slot s).count = n then some n else none
  | .angle a floor => m.bind fun v => if v.meets (.angle a floor) then some (v.point (.angle a floor)) else none
  | .time _ => none

/-- Whether an ARMED entry's waiting form is so met, and its due point. -/
def Part.entryMet (slots : List Nat) (m : Option Move) (e : Nat) (p : Part) : Option Nat :=
  if (p.entry e).state = .armed then (p.entry e).waiting.bind fun w => p.met slots m w else none

/-- Whether an ARMED entry waits for a time that the present tick has reached (R70). -/
def Part.entryTimeMet (e : Nat) (p : Part) : Option Nat :=
  match (p.entry e).state, (p.entry e).waiting with
  | .armed, some (.time t) => if p.timeReached t then some t else none
  | _, _ => none

/-- The entries a motion or an occurrence makes due (R71, R72). -/
def Part.dueTasks (slots : List Nat) (m : Option Move) (p : Part) : List Task :=
  (List.range Config.entries).filterMap fun e =>
    (p.entryMet slots m e).bind fun point => (p.entry e).waiting.map fun w => .due e w point

/-- All that a motion or an occurrence meets (R71, R72, R140): the entries, then the groups, then the entries whose
UNTIL_EVENT duration watches one of the slots (order: log entry 13; the entries are taken last, R137). -/
def Part.metTasks (slots : List Nat) (m : Option Move) (p : Part) : List Task :=
  p.dueTasks slots m ++
    ((List.range Config.groups).filterMap fun g =>
      (p.group g).armed.bind fun a => (p.met slots m a.2).map fun _ => .startGroup g a.2) ++
    ((List.range Config.entries).filter fun e =>
      (p.entry e).state = .active && (p.entry e).untilWatch &&
        (match (p.entry e).definition.map EntryDef.duration with
        | some (.untilEvent s) => slots.contains s
        | _ => false)).map (fun e => .endUntil e (p.entry e).occurrences)

/-- An entry's UNTIL_EVENT watch begins once its own ACTIVE occurrence has been counted, so that this one does not end the
duration and every later one does (R140). -/
def Part.watchFrom (o : Occurrence) (p : Part) : Part :=
  match o with
  | .entry e .active =>
    if (p.entry e).state = .active && (p.entry e).endCause.isNone then
      p.setEntry e { p.entry e with untilWatch := true }
    else p
  | _ => p

/-- An occurrence is raised: every slot whose selection matches it counts it, and the new counts are presented to the waiters
(R74; order among several slots: log entry 13). -/
def Part.occur (o : Occurrence) (p : Part) : Part × List Task :=
  let slots := p.matching o
  let p' := slots.foldl (fun q s => q.countOn o s) p
  (p'.watchFrom o, p'.metTasks slots none)

/-! ### Groups (R82) -/

/-- An ARMED group whose condition is met starts: its condition is dropped and its PRIMED channels start. DESIGN CHOICE (log
entry 13): R82 orders no members among themselves; they start in channel order, each whole before the next. -/
def Part.startGroup (g : Nat) (w : Waiting) (p : Part) : Part × List Task :=
  let x := p.group g
  if x.armed.map Prod.snd = some w then
    let members := p.primedFor g
    (p.setGroup g { x with armed := none },
      members.map (fun c => Task.startMember c) ++ [.groupDone g members.length])
  else (p, [])

/-- A group whose members have started: start count, last-start record, GROUP occurrence and notice (R82). -/
def Part.groupDone (g n : Nat) (p : Part) : Part × List Task :=
  let x := p.group g
  (p.setGroup g { x with
      startCount := wrap32 (x.startCount + 1), lastStart := some { stamp := p.stamp, channels := n } },
    [.occur (.group g), .notify (.group g)])

/-! ### Capture (R93 to R95) -/

/-- Whether the oldest record's age has reached the flush interval (R95). -/
def Part.flushDue (p : Part) : Bool :=
  match p.capture.ring with
  | r :: _ => r.tick + p.capture.flush * 1000 ≤ p.now
  | [] => false

/-- The test of R95: the capture cause is raised when the ring holds a record, the capture notice is not queued, and the ring
holds a batch or its oldest record has reached the flush interval. -/
def Part.captureTest (p : Part) : Part :=
  if !p.capture.ring.isEmpty && !p.queued .capture && (p.capture.batch ≤ p.capture.ring.length || p.flushDue) then
    p.raise .capture
  else p

/-- A record offered to the ring (R93, R94): it joins, or, with 512 held, it is dropped, the first of a run of drops
logged. -/
def Part.offer (m : Nat) (up : Bool) (p : Part) : Part :=
  let r : CaptureRecord := { monitor := m, up := up, stamp := p.stamp, tick := p.now }
  if p.capture.ring.length < Config.ringLimit then
    ({ p with capture := { p.capture with ring := p.capture.ring ++ [r], dropMark := false } }).captureTest
  else
    let n := bump Config.max16 p.capture.dropped
    let p' := { p with capture := { p.capture with dropped := n, dropMark := true } }
    if p.capture.dropMark then p' else p'.logError .captureDropped (.monitor m) n

/-! ### The cascade -/

/-- One piece of work, and what it leaves to be done after it. -/
def Part.doTask (t : Task) (p : Part) : Part × List Task :=
  match t with
  | .occur o => p.occur o
  | .notify src => (p.raise src, [])
  | .due e w point => p.due e w point
  | .startGroup g w => p.startGroup g w
  | .startMember c => p.startMember c
  | .groupDone g n => p.groupDone g n
  | .arrive c place carry before marker => p.arrive c place carry before marker
  | .lowWater c before => (p.lowWater c before, [])
  | .endSegment c => p.endSegment c
  | .resume c => p.resume c
  | .capture m up => (p.offer m up, [])
  | .renderAgain c => (p.renderAgain c, [])
  | .play c => p.playDue c
  | .endUntil e ended =>
    if (p.entry e).untilWatch && (p.entry e).occurrences = ended then p.endActive e .completed else (p, [])
  | .endActive e cause => p.endActive e cause
  | .judge e back => p.judge e back
  | .released e broken => p.released e broken
  | .finish e => p.finish e

/-- The entry that a piece of work has become due, and no other piece. -/
def Task.dueEntry : Task → Option Nat
  | .due e _ _ => some e
  | _ => none

/-- The first piece of work that is no due, and the work without it. -/
def firstWork : List Task → Option (Task × List Task)
  | [] => none
  | t :: ts => if t.dueEntry.isNone then some (t, ts) else (firstWork ts).map fun r => (r.1, t :: r.2)

/-- The due of the lowest entry, and the work without it (R137). -/
def lowestDue : List Task → Option (Task × List Task)
  | [] => none
  | t :: ts =>
    match lowestDue ts with
    | none => some (t, ts)
    | some r => if t.dueEntry.getD 0 ≤ r.1.dueEntry.getD 0 then some (t, ts) else some (r.1, t :: r.2)

/-- The due of the lowest ARMED entry below a number whose time the tick has reached: it falls on the tick too (R70, R137). -/
def Part.lowerDue (e : Nat) (p : Part) : Option Task :=
  (List.range e).findSome? fun k => (p.entryTimeMet k).map fun t => .due k (.time t) t

/-- The piece of work to be done next and what stands after it. Entries that become due on one tick are taken in
entry-number order (R137), so a due waits until no other work is left that could bring about one of a lower entry. -/
def Part.nextTask (ts : List Task) (p : Part) : Option (Task × List Task) :=
  match firstWork ts with
  | some r => some r
  | none =>
    (lowestDue ts).map fun r =>
      match p.lowerDue (r.1.dueEntry.getD 0) with
      | some t => (t, ts)
      | none => r

/-- The work done piece by piece, what each leaves coming before what stood after it, and the dues last, lowest entry first.
The first argument bounds the pieces done; `Config`'s sizes bound the work of one tick far below `taskLimit` (log entry
11). -/
def runTasks : Nat → List Task → Part → Part
  | 0, _, p => p
  | n + 1, ts, p =>
    match p.nextTask ts with
    | none => p
    | some (t, rest) =>
      let r := p.doTask t
      runTasks n (r.2 ++ rest) r.1

/-- More pieces of work than one tick can hold (log entry 11). -/
def taskLimit : Nat := 18446744073709551616

/-- A part and the work left, run to its end. -/
def settleAll (r : Part × List Task) : Part := runTasks taskLimit r.2 r.1

/-- A channel's play due on the present tick taken whole, as it is before the channel renders on the tick (2.4.1, R55,
R56). -/
def Part.play (c : Nat) (p : Part) : Part := settleAll (p.playDue c)

/-- The play due of every channel that a test picks, each taken whole before the next, in channel order (DESIGN CHOICE, log
entry 46). -/
def Part.playWhere (test : Channel → Bool) (p : Part) : Part :=
  settleAll (p, ((List.range Config.channels).filter fun c => test (p.channel c)).map fun c => .play c)

/-! ### Motions (R2, R3, R57, R71, R140) -/

/-- The travel of every RUNNING channel's ANGLE record and of every ACTIVE entry's ANGLE duration, counted from the motions
after the tick it began on to the motion on which it reaches its length (R57, R140). -/
def Part.addTravel (m : Move) (p : Part) : Part :=
  let channels := p.channels.map fun ch =>
    match ch.state, ch.playing with
    | .running, some (pl, r) =>
      if r.basis = .angle && pl.startTick < p.now && !reachedLength p.now pl r then
        { ch with play := some { pl with travel := m.travel pl.travel } }
      else ch
    | _, _ => ch
  let entries := p.entries.map fun e =>
    match e.state, e.definition.map EntryDef.duration with
    | .active, some (.angle n) =>
      if e.activeTick < p.now && e.travel < n * Config.unitParts then { e with travel := m.travel e.travel } else e
    | _, _ => e
  { p with channels := channels, entries := entries }

/-- The slots whose marked angle a motion passes, in slot order (R75). -/
def Part.marksPassed (m : Move) (p : Part) : List Nat :=
  (List.range Config.eventSlots).filter fun s =>
    match (p.slot s).source with
    | .angleMark a => m.passes a
    | _ => false

/-- A slot counts the passing of its marked angle (R75). -/
def Part.countMark (s : Nat) (p : Part) : Part :=
  match (p.slot s).source with
  | .angleMark a => p.countOn (.angleMark a) s
  | _ => p

/-- What a motion's passings bring about (R3, R71, R75): the angle marks are counted, and then the waiters that a count or
the motion itself meets are taken. DESIGN CHOICE (log entry 13): of several marks passed by one motion each is counted
in slot order, whatever the order of the angles, before any waiter is taken. -/
def Part.passings (m : Move) (p : Part) : Part × List Task :=
  let marks := p.marksPassed m
  let p' := marks.foldl (fun q s => q.countMark s) p
  (p', p'.metTasks marks (some m))

/-- A motion handed to the engine's neighbours (R2): travels, passings and all they bring about. The WHEEL channels render
after it (R38), and so does a channel whose ANGLE record the motion has moved on, where its render of the tick was taken
before the motion, as that of a FOLLOW count may have been (3.5.1). -/
def Part.takeMove (em : Engine × Move) (p : Part) : Part :=
  let p1 := ({ p with engine := em.1 }).addTravel em.2
  (settleAll (p1.passings em.2)).renderTravels.renderWheels

end Sys2Proof.Machine
end

