-- ==== Sys2Proof/Machine/Snapshots.lean ====
section
/-! DEFINITION. The snapshots the GET requests and the notices carry (R19, R44, R78, R83, R92, R96, R123, R150, R153, R160,
R167, R169, R179 to R181), each formed from the part as it stands. -/

namespace Sys2Proof.Machine

/-- The engine snapshot (R19, R20); the channel is present in TRACK alone. -/
def Part.engineSnapshot (p : Part) : EngineSnapshot where
  rigTime := p.clock.rigTime
  mode := p.engine.mode
  trackChannel := if p.engine.mode = .track then p.engine.trackChannel else none
  motion := p.engine.motion
  speed := p.engine.speed
  target := p.engine.target
  rampRate := p.engine.rampRate
  increment := p.engine.increment
  angle := p.engine.angle
  fraction := p.engine.fraction
  cycle := p.engine.cycle
  followCounts := p.engine.counts
  followOffset := p.engine.offset
  followTolerance := p.engine.tolerance
  indexError := p.engine.indexError
  indexCount := p.engine.indexCount
  indexTime := p.engine.indexTime
  sinceIndex := p.engine.sinceIndex
  missingMark := p.engine.missingMark

/-- The record in play as CHANNEL_GET reports it (R44). -/
def Channel.position (now : Nat) (ch : Channel) : Option Position :=
  if ch.state = .running then
    ch.playing.map fun (pl, r) => { place := pl.place + 1, basis := r.basis, elapsed := elapsedOf now pl r }
  else none

/-- The channel snapshot (R44, R45). -/
def Part.channelSnapshot (c : Nat) (p : Part) : ChannelSnapshot :=
  let ch := p.channel c
  { channel := c
    state := ch.state
    config := ch.config
    baseValue := ch.base
    outputValue := ch.output
    period := ch.period.map fun q => (q.frequency, q.length, q.high)
    currentFrequency := if ch.kind = some .pwm then ch.frequency else none
    position := ch.position p.now
    held := ch.queue.length
    pending := ch.pending
    slipTotal := ch.slipTotal
    lowWaterLow := ch.lowWaterLow
    runStart := ch.runStart.map reported
    modifier := ch.modifier.map fun m => (m.entry, m.fault) }

/-- The group snapshot (R83, R86). -/
def Part.groupSnapshot (g : Nat) (p : Part) : GroupSnapshot where
  group := g
  condition := (p.group g).armed
  primed := p.primedFor g
  startCount := (p.group g).startCount
  lastStart := (p.group g).lastStart

/-- One slot as SLOT_GET reports it (R78). -/
def Part.slotSnapshot (s : Nat) (p : Part) : SlotSnapshot where
  slot := s
  source := (p.slot s).source
  count := (p.slot s).count
  last := (p.slot s).last
  waiters := p.slotWaiters s

/-- One monitor as MONITOR_READ reports it (R92). -/
def Part.monitorSnapshot (m : Nat) (p : Part) : MonitorSnapshot :=
  let x := p.monitor m
  { monitor := m
    current := x.last
    minimum := x.minimum
    maximum := x.maximum
    highThreshold := x.highThreshold
    lowThreshold := x.lowThreshold
    high := x.high
    toSet := x.toSet
    captureUp := x.captureUp
    captureDown := x.captureDown
    sampleTime := reported x.sampleTime }

/-- The WORN cells in line and cell order (R123). -/
def Part.wornCells (p : Part) : List (Nat × CellId) :=
  (List.range Config.lines).flatMap fun l =>
    (allCells.filter fun c => (p.cell l c).worn).map fun c => (l, c)

/-- The matrix summary (R123, R124). -/
def Part.matrixSummary (p : Part) : MatrixSummary where
  state := p.matrix.state
  firstPassDone := p.matrix.firstPass
  restore := p.matrix.restore.map Restore.lines
  settle := p.matrix.settle
  patrolInterval := p.matrix.patrolInterval
  wearThreshold := p.matrix.wearThreshold
  patrolPosition := p.matrix.patrolPosition
  patrolNext := reported p.matrix.patrolNext
  lineStates := p.matrix.lines.map Line.state
  wornCells := p.wornCells
  buses := p.matrix.terminations.zip p.matrix.busSense

/-- The detail of one line (R123). -/
def Part.lineDetail (l : Nat) (p : Part) : LineDetail where
  line := l
  state := (p.line l).state
  lastOpen := reported (p.line l).lastOpen
  sense := p.matrix.lineSense.getD l 0
  cells := (p.line l).cells

/-- The claims an entry holds; absent when it holds none (R150). -/
def Part.heldClaims (e : Nat) (p : Part) : Option HeldClaims :=
  let lines := (List.range Config.lines).filter fun l => p.claims.lines.getD l none = some e
  let bus := (List.range Config.buses).find? fun b => p.claims.buses.getD b none = some e
  let channel := (List.range Config.channels).find? fun c => p.claims.channels.getD c none = some e
  if lines.isEmpty && channel.isNone then none
  else some { lines := lines, bus := bus, channel := channel,
              budget := if lines.isEmpty then 0 else ((p.entry e).electrical?.map Electrical.budget).getD 0 }

/-- A waiting form as it is reported: a time is a rig time, which holds at its last value (R1, R69). -/
def Waiting.reported : Waiting → Waiting
  | .time t => .time (Machine.reported t)
  | w => w

/-- The entry snapshot (R150, R151). A due point is a rig time, or a cycle or target of 32 bits. -/
def Part.entrySnapshot (e : Nat) (p : Part) : EntrySnapshot :=
  let x := p.entry e
  { entry := e
    state := x.state
    definition := x.definition
    waiting := x.waiting.map Waiting.reported
    occurrences := x.occurrences
    repeatsRemaining := x.repeatsRemaining
    duePoint := x.duePoint.map Machine.reported
    blockedSince := x.blockedSince.map reported
    deadline := x.deadline
    endCause := x.endCause
    last := x.last
    claims := p.heldClaims e }

/-- One entry's line in the ALL summary (R150). -/
def Part.entryBrief (e : Nat) (p : Part) : EntryBrief :=
  let x := p.entry e
  { entry := e
    electrical := x.definition.map fun d => d.electrical?.isSome
    state := x.state
    repeatsRemaining := x.repeatsRemaining }

/-- The guard snapshot (R153, R160). -/
def Part.guardSnapshot (p : Part) : GuardSnapshot where
  period := p.guard.period
  safeRate := p.guard.safeRate
  lastValue := p.guard.lastValue
  windowStart := p.guard.period.map fun _ => reported p.guard.windowStart
  deadline := p.guard.period.map fun _ => p.guard.deadline
  expiryCount := p.guard.expiryCount
  safe := p.safe
  rigTime := p.clock.rigTime

/-- The snapshot of STATUS_GET (R181). -/
def Part.statusSnapshot (p : Part) : StatusSnapshot where
  partCode := Config.partCode
  revision := Config.revision
  rigTime := p.clock.rigTime
  safeCause := p.safe.map SafeInfo.cause
  guardOn := p.guard.period.isSome
  matrixState := p.matrix.state
  mode := p.engine.mode
  motion := p.engine.motion
  speed := p.engine.speed
  angle := p.engine.angle
  cycle := p.engine.cycle
  freeSlots := p.freeSlots
  summary := p.summaryFlag
  resetCause := p.link.resetCause
  inbound := p.link.inbound.length
  replies := p.link.replies.length
  notices := p.link.notices.length
  counters := p.link.counters

/-- The place of a weld by the number it is logged by (R163). -/
def weldPlace (detail : Int) : Option WeldPlace :=
  [WeldPlace.step, .fast, .isolate, .patrol].find? fun w => (w.number : Int) = detail

/-- The name of the place that a class record reports beside a CELL_WELDED it holds as its first error (R163). -/
def ClassRecord.weld (r : ClassRecord) : Option WeldPlace :=
  r.first.bind fun g => if g.code = .cellWelded then weldPlace g.detail else Option.none

/-- The snapshot of ERRLOG_GET (R167). -/
def Part.logSnapshot (p : Part) : Body :=
  .errorLog p.summaryFlag p.log.corrected p.log.recoverable p.log.fatal p.log.fatal.weld

/-- The body of the reset-done notice (R183). -/
def Part.resetDoneBody (p : Part) : Body :=
  .resetDone p.link.resetCause Config.partCode Config.revision (decide (p.link.resetCause = .link))

/-- What the ring hands over as a capture notice begins (R96). -/
def Capture.batchBody (c : Capture) : Body :=
  let rest := c.ring.drop 32
  .captureBatch (c.ring.take 32) c.dropped rest.length (rest.head?.map fun r => r.stamp.time)

/-- The ring after a capture notice has taken its records (R96). -/
def Capture.afterBatch (c : Capture) : Capture := { c with ring := c.ring.drop 32, dropped := 0 }

/-- The snapshot of a notice source, as its own rule gives it (10.3.1, R179). -/
def Part.noticeBody (src : NoticeSource) (p : Part) : Body :=
  match src with
  | .part => p.resetDoneBody
  | .guard => .guard p.guardSnapshot
  | .cls c => .errorNotice c (p.log.of c) (p.log.of c).weld p.summaryFlag
  | .matrix => .matrixSummary p.matrixSummary
  | .entry e => .entry (p.entrySnapshot e)
  | .channel c => .channel (p.channelSnapshot c)
  | .group g => .group (p.groupSnapshot g)
  | .capture => p.capture.batchBody
  | .engine => .engine p.engineSnapshot
  | .link => .linkCounters p.link.counters

end Sys2Proof.Machine
end

