-- ==== Sys2Proof/Machine/Interpreter.lean ====
section
/-! DEFINITION. How a command reaches the part and how a request is answered: the interpreter's take, the reply, and the
shape of every meaning (R174, R175). -/

namespace Sys2Proof.Machine

/-- What a request's owning block answers: a refusal, which changes nothing, or an acceptance with the ACK's body and the
part after it (R175). -/
inductive Verdict where
  | refuse (r : Refused)
  | ack (body : Body) (part : Part)
  deriving DecidableEq, Repr

/-- A reply joins the reply queue after the newest (R175). -/
def Part.reply (tag : Nat) (a : Answer) (p : Part) : Part :=
  { p with link := { p.link with replies := p.link.replies ++ [{ tag := tag, answer := a }] } }

/-- The part as the interpreter takes a command from the inbound queue (R174), or `none` where it does not take it: the
reply queue is full, a LINK_RESET is pending, or the oldest frame spells another request. With no frame waiting the
command is handed over whole, its frame counted as one that joined the queue and left it at once (log entry 3). -/
def Part.takeFrame (c : Instr) (p : Part) : Option Part :=
  if p.interpreterReady then
    match p.link.inbound with
    | f :: rest => if decodeFrame f = c then some { p with link := { p.link with inbound := rest } } else none
    | [] =>
      some { p with link := { p.link with
        counters := { p.link.counters with framesReceived := bump Config.max32 p.link.counters.framesReceived } } }
  else none

/-- The part once its block has judged a request: the reply joins the queue, and a refusal changes nothing (R175). -/
def Part.answered (tag : Nat) (p : Part) : Verdict → Part
  | .refuse r => p.reply tag (.refuse r)
  | .ack body p' => p'.reply tag (.ack body)

/-- The interpreter's check of the tag (R174), then the block's own judgement. -/
def Part.judgeRequest (tag : Nat) (act : Part → Verdict) (p : Part) : Part :=
  p.answered tag (if tag = 0 then .refuse (badField 0) else act p)

/-- A meaning that leaves the part as `p`; the queue of waiting commands is not its concern. -/
def acted (s : State) (p : Part) : Host.Outcome State Fault Refusal := .next { s with part := p }

/-- One request: taken if the interpreter takes it, judged by its block, and answered, all on one tick (R174, R175). -/
def request (c : Instr) (tag : Nat) (act : Part → Verdict) (s : State) : Host.Outcome State Fault Refusal :=
  match s.part.takeFrame c with
  | some p => acted s (p.judgeRequest tag act)
  | none => acted s s.part

/-- One event of a numbered unit of the part; a number the part has no unit for faults. -/
def onUnit (n units : Nat) (act : Part → Part) (s : State) : Host.Outcome State Fault Refusal :=
  if n < units then acted s (act s.part) else .fault .noSuchUnit

/-- A judgement by checks in order: the first that fails refuses, and otherwise the request is accepted. -/
def checked (checks : List (Bool × Refused)) (accept : Verdict) : Verdict :=
  match firstFailure checks with
  | some r => .refuse r
  | none => accept

end Sys2Proof.Machine
end

