-- ==== Sys2Proof/Machine/ChannelCommands.lean ====
section
/-! DEFINITION. The replay channels' requests and their render events (R22 to R39, R44). -/

namespace Sys2Proof.Machine

/-! ### Configuring -/

/-- R24's checks, in its order. -/
def Part.configureChecks (c : Nat) (r : RawConfig) (p : Part) : List (Bool × Refused) :=
  let ch := p.channel c
  match parseKind r.kind with
  | none => [(outside 0 31 c, badField 1), (true, badField 2)]
  | some k =>
    [(outside 0 31 c, badField 1), (k = .level && decide (Config.bankA ≤ c), refusal .kindMismatch)] ++
    configChecks c k r ++
    [ (decide (ch.state ≠ .off ∧ ch.state ≠ .idle), refusal .busy),
      (ch.state = .idle && ch.kind ≠ some k && (!ch.queue.isEmpty || ch.modifier.isSome), refusal .busy),
      (k = .wheel && ((r.pattern.bind p.pattern).isNone), refusal .notConfigured) ]

/-- A channel's record written (R24): the current frequency of a PWM channel becomes `pwm_frequency`. -/
def Channel.withConfig (cfg : ChConfig) (ch : Channel) : Channel :=
  { ch with config := some cfg, frequency := cfg.pwmFrequency, runStart := none }

/-- A channel shown afresh at its park value, with its first park period started on the tick (R34, R36; log entry 16). A LEVEL
channel's DAC holds the code that stands on its pin until the next level tick (R32). -/
def Channel.shownAtPark (now : Nat) (ch : Channel) : Channel :=
  ({ ch with period := none, base := ch.park, output := ch.park, dac := ch.pin, applied := none }).firstPeriod now

/-- A WHEEL channel shown afresh where it is IDLE: its park value, under the pattern and the levels just written (R24, R38). -/
def Part.wheelAnew (ch : Channel) (p : Part) : Channel :=
  if ch.kind = some .wheel then ch.wheelRender (p.patternOf ch) p.engine.angle else ch

/-- CHANNEL_CONFIG's effect (R24): OFF becomes IDLE, or HELD in SAFE, and an IDLE channel stays IDLE; a WHEEL channel that
keeps its kind renders its park value on the tick. -/
def Part.configure (c : Nat) (cfg : ChConfig) (p : Part) : Part :=
  let ch := p.channel c
  let ch' := ch.withConfig cfg
  if ch.state = .off then
    let st : ChState := if p.inSafe then .held else .idle
    p.enterState c st (({ ch' with state := st }).shownAtPark p.now)
  else p.putChannel c (if ch.kind = some cfg.kind then p.wheelAnew ch' else ch'.shownAtPark p.now)

/-- CHANNEL_CONFIG (R24). -/
def execChannelConfig (tag channel : Nat) (config : RawConfig) (s : State) : Host.Outcome State Fault Refusal :=
  request (.channelConfig tag channel config) tag
    (fun p =>
      let p' := p.configure channel (storedConfig channel ((parseKind config.kind).getD .level) config)
      checked (p.configureChecks channel config)
        (.ack (.channelConfig channel (p'.channel channel).state (p'.channel channel).config) p')) s

/-! ### Starting, stopping, disabling, reading -/

/-- R25's effect: PRIMED for the start group, or RUNNING with no record in play until the next tick. -/
def Part.startChannel (c : Nat) (p : Part) : Part :=
  let ch := p.channel c
  if (ch.config.bind ChConfig.startGroup).isSome then p.enterState c .primed ch
  else p.enterState c .running { ch with runStart := some p.now, startAt := some (p.now + 1) }

/-- CHANNEL_START (R25). -/
def execChannelStart (tag channel : Nat) (s : State) : Host.Outcome State Fault Refusal :=
  request (.channelStart tag channel) tag
    (fun p =>
      let p' := p.startChannel channel
      checked
        [ (outside 0 31 channel, badField 1), (p.inSafe, refusal .safeHold),
          (decide ((p.channel channel).state = .off), refusal .notConfigured),
          (decide ((p.channel channel).state ≠ .idle), refusal .busy) ]
        (.ack (.channelState channel (p'.channel channel).state) p')) s

/-- CHANNEL_STOP (R26). -/
def execChannelStop (tag channel : Nat) (s : State) : Host.Outcome State Fault Refusal :=
  request (.channelStop tag channel) tag
    (fun p =>
      let ch := p.channel channel
      checked
        [ (outside 0 31 channel, badField 1), (decide (ch.state = .off), refusal .notConfigured),
          (decide (ch.state = .held), refusal .safeHold) ]
        (.ack (.channelStop channel ch.queue.length .idle) (p.enterState channel .idle ch.parked))) s

/-- CHANNEL_DISABLE's effect (R27): the channel is as after a reset, and a signal fault active on it ends with NO_TARGET. DESIGN
CHOICE (log entry 51): R27 and R149 give no order between the channel notice and the notice of the entry so ended, which R178
sends in queue order at one level and age; the channel notice is raised first. -/
def Part.disableChannel (c : Nat) (p : Part) : Part :=
  let ch := p.channel c
  if ch.state = .off then p
  else
    settleAll (p.enterState c .off Channel.atReset,
      match ch.modifier with
      | some m => [.endActive m.entry .noTarget]
      | none => [])

/-- CHANNEL_DISABLE (R27). -/
def execChannelDisable (tag channel : Nat) (s : State) : Host.Outcome State Fault Refusal :=
  request (.channelDisable tag channel) tag
    (fun p =>
      checked [(outside 0 31 channel, badField 1)]
        (.ack (.channelDisable channel (p.channel channel).queue.length) (p.disableChannel channel))) s

/-- CHANNEL_GET (R44). -/
def execChannelGet (tag channel : Nat) (s : State) : Host.Outcome State Fault Refusal :=
  request (.channelGet tag channel) tag
    (fun p => checked [(outside 0 31 channel, badField 1)] (.ack (.channel (p.channelSnapshot channel)) p)) s

/-! ### Wheel patterns -/

/-- Whether a channel naming the pattern is RUNNING (R37). -/
def Part.patternRunning (index : Nat) (p : Part) : Bool :=
  p.channels.any fun ch => ch.state = .running && ch.config.bind ChConfig.pattern = some index

/-- WHEEL_DEFINE (R37). -/
def execWheelDefine (tag index : Nat) (pattern : RawPattern) (s : State) : Host.Outcome State Fault Refusal :=
  request (.wheelDefine tag index pattern) tag
    (fun p =>
      let pt := storedPattern pattern
      checked (patternChecks index pattern ++ [(p.patternRunning index, refusal .busy)])
        (.ack (.wheel index (pt.span / pt.positions)) { p with patterns := p.patterns.set index (some pt) })) s

/-! ### Renders -/

/-- A level tick: the play due on it is taken first, and the renders use the records then in play (2.4.1, R32, R39, R56). -/
def Part.levelTick (p : Part) : Part :=
  let q := p.playWhere Channel.levelled
  ({ q with marks := { q.marks with level := false } }).renderLevels

/-- LEVEL_TICK (R32, R39): on a tick whose rig time is a whole multiple of 10. -/
def execLevelTick (s : State) : Host.Outcome State Fault Refusal :=
  acted s (if s.part.marks.level then s.part.levelTick else s.part)

/-- The fine tick a running period ends on, once it has come (R33; log entry 30). -/
def Part.periodEnded (c : Nat) (kind : Kind) (p : Part) : Option Nat :=
  let ch := p.channel c
  match ch.period with
  | some q =>
    if ch.state ≠ .off && ch.kind = some kind && q.start + q.length ≤ p.now * Config.finePerMicro then
      some (q.start + q.length)
    else none
  | none => none

/-- A PWM period end (R34): the play due on the tick is taken (2.4.1), and the next period starts at once with the rendered
duty and the current frequency. -/
def Part.endPwmPeriod (c : Nat) (p : Part) : Part :=
  match p.periodEnded c .pwm with
  | some t => (p.play c).putChannel c (((p.play c).channel c).pwmPeriod p.now t)
  | none => p

/-- PWM_PERIOD_END (R34). -/
def execPwmPeriodEnd (channel : Nat) (s : State) : Host.Outcome State Fault Refusal :=
  onUnit channel Config.channels (Part.endPwmPeriod channel) s

/-- A PULSE period end (R35, R36): the play due on the tick is taken (2.4.1), and the next period starts at once at the
rendered frequency, or none where that is 0. -/
def Part.endPulsePeriod (c : Nat) (p : Part) : Part :=
  match p.periodEnded c .pulse with
  | some t => (p.play c).putChannel c (((p.play c).channel c).pulsePeriod p.now t)
  | none => p

/-- PULSE_PERIOD_END (R35, R36). -/
def execPulsePeriodEnd (channel : Nat) (s : State) : Host.Outcome State Fault Refusal :=
  onUnit channel Config.channels (Part.endPulsePeriod channel) s

/-- Whether a PULSE channel with no period running has looked at a rendered frequency that is not 0 (R36). -/
def Channel.trainDue (now : Nat) (ch : Channel) : Bool := ch.looking && ch.output ≠ 0 && !ch.playWaits now

/-- A PULSE channel whose look of the tick found its rendered frequency not 0 starts a period at once (R36). -/
def Part.startTrain (c : Nat) (p : Part) : Part :=
  if (p.channel c).trainDue p.now then
    p.putChannel c ((p.channel c).pulseFrom (p.now * Config.finePerMicro))
  else p

/-- PULSE_TRAIN_START (R36). -/
def execPulseTrainStart (channel : Nat) (s : State) : Host.Outcome State Fault Refusal :=
  onUnit channel Config.channels (Part.startTrain channel) s

end Sys2Proof.Machine
end

