-- ==== Sys2Proof/Machine/EngineCommands.lean ====
section
/-! DEFINITION. The angle engine's requests and events (R4 to R17, R19). -/

namespace Sys2Proof.Machine

/-! ### Requests -/

/-- ENGINE_GET (R19). -/
def execEngineGet (tag : Nat) (s : State) : Host.Outcome State Fault Refusal :=
  request (.engineGet tag) tag (fun p => .ack (.engine p.engineSnapshot) p) s

/-- The FIXED target and ramp rate written, the motion status derived again (R6). -/
def Engine.setSpeed (target rate : Nat) (e : Engine) : Engine :=
  { e with target := target, rampRate := rate, motion := fixedMotion e.internal target }

/-- ENGINE_SPEED (R6). -/
def execEngineSpeed (tag target rate : Nat) (s : State) : Host.Outcome State Fault Refusal :=
  request (.engineSpeed tag target rate) tag
    (fun p =>
      let e := p.engine.setSpeed (min target Config.maxSpeed) rate
      checked
        [ (outside 1 50000 rate, badField 2), (p.inSafe, refusal .safeHold),
          (decide (p.engine.mode ≠ .fixed), refusal .busy) ]
        (.ack (.engineSpeed (decide (Config.maxSpeed < target)) e.target e.rampRate e.motion) (p.setEngine e))) s

/-- The engine entering a mode from another while STOPPED (R16). -/
def Engine.enterMode (mode : Mode) (channel : Nat) (e : Engine) : Engine :=
  match mode with
  | .fixed =>
    { e with mode := .fixed, trackChannel := none, internal := 0, target := 0, speed := 0, increment := 0,
             motion := fixedMotion 0 0 }
  | .track => { e with mode := .track, trackChannel := some channel, internal := e.speed * 1000, target := e.speed }
  | .follow =>
    { e with mode := .follow, trackChannel := none, internal := e.speed * 1000, target := e.speed, increment := 0,
             windowNet := 0, windowCounts := 0, sinceIndex := 0, missingMark := false }

/-- ENGINE_MODE's effect (R16): the mode in force again changes nothing but TRACK's channel. -/
def Part.engineMode (mode : Mode) (channel : Nat) (p : Part) : Part :=
  if p.engine.mode = mode then
    (if mode = .track then { p with engine := { p.engine with trackChannel := some channel } } else p)
  else p.setEngine (p.engine.enterMode mode channel)

/-- R16's checks. -/
def Part.engineModeChecks (mode channel : Nat) (p : Part) : List (Bool × Refused) :=
  let track := decide (mode = 1)
  [ ((parseMode mode).isNone, badField 1),
    (track && outside 0 31 channel, badField 2),
    (p.inSafe, refusal .safeHold),
    (decide (p.engine.motion ≠ .stopped), refusal .busy),
    (track && decide ((p.channel channel).state = .off), refusal .notConfigured),
    (track && decide ((p.channel channel).kind ≠ some .speed), refusal .kindMismatch) ]

/-- ENGINE_MODE (R16). -/
def execEngineMode (tag mode channel : Nat) (s : State) : Host.Outcome State Fault Refusal :=
  request (.engineMode tag mode channel) tag
    (fun p =>
      let m := (parseMode mode).getD .fixed
      checked (p.engineModeChecks mode channel)
        (.ack (.engineMode m (if m = .track then some channel else none)) (p.engineMode m channel))) s

/-- ENGINE_ANGLE_SET's effect (R17, R38): no motion, so no angle is passed and no travel is added, but the WHEEL channels show
the new angle on the tick. -/
def Part.setAngle (angle cycle : Nat) (p : Part) : Part :=
  ({ p with engine := { p.engine with acc := angle * Config.unitParts, cycle := wrap32 cycle } }).renderWheels

/-- ENGINE_ANGLE_SET (R17). DESIGN CHOICE (log entry 47): the range check comes before BUSY, in the order the rule names
them. -/
def execEngineAngleSet (tag angle cycle : Nat) (s : State) : Host.Outcome State Fault Refusal :=
  request (.engineAngleSet tag angle cycle) tag
    (fun p =>
      checked [(outside 0 46079 angle, badField 1), (decide (p.engine.motion ≠ .stopped), refusal .busy)]
        (.ack (.angleSet angle (wrap32 cycle)) (p.setAngle angle cycle))) s

/-- The follow configuration written (R11). -/
def Engine.setFollow (counts offset tolerance : Nat) (e : Engine) : Engine :=
  { e with counts := counts, offset := offset, tolerance := tolerance, step := followStep counts, sinceIndex := 0,
           missingMark := false }

/-- ENGINE_FOLLOW_CFG (R11). -/
def execEngineFollowCfg (tag counts offset tolerance : Nat) (s : State) : Host.Outcome State Fault Refusal :=
  request (.engineFollowCfg tag counts offset tolerance) tag
    (fun p =>
      checked
        [ (outside 360 16384 counts, badField 1), (outside 0 23039 offset, badField 2),
          (outside 0 2000 tolerance, badField 3), (decide (p.engine.motion ≠ .stopped), refusal .busy) ]
        (.ack .empty { p with engine := p.engine.setFollow counts offset tolerance })) s

/-! ### The millisecond update (R4, R5, R9, R15) -/

/-- The FIXED update (R5). -/
def Engine.fixedUpdate (e : Engine) : Engine :=
  let internal := rampStep e.internal e.target e.rampRate
  { e.withSpeed (internal / 1000) with internal := internal, motion := fixedMotion internal e.target }

/-- The speed a TRACK engine takes (R9): the rendered value of its channel while that is a SPEED channel, else 0. -/
def Part.trackSpeed (p : Part) : Nat :=
  match p.engine.trackChannel with
  | some c => if (p.channel c).state ≠ .off && (p.channel c).kind = some .speed then (p.channel c).output else 0
  | none => 0

/-- The TRACK update (R9). -/
def Engine.trackUpdate (speed : Nat) (e : Engine) : Engine := { e.takeSpeed speed with motion := trackMotion speed }

/-- The FOLLOW update (R15): the estimate of the window just ended, and a fresh window. -/
def Engine.followUpdate (e : Engine) : Engine :=
  { e.takeSpeed (followSpeed e.windowNet e.counts) with
    motion := followMotion e.windowCounts, windowNet := 0, windowCounts := 0 }

/-- The engine after a millisecond update (R5, R9, R15). -/
def Part.engineUpdate (p : Part) : Engine :=
  match p.engine.mode with
  | .fixed => p.engine.fixedUpdate
  | .track => p.engine.trackUpdate p.trackSpeed
  | .follow => p.engine.followUpdate

/-- MILLISECOND_UPDATE (R5): on a tick whose rig time is a whole multiple of 1,000. -/
def execMillisecondUpdate (s : State) : Host.Outcome State Fault Refusal :=
  let p := s.part
  acted s
    (if p.marks.milli then ({ p with marks := { p.marks with milli := false } }).setEngine p.engineUpdate else p)

/-! ### The encoder (R10, R12 to R14) -/

/-- The direction of a quadrature count from the levels before and after (R10): `none` where neither or both of A and B
changed. -/
def quadrature (a b a' b' : Bool) : Option Bool :=
  if (a == a') == (b == b') then none
  else if a != a' then some (a' != b)
  else some (b' == a)

/-- The counts of a window and since the index, with one more count (R14, R15). -/
def Engine.countOne (forward : Bool) (e : Engine) : Engine :=
  { e with
    sinceIndex := bump (2 * e.counts) e.sinceIndex
    windowNet := if forward then e.windowNet + 1 else e.windowNet - 1
    windowCounts := e.windowCounts + 1 }

/-- The encoder's A and B as sampled. -/
def Part.setEncoder (a b : Bool) (p : Part) : Part := { p with pins := { p.pins with encA := a, encB := b } }

/-- ENCODER_COUNT (R10): A and B change to these levels; in FOLLOW a count moves the accumulator by the follow step. -/
def execEncoderCount (a b : Bool) (s : State) : Host.Outcome State Fault Refusal :=
  let p := s.part
  let p' := p.setEncoder a b
  acted s
    (match p.engine.mode, quadrature p.pins.encA p.pins.encB a b with
    | .follow, some forward => p'.takeMove ((p.engine.countOne forward).move forward p.engine.step)
    | _, _ => p')

/-- The index record with one more index pulse (R13, R14). -/
def Engine.indexed (err : Int) (time : Nat) (e : Engine) : Engine :=
  { e with indexError := err, indexCount := wrap32 (e.indexCount + 1), indexTime := time, sinceIndex := 0,
           missingMark := false }

/-- The signed error an index pulse finds (R12). -/
def Engine.indexErrorNow (e : Engine) : Int := circularError e.angle (snapCandidate e.angle e.offset)

/-- One index pulse in FOLLOW (R12 to R14): the record, the snap and, for an error beyond the tolerance, the logging. DESIGN
CHOICE (log entry 46): R13 does not order INDEX_SLIP against the loggings that the snap's passings bring about on the tick;
the model logs the slip behind them. -/
def Part.indexPulse (p : Part) : Part :=
  let err := p.engine.indexErrorNow
  let p' := p.takeMove ((p.engine.indexed err p.clock.rigTime).snap)
  if p.engine.tolerance < err.natAbs then p'.logError .indexSlip .engine err else p'

/-- INDEX_PULSE (R12): Z changes to this level; a rising edge is an index pulse in FOLLOW. -/
def execIndexPulse (z : Bool) (s : State) : Host.Outcome State Fault Refusal :=
  let p := s.part
  let p' := { p with pins := { p.pins with encZ := z } }
  acted s (if p.engine.mode = .follow && z && !p.pins.encZ then p'.indexPulse else p')

/-- Whether the count since the last index has reached 2 × E with the missing-index mark clear (R14). -/
def Part.indexMissing (p : Part) : Bool :=
  p.engine.mode = .follow && p.engine.sinceIndex = 2 * p.engine.counts && !p.engine.missingMark

/-- INDEX_MISSING (R14). -/
def execIndexMissing (s : State) : Host.Outcome State Fault Refusal :=
  let p := s.part
  acted s
    (if p.indexMissing then
      ({ p with engine := { p.engine with missingMark := true } }).logError .indexMissing .engine
        ((2 * p.engine.counts : Nat) : Int)
    else p)

end Sys2Proof.Machine
end

