-- ==== Sys2Proof/Machine/GuardSafe.lean ====
section
/-! DEFINITION. The link guard and safe hold: GUARD_SET, KEEPALIVE, SAFE_ENTER, SAFE_LEAVE and GUARD_EXPIRY, with what entry to
SAFE does to each block (R18, R29, R85, R114, R116, R147, R153 to R160). -/

namespace Sys2Proof.Machine

/-! ### Entering SAFE (R157) -/

/-- An entry's wait is dropped as the part enters SAFE (R147): ARMED becomes LOADED; a BLOCKED entry's occurrence ends with
cause SAFE and takes no claims. -/
def Part.safeWaiting (e : Nat) (p : Part) : Part × List Task :=
  let x := p.entry e
  match x.state with
  | .armed => (p.enterEntry e .loaded { x with waiting := none }, [])
  | .blocked => (p.recordCause e .safe).finish e
  | _ => (p, [])

/-- An inserted entry as the part enters SAFE (R114, R116, R147): ELECTRICAL, its insertion step is abandoned and its lines
are fast released; SIGNAL, its occurrence ends on the tick. -/
def Part.safeInserted (e : Nat) (p : Part) : Part × List Task :=
  let x := p.entry e
  match x.electrical?, x.state with
  | some _, .inserting => ((p.recordCause e .safe).holdBackCloses e).beginRelease e true
  | some _, .active => (p.recordCause e .safe).beginRelease e true
  | none, .active => p.endActive e .safe
  | _, _ => (p, [])

/-- A group as the part enters SAFE (R85). -/
def Part.safeGroup (g : Nat) (p : Part) : Part :=
  if (p.group g).armed.isSome then (p.setGroup g { p.group g with armed := none }).raise (.group g) else p

/-- A channel as the part enters SAFE (R29): HELD at its park value, its queue given back. -/
def Part.safeChannel (c : Nat) (p : Part) : Part :=
  if (p.channel c).state = .off then p else p.enterState c .held (p.channel c).parked

/-- The engine as the part enters SAFE (R18). -/
def Engine.safeHold (safeRate : Nat) (e : Engine) : Engine :=
  match e.mode with
  | .fixed => { e with target := 0, rampRate := safeRate, motion := fixedMotion e.internal 0 }
  | .track =>
    { e with
      mode := .fixed
      trackChannel := none
      internal := e.speed * 1000
      target := 0
      rampRate := safeRate
      motion := fixedMotion (e.speed * 1000) 0 }
  | .follow => e

/-- Entry to SAFE from NORMAL (R157): the part state and the guard notice, then each block (order: log entry 22). -/
def Part.enterSafe (cause : SafeCause) (p : Part) : Part :=
  let p1 := ({ p with safe := some { cause := cause, time := p.clock.rigTime } }).raise .guard
  let p2 := settleAll (p1.forEach Part.safeWaiting (List.range Config.entries))
  let p3 := (List.range Config.groups).foldl (fun q g => q.safeGroup g) p2
  let p4 := settleAll (p3.forEach Part.safeInserted (List.range Config.entries))
  let p5 := (List.range Config.channels).foldl (fun q c => q.safeChannel c) p4
  p5.setEngine (p5.engine.safeHold p5.guard.safeRate)

/-! ### The window (R153 to R156) -/

/-- The window restarted on a tick while the guard is ON (R154 to R156, R159). -/
def Guard.restart (now : Nat) (g : Guard) : Guard :=
  match g.period with
  | some n => { g with windowStart := now, deadline := now + n * 1000, expiresAt := now + n * 1000 }
  | none => g

/-- A period written (R154): it turns an OFF guard ON with a window from this tick, and forms an ON guard's deadline anew
from the window start; a deadline then behind the tick expires on the next. -/
def Guard.setPeriod (now n : Nat) (g : Guard) : Guard :=
  match g.period with
  | none => Guard.restart now { g with period := some n }
  | some _ =>
    let deadline := g.windowStart + n * 1000
    { g with period := some n, deadline := deadline, expiresAt := if deadline ≤ now then now + 1 else deadline }

/-- GUARD_SET's effect (R154). -/
def Part.guardSet (period rate : Option Nat) (p : Part) : Part :=
  let g := { p.guard with safeRate := rate.getD p.guard.safeRate }
  match period with
  | none => { p with guard := g }
  | some n =>
    let p' := { p with guard := g.setPeriod p.now n }
    if p.guard.period = some n then p' else p'.raise .guard

/-- GUARD_SET (R154). DESIGN CHOICE (log entry 47): R154 gives no order of its two range checks; with both fields out of range
BAD_FIELD names the period. -/
def execGuardSet (tag : Nat) (period rate : Option Nat) (s : State) : Host.Outcome State Fault Refusal :=
  request (.guardSet tag period rate) tag
    (fun p =>
      checked [(outsideIf 10 5000 period, badField 1), (outsideIf 1 50000 rate, badField 2)]
        (.ack (.guard (p.guardSet period rate).guardSnapshot) (p.guardSet period rate))) s

/-- KEEPALIVE's effect (R155): a new value is recorded and restarts an ON guard's window. -/
def Part.keepalive (value : Nat) (p : Part) : Part :=
  if p.guard.lastValue = some value then p
  else { p with guard := Guard.restart p.now { p.guard with lastValue := some value } }

/-- KEEPALIVE (R155). -/
def execKeepalive (tag value : Nat) (s : State) : Host.Outcome State Fault Refusal :=
  request (.keepalive tag value) tag
    (fun p =>
      let isNew := decide (p.guard.lastValue ≠ some value)
      let p' := p.keepalive value
      .ack (.keepalive value isNew (isNew && p.guard.period.isSome) (p'.guard.period.map fun _ => p'.guard.deadline)
        p'.inSafe) p') s

/-- The expiry's logging (R156). -/
def Part.logExpiry (p : Part) : Part := p.logError .guardExpired .link (p.guard.period.getD 0)

/-- The expiry of the window (R156): the count rises, the window restarts, the guard notice is raised, and in NORMAL the
part enters SAFE and GUARD_EXPIRED is logged. -/
def Part.expire (p : Part) : Part :=
  let g := { p.guard with expiryCount := bump Config.max16 p.guard.expiryCount }
  let p' := ({ p with guard := Guard.restart p.now g }).raise .guard
  if p.inSafe then p' else (p'.enterSafe .expiry).logExpiry

/-- Whether the guard's window expires on the present tick (R156). -/
def Part.expiryDue (p : Part) : Bool := p.guard.period.isSome && p.guard.expiresAt ≤ p.now

/-- GUARD_EXPIRY (R156). -/
def execGuardExpiry (s : State) : Host.Outcome State Fault Refusal :=
  acted s (if s.part.expiryDue then s.part.expire else s.part)

/-! ### SAFE by request (R157, R159) -/

/-- SAFE_ENTER (R157). -/
def execSafeEnter (tag : Nat) (s : State) : Host.Outcome State Fault Refusal :=
  request (.safeEnter tag) tag (fun p => .ack .empty (if p.inSafe then p else p.enterSafe .request)) s

/-- A HELD channel made IDLE at its park value (R29, R159). -/
def Part.freeChannel (c : Nat) (p : Part) : Part :=
  if (p.channel c).state = .held then p.enterState c .idle (p.channel c) else p

/-- Leaving SAFE (R159). -/
def Part.leaveSafe (p : Part) : Part :=
  let p1 := { p with safe := none }
  let p2 := (List.range Config.channels).foldl (fun q c => q.freeChannel c) p1
  ({ p2 with guard := p2.guard.restart p2.now }).raise .guard

/-- Whether any entry is RELEASING (R159). -/
def Part.anyReleasing (p : Part) : Bool := p.entries.any fun e => e.state = .releasing

/-- SAFE_LEAVE (R159). -/
def execSafeLeave (tag : Nat) (s : State) : Host.Outcome State Fault Refusal :=
  request (.safeLeave tag) tag
    (fun p =>
      if p.inSafe then checked [(p.anyReleasing, refusal .busy)] (.ack .empty p.leaveSafe) else .ack .empty p) s

end Sys2Proof.Machine
end

