-- ==== Sys2Proof/Machine/LogRequests.lean ====
section
/-! DEFINITION. The requests on the error log (R167, R168). -/

namespace Sys2Proof.Machine

/-- ERRLOG_GET (R167). -/
def execErrlogGet (tag : Nat) (s : State) : Host.Outcome State Fault Refusal :=
  request (.errlogGet tag) tag (fun p => .ack p.logSnapshot p) s

/-- The record of a class emptied (R168). -/
def Part.clearClass (c : ErrClass) (p : Part) : Part := { p with log := p.log.write ClassRecord.none c }

/-- ERRLOG_CLEAR (R168): the ACK holds the record as it stood. -/
def execErrlogClear (tag cls : Nat) (s : State) : Host.Outcome State Fault Refusal :=
  request (.errlogClear tag cls) tag
    (fun p =>
      match parseClass cls with
      | none => .refuse (badField 1)
      | some c => .ack (.errorClass c (p.log.of c) (p.log.of c).weld) (p.clearClass c)) s

end Sys2Proof.Machine
end

