-- ==== Sys2Proof/Machine/MonitorCommands.lean ====
section
/-! DEFINITION. Monitors and capture: their requests and events (R88 to R97). -/

namespace Sys2Proof.Machine

/-! ### Requests -/

/-- MONITOR_CONFIG (R91): the thresholds are written and the state is to be set by the next sample. -/
def execMonitorConfig (tag monitor high low : Nat) (s : State) : Host.Outcome State Fault Refusal :=
  request (.monitorConfig tag monitor high low) tag
    (fun p =>
      let x := p.monitor monitor
      checked
        [ (outside 0 15 monitor, badField 1), (outside 1 60000 high, badField 2), (outside 0 59999 low, badField 3),
          (decide (high ≤ low), badField 2) ]
        (.ack (.monitorConfig monitor high low x.high true)
          (p.setMonitor monitor { x with highThreshold := high, lowThreshold := low, toSet := true }))) s

/-- A monitor's minimum and maximum set to its last sample (R92). -/
def Monitor.rewound (x : Monitor) : Monitor := { x with minimum := x.last, maximum := x.last }

/-- MONITOR_READ (R92); FF hex is ALL. -/
def execMonitorRead (tag monitor : Nat) (s : State) : Host.Outcome State Fault Refusal :=
  request (.monitorRead tag monitor) tag
    (fun p =>
      if monitor = 255 then
        .ack (.monitors ((List.range Config.monitors).map p.monitorSnapshot))
          { p with monitors := p.monitors.map Monitor.rewound }
      else
        checked [(outside 0 15 monitor, badField 1)]
          (.ack (.monitors [p.monitorSnapshot monitor]) (p.setMonitor monitor (p.monitor monitor).rewound))) s

/-- The position, from 1, of the first setting that names a monitor outside 0..15 or one named before (R97). -/
def settingFault (position : Nat) (seen : List Nat) : List CaptureSetting → Option Nat
  | [] => none
  | x :: rest =>
    if outside 0 15 x.monitor || seen.contains x.monitor then some position
    else settingFault (position + 1) (x.monitor :: seen) rest

/-- The enables written (R97). -/
def Part.setEnables (settings : List CaptureSetting) (p : Part) : Part :=
  settings.foldl
    (fun q x => q.setMonitor x.monitor { q.monitor x.monitor with captureUp := x.up, captureDown := x.down }) p

/-- CAPTURE_CFG's effect (R97): each field present is written. -/
def Part.captureCfg (batch flush : Option Nat) (settings : List CaptureSetting) (p : Part) : Part :=
  ({ p with capture := { p.capture with batch := batch.getD p.capture.batch, flush := flush.getD p.capture.flush }
    }).setEnables settings

/-- CAPTURE_CFG (R97). DESIGN CHOICE (log entry 18): BAD_FIELD naming the list carries field index 3, the list length, and
one naming a setting 4 with the setting's position. -/
def execCaptureCfg (tag : Nat) (batch flush : Option Nat) (listLength : Nat) (settings : List CaptureSetting)
    (s : State) : Host.Outcome State Fault Refusal :=
  request (.captureCfg tag batch flush listLength settings) tag
    (fun p =>
      let p' := p.captureCfg batch flush settings
      checked
        [ (outsideIf 1 32 batch, badField 1), (outsideIf 1 100 flush, badField 2),
          (decide (16 < listLength ∨ listLength ≠ settings.length), badField 3),
          ((settingFault 1 [] settings).isSome, badRecord .badField 4 ((settingFault 1 [] settings).getD 0)) ]
        (.ack
          (.captureCfg p'.capture.batch p'.capture.flush
            (p'.monitors.map fun m => (m.captureUp, m.captureDown)) p'.capture.ring.length p'.capture.dropped) p')) s

/-! ### Samples (R88 to R90) -/

/-- A monitor with one more sample (R88, R89, R91), and the direction of the crossing it makes. -/
def Monitor.sample (now v : Nat) (x : Monitor) : Monitor × Option Bool :=
  let x' := { x with last := v, minimum := min x.minimum v, maximum := max x.maximum v, sampleTime := now }
  if x.toSet then ({ x' with high := decide (x.highThreshold ≤ v), toSet := false }, none)
  else if !x.high && x.highThreshold ≤ v then ({ x' with high := true }, some true)
  else if x.high && v ≤ x.lowThreshold then ({ x' with high := false }, some false)
  else (x', none)

/-- What a crossing hands on (R90): its occurrence, and its record where capture is enabled for the direction. -/
def Monitor.crossing (m : Nat) (up : Bool) (x : Monitor) : List Task :=
  Task.occur (.monitor m up) :: (if (if up then x.captureUp else x.captureDown) then [.capture m up] else [])

/-- One monitor takes its sample, and what its crossing hands on. -/
def Part.sampleMonitor (m : Nat) (p : Part) : Part × List Task :=
  let r := (p.monitor m).sample p.now (monitorReading (p.pins.monitors.getD m 0))
  (p.setMonitor m r.1,
    match r.2 with
    | some up => r.1.crossing m up
    | none => [])

/-- All monitors sample on the tick, and their crossings are taken in monitor order (R88; order: log entry 14). -/
def Part.sampleMonitors (p : Part) : Part :=
  settleAll (p.forEach (fun m q => q.sampleMonitor m) (List.range Config.monitors))

/-- MONITOR_SAMPLE (R88): on a tick whose rig time is a whole multiple of 5. -/
def execMonitorSample (s : State) : Host.Outcome State Fault Refusal :=
  let p := s.part
  acted s (if p.marks.monitor then ({ p with marks := { p.marks with monitor := false } }).sampleMonitors else p)

/-- Whether the flush interval that the tick's test found reached has still to raise its cause (R95). DESIGN CHOICE (log entry
6): R97 leaves open which comes first on one tick, CAPTURE_CFG or the test; a CAPTURE_CFG taken between the tick's test and
CAPTURE_FLUSH is taken as the first of the two, so the oldest record's age is judged anew by the interval then in force, and
one raised beyond the age cancels the cause. -/
def Part.flushWaits (p : Part) : Bool := p.marks.flush && p.flushDue && !p.queued .capture

/-- The flush interval's cause raised, once for the tick's one test (R95). -/
def Part.flushCapture (p : Part) : Part := ({ p with marks := { p.marks with flush := false } }).raise .capture

/-- CAPTURE_FLUSH (R95). -/
def execCaptureFlush (s : State) : Host.Outcome State Fault Refusal :=
  acted s (if s.part.flushWaits then s.part.flushCapture else s.part)

end Sys2Proof.Machine
end

