-- ==== Sys2Proof/Machine/RigLink.lean ====
section
/-! DEFINITION. The rig link's commands: receiver, transmitter, status, levels and resets (R171 to R183). -/

namespace Sys2Proof.Machine

/-! ### Counters and the receiver -/

/-- The link counters changed. -/
def Part.mapCounters (f : Counters → Counters) (p : Part) : Part :=
  { p with link := { p.link with counters := f p.link.counters } }

/-- The receiver's character state written. -/
def Part.setReceiver (r : Receiver) (p : Part) : Part := { p with link := { p.link with receiver := r } }

def Counters.addFramesReceived (c : Counters) : Counters :=
  { c with framesReceived := bump Config.max32 c.framesReceived }
def Counters.addCheckErrors (c : Counters) : Counters := { c with checkErrors := bump Config.max32 c.checkErrors }
def Counters.addFramingErrors (c : Counters) : Counters := { c with framingErrors := bump Config.max32 c.framingErrors }
def Counters.addTruncations (c : Counters) : Counters := { c with truncations := bump Config.max32 c.truncations }
def Counters.addOverruns (c : Counters) : Counters := { c with overruns := bump Config.max32 c.overruns }
def Counters.addHuntBytes (c : Counters) : Counters := { c with huntBytes := bump Config.max32 c.huntBytes }
def Counters.addRepliesSent (c : Counters) : Counters := { c with repliesSent := bump Config.max32 c.repliesSent }
def Counters.addNoticesSent (c : Counters) : Counters := { c with noticesSent := bump Config.max32 c.noticesSent }

/-- A frame discarded: the error is logged with the link as subject, its counter rises, the link notice is raised and the
receiver returns to HUNT (R171 to R173, R179). -/
def Part.discardFrame (code : ErrCode) (detail : Nat) (count : Counters → Counters) (p : Part) : Part :=
  (((p.logError code .link detail).mapCounters count).raise .link).setReceiver .hunt

/-- A frame whose last check byte has come in (R173): discarded by its check, discarded by a full inbound queue, or joined to
the queue. -/
def Part.completeFrame (bytes : List Byte) (p : Part) : Part :=
  if checkHolds bytes then
    if p.link.inbound.length < Config.linkQueue then
      (({ p with link := { p.link with inbound := p.link.inbound ++ [frameOf bytes] } }).mapCounters
        Counters.addFramesReceived).setReceiver .hunt
    else p.discardFrame .linkOverrun (kindByteOf bytes) Counters.addOverruns
  else p.discardFrame .linkCheck (kindByteOf bytes) Counters.addCheckErrors

/-- A character taken in HUNT (R171): D5 hex begins a frame in progress; any other is skipped and counted. -/
def Part.huntCharacter (char : Byte) (p : Part) : Part :=
  if char = syncByte then p.setReceiver (.frame p.now [char]) else p.mapCounters Counters.addHuntBytes

/-- Whether the frame in progress that began at a tick has run into its time limit (R172). -/
def Part.frameTimedOut (start : Nat) (p : Part) : Bool := start + Config.frameLimit ≤ p.now

/-- The discard of a frame by the 2 ms limit (R172). -/
def Part.truncateFrame (bytes : List Byte) (p : Part) : Part :=
  p.discardFrame .linkTruncated bytes.length Counters.addTruncations

/-- A character arrives with its stop bit (R171, R172): in HUNT it is skipped or begins a frame; in a frame it is stored,
completes the frame, or makes its length too long; a frame at its time limit is discarded unless the character
completes it on that tick, and the character is then taken in HUNT. -/
def Part.takeCharacter (char : Byte) (p : Part) : Part :=
  match p.link.receiver with
  | .hunt => p.huntCharacter char
  | .frame start bytes =>
    let bytes' := bytes ++ [char]
    if frameComplete bytes' && p.now ≤ start + Config.frameLimit then p.completeFrame bytes'
    else if p.frameTimedOut start then (p.truncateFrame bytes).huntCharacter char
    else if lengthTooLong bytes' then p.discardFrame .linkFraming bytes'.length Counters.addFramingErrors
    else p.setReceiver (.frame start bytes')

/-- CHARACTER_RECEIVED (R171). -/
def execCharacterReceived (char : Byte) (s : State) : Host.Outcome State Fault Refusal :=
  acted s (s.part.takeCharacter char)

/-- FRAME_RECEIVED (R173): the last check byte of the frame in progress arrives. With no frame that it completes, the event
has not come about (log entry 4). -/
def execFrameReceived (last : Byte) (s : State) : Host.Outcome State Fault Refusal :=
  acted s
    (match s.part.link.receiver with
    | .frame _ bytes =>
      if frameComplete (bytes ++ [last]) then s.part.takeCharacter last else s.part
    | .hunt => s.part)

/-- LINK_FRAMING (R171): a character without its stop bit. A frame in progress is discarded; in HUNT the error is only
counted. -/
def execLinkFraming (s : State) : Host.Outcome State Fault Refusal :=
  let p := s.part
  acted s
    (match p.link.receiver with
    | .hunt => p.mapCounters Counters.addFramingErrors
    | .frame start bytes =>
      if p.frameTimedOut start then (p.truncateFrame bytes).mapCounters Counters.addFramingErrors
      else p.discardFrame .linkFraming bytes.length Counters.addFramingErrors)

/-- FRAME_LENGTH_ERROR (R172): the second length byte of the frame in progress gives a length above 1,024. At the time limit
the frame is discarded as truncated first, as any character finds it. -/
def execFrameLengthError (second : Byte) (s : State) : Host.Outcome State Fault Refusal :=
  let p := s.part
  acted s
    (match p.link.receiver with
    | .frame _ bytes => if lengthTooLong (bytes ++ [second]) then p.takeCharacter second else p
    | .hunt => p)

/-- LINK_TRUNCATED (R172): the frame in progress reaches 2,000 µs from its start. -/
def execLinkTruncated (s : State) : Host.Outcome State Fault Refusal :=
  let p := s.part
  acted s
    (match p.link.receiver with
    | .frame start bytes => if p.frameTimedOut start then p.truncateFrame bytes else p
    | .hunt => p)

/-! ### The transmitter (R178, R179) -/

/-- Whether a notice goes before another: a lower level, or the same level and an older age (R178). -/
def QNotice.before (v : Levels) (a b : QNotice) : Bool :=
  v.of a.source < v.of b.source || (v.of a.source = v.of b.source && a.age < b.age)

/-- The notice chosen from the queue (R178): lowest level, then oldest age, then queue order. -/
def chooseNotice (v : Levels) : List QNotice → Option QNotice
  | [] => none
  | n :: rest =>
    match chooseNotice v rest with
    | none => some n
    | some m => if m.before v n then some m else some n

/-- The line time of a frame of n body bytes in whole ticks: the first tick at or after (7 + n) × 10 / 12 µs (R178). -/
def frameTicks (n : Nat) : Nat := ((7 + n) * 10 + 11) / 12

/-- A number in so many bytes, most significant byte first (10.1.1). -/
def bigEndian : Nat → Nat → List Byte
  | 0, _ => []
  | k + 1, n => BitVec.ofNat 8 (n / 256 ^ k) :: bigEndian k n

/-- The source kind's code in the notice header (10.8). -/
def NoticeSource.code : NoticeSource → Nat
  | .part => 0
  | .guard => 1
  | .cls _ => 2
  | .matrix => 3
  | .entry _ => 4
  | .channel _ => 5
  | .group _ => 6
  | .capture => 7
  | .engine => 8
  | .link => 9

/-- The code of an error class (10.8). -/
def ErrClass.code : ErrClass → Nat
  | .corrected => 0
  | .recoverable => 1
  | .fatal => 2

/-- The index of a source in the notice header (10.8): 0 for a single source. -/
def NoticeSource.index : NoticeSource → Nat
  | .cls c => c.code
  | .entry n => n
  | .channel n => n
  | .group n => n
  | _ => 0

/-- The notice header's 11 bytes (R179, 10.8). -/
def Notice.header (n : Notice) : List Byte :=
  bigEndian 1 n.source.code ++ bigEndian 1 n.source.index ++ bigEndian 1 n.level ++ bigEndian 2 n.repeats ++
    bigEndian 6 n.time

/-- The kind byte of a frame the part sends: ACK, REFUSE or NOTICE (10.1.1). -/
def OutFrame.kind : OutFrame → Byte
  | .reply { tag := _, answer := .ack _ } => 0x80#8
  | .reply { tag := _, answer := .refuse _ } => 0x81#8
  | .notice _ => 0x82#8

/-- The tag of a frame the part sends: its request's, or 0 in a notice (R175, R179). -/
def OutFrame.tag : OutFrame → Nat
  | .reply r => r.tag
  | .notice _ => 0

/-- The body bytes whose values 10.8 lays out whatever follows: a notice's header. -/
def OutFrame.head : OutFrame → List Byte
  | .reply _ => []
  | .notice n => n.header

/-! ### The fault entry definition as it is sent (10.8) -/

/-- A byte's bits, bit 0 first. -/
def bitsOf : List Bool → Nat
  | [] => 0
  | b :: bs => b.toNat + 2 * bitsOf bs

/-- A signed number in four bytes, in two's complement (10.1.1). -/
def signedWord (v : Int) : List Byte := bigEndian 4 (v % 4294967296).toNat

/-- The code of an ELECTRICAL kind, in the order R127 lists them (DEDUCED, log entry 19). -/
def ElecKind.code : ElecKind → Nat
  | .openLine => 0
  | .shortGnd => 1
  | .shortBat => 2
  | .shortPin => 3
  | .leakGnd => 4
  | .leakBat => 5

/-- A condition record of 12 bytes (10.8). -/
def Condition.record : Condition → List Byte
  | .now => bigEndian 12 0
  | .atTime t => bigEndian 1 1 ++ bigEndian 1 0 ++ bigEndian 6 t ++ bigEndian 4 0
  | .atAngle a from? =>
    bigEndian 1 2 ++ bigEndian 1 from?.isSome.toNat ++ bigEndian 2 a ++ bigEndian 4 (from?.getD 0) ++ bigEndian 4 0
  | .onEvent s n => bigEndian 1 3 ++ bigEndian 1 0 ++ bigEndian 1 s ++ bigEndian 2 n ++ bigEndian 7 0

/-- The class fields of an ELECTRICAL definition, bytes 3 to 34 (10.8); those of a field that is absent are unused and 0. -/
def Electrical.record (d : Electrical) : List Byte :=
  bigEndian 1 d.kind.code ++ bigEndian 1 d.lines.length ++
    ((List.range 8).flatMap fun i => bigEndian 1 (d.lines.getD i 0)) ++
    bigEndian 1 (d.bus.getD 0) ++ bigEndian 1 (d.resistance.getD 0) ++
    bigEndian 2 (d.tripLimit.getD 0) ++ bigEndian 4 (d.tripTime.getD 0) ++
    bigEndian 4 ((d.chatter.map Chatter.onTime).getD 0) ++ bigEndian 4 ((d.chatter.map Chatter.offTime).getD 0) ++
    bigEndian 2 ((d.chatter.map Chatter.cycles).getD 0) ++ bigEndian 4 0

/-- The signal kind and its fields, bytes 4 to 10 of a SIGNAL definition (10.8, the kinds' codes of log entry 19). -/
def SigFault.record : SigFault → List Byte
  | .stuck => bigEndian 1 0 ++ bigEndian 6 0
  | .offset v => bigEndian 1 1 ++ signedWord v ++ bigEndian 2 0
  | .drop at0 n => bigEndian 1 2 ++ bigEndian 4 0 ++ bigEndian 1 at0 ++ bigEndian 1 n
  | .shift v => bigEndian 1 3 ++ signedWord v ++ bigEndian 2 0

/-- The class byte, the class's presence bits 1 to 4 and the class fields, bytes 3 to 34 (10.8). -/
def EntryClass.record : EntryClass → Nat × List Bool × List Byte
  | .electrical d => (0, [d.tripLimit.isSome, d.tripTime.isSome, d.chatter.isSome, d.isolate], d.record)
  | .signal c f => (1, [false, false, false, false], bigEndian 1 c ++ f.record ++ bigEndian 24 0)

/-- The duration's kind and its length or slot, bytes 51 to 55 (10.8). -/
def Duration.record : Duration → List Byte
  | .time n => bigEndian 1 0 ++ bigEndian 4 n
  | .angle n => bigEndian 1 1 ++ bigEndian 4 n
  | .untilEvent s => bigEndian 1 2 ++ bigEndian 1 s ++ bigEndian 3 0
  | .untilDisarm => bigEndian 1 3 ++ bigEndian 4 0

/-- The 62 bytes of a fault entry definition as ENTRY_GET returns it (10.8, R150): its optional fields absent as defined,
and every byte not used 0. -/
def EntryDef.record (entry : Nat) (d : EntryDef) : List Byte :=
  let (cls, bits, fields) := d.cls.record
  bigEndian 1 entry ++ bigEndian 1 cls ++
    bigEndian 1 (bitsOf (d.latestStart.isSome :: bits ++ [d.repeatCount.isSome, d.spacing.isSome])) ++ fields ++
    d.condition.record ++ bigEndian 4 (d.latestStart.getD 0) ++ d.duration.record ++
    bigEndian 2 (d.repeatCount.getD 0) ++ bigEndian 4 (d.spacing.getD 0)

/-- The record within a body that 10.8 lays out: the definition in an entry's snapshot (R150, R151), which an EMPTY entry
does not have. -/
def Body.record : Body → List Byte
  | .entry e => (e.definition.map (EntryDef.record e.entry)).getD []
  | _ => []

/-- The body the part forms for a frame. -/
def OutFrame.content : OutFrame → Body
  | .reply { tag := _, answer := .ack b } => b
  | .reply { tag := _, answer := .refuse _ } => .empty
  | .notice n => n.body

/-- So many body bytes of free value of the n-th frame, from a place on (log entry 1). -/
def freeBytes (n place count : Nat) : List Byte := (List.range count).map fun i => Config.bodyByte n (place + i)

/-- The body of the n-th frame the part forms: a notice's header and the record 10.8 lays out, with bytes of free value before
and behind the record, in a number that is a free value of at most 1,024 (R178, log entry 1). -/
def OutFrame.body (n : Nat) (f : OutFrame) : List Byte :=
  let record := f.content.record
  let laid := f.head.length + record.length
  let free := min (Config.bodyLength n) Config.maxBody - laid
  let before := Config.recordPlace n % (free + 1)
  f.head ++ freeBytes n f.head.length before ++ record ++ freeBytes n (laid + before) (free - before)

/-- The envelope of the n-th frame the part forms (10.1.1, R178). -/
def OutFrame.envelope (n : Nat) (f : OutFrame) : Frame where
  kind := f.kind
  tag := BitVec.ofNat 8 f.tag
  body := f.body n

/-- The characters of a frame (10.1.1): sync, length, kind, tag, body, and the check over all but the sync (R173). -/
def frameBytes (f : Frame) : List Byte :=
  let inner := bigEndian 2 f.body.length ++ f.kind :: f.tag :: f.body
  syncByte :: inner ++ bigEndian 2 (crc16 inner).toNat

/-- A frame's transmission begins on the present tick (R178): its length and check are formed over its body. -/
def Part.beginFrame (f : OutFrame) (p : Part) : Part :=
  let e := f.envelope p.freeIndex
  { p with
    link := { p.link with
      transmitter := some
        { frame := f, characters := frameBytes e, startTick := p.now, endTick := p.now + frameTicks e.body.length } }
    freeIndex := p.freeIndex + 1 }

/-- A notice as its transmission begins: the header of R179 and the source's snapshot. -/
def Part.formNotice (n : QNotice) (p : Part) : Notice where
  source := n.source
  level := p.link.levels.of n.source
  repeats := n.repeats
  time := p.clock.rigTime
  body := p.noticeBody n.source

/-- A source's notice out of the queue. -/
def Part.unqueue (src : NoticeSource) (p : Part) : Part :=
  { p with link := { p.link with notices := p.link.notices.filter fun n => n.source ≠ src } }

/-- A capture notice's transmission takes the ring's records (R96); no other notice takes anything. -/
def Part.handOver (src : NoticeSource) (p : Part) : Part :=
  if src = .capture then { p with capture := p.capture.afterBatch } else p

/-- The choice and start of the next frame of an idle transmitter (R178): the oldest reply, else the chosen notice. -/
def Part.startTransmission (p : Part) : Part :=
  match p.link.transmitter, p.link.replies with
  | none, r :: rest => ({ p with link := { p.link with replies := rest } }).beginFrame (.reply r)
  | none, [] =>
    match chooseNotice p.link.levels p.link.notices with
    | some n => ((p.unqueue n.source).handOver n.source).beginFrame (.notice ((p.unqueue n.source).formNotice n))
    | none => p
  | some _, _ => p

/-- TRANSMIT_START (R178). -/
def execTransmitStart (s : State) : Host.Outcome State Fault Refusal := acted s s.part.startTransmission

/-- Whether a frame is the ACK of a LINK_RESET (R182). -/
def OutFrame.isResetAck : OutFrame → Bool
  | .reply { tag := _, answer := .ack (.linkReset _) } => true
  | _ => false

/-- The counter a frame adds to as its transmission ends (R178, R180). -/
def OutFrame.counted : OutFrame → Counters → Counters
  | .reply _ => Counters.addRepliesSent
  | .notice _ => Counters.addNoticesSent

/-- TRANSMIT_END (R178): the transmitter is idle again and the sent counter rises; the end of the LINK_RESET ACK resets the
part with cause LINK (R182). -/
def execTransmitEnd (s : State) : Host.Outcome State Fault Refusal :=
  let p := s.part
  acted s
    (match p.link.transmitter with
    | some t =>
      if t.endTick ≤ p.now then
        if t.frame.isResetAck then p.afterReset .link
        else ({ p with link := { p.link with transmitter := none } }).mapCounters t.frame.counted
      else p
    | none => p)

/-! ### Resets -/

/-- POWER_ON (R183). -/
def execPowerOn (s : State) : Host.Outcome State Fault Refusal := acted s (s.part.afterReset .powerOn)

/-- SUPPLY_DIP (R183). -/
def execSupplyDip (s : State) : Host.Outcome State Fault Refusal := acted s (s.part.afterReset .supplyDip)

/-! ### Requests -/

/-- STATUS_GET (R181). -/
def execStatusGet (tag : Nat) (s : State) : Host.Outcome State Fault Refusal :=
  request (.statusGet tag) tag (fun p => .ack (.status p.statusSnapshot) p) s

/-- LINK_RESET (R182): a reset is pending until its ACK has been sent. -/
def execLinkReset (tag : Nat) (s : State) : Host.Outcome State Fault Refusal :=
  request (.linkReset tag) tag
    (fun p => .ack (.linkReset p.clock.rigTime) { p with link := { p.link with resetPending := true } }) s

/-- The levels of sources written; at level 7 their queued notices are removed (R177). -/
def Part.setLevels (level : Nat) (srcs : List NoticeSource) (p : Part) : Part :=
  { p with link := { p.link with
    levels := srcs.foldl (fun v s => v.write level s) p.link.levels
    notices := if level = 7 then p.link.notices.filter fun n => !srcs.contains n.source else p.link.notices } }

/-- NOTICE_LEVEL (R177). DESIGN CHOICE (log entry 47): R177 gives no order of its range checks; they come in the order of the
fields. -/
def execNoticeLevel (tag kind index level : Nat) (s : State) : Host.Outcome State Fault Refusal :=
  request (.noticeLevel tag kind index level) tag
    (fun p =>
      checked
        [ ((parseSources kind index).isNone, badField 1),
          ((parseSources kind index).any List.isEmpty, badField 2),
          (outside 0 7 level, badField 3) ]
        (.ack (.noticeLevel kind index level) (p.setLevels level ((parseSources kind index).getD [])))) s

/-- The envelope checks of the interpreter on a frame (R174): the first that fails. -/
def envelopeRefusal (f : Frame) : Option Refused :=
  if f.tag = 0#8 then some (badField 0)
  else
    match lengthAllowed f.kind.toNat f.body.length with
    | none => some (refusal .badKind)
    | some false => some (refusal .badLength)
    | some true => none

/-- BAD_KIND (R174): the interpreter refuses a taken frame by its tag, its kind or its length, in that order. A frame that
passes these checks is not this command's and is not taken. -/
def execBadKind (f : Frame) (s : State) : Host.Outcome State Fault Refusal :=
  match envelopeRefusal f, s.part.takeFrame (.badKind f) with
  | some r, some p => acted s (p.reply f.tag.toNat (.refuse r))
  | _, _ => acted s s.part

end Sys2Proof.Machine
end

