-- ==== Sys2Proof/Machine/MatrixCommands.lean ====
section
/-! DEFINITION. The fault matrix's requests and events (R103, R106, R109, R116 to R123). -/

namespace Sys2Proof.Machine

/-! ### Requests -/

/-- A cell newly WORN under the wear threshold in force (R108, R121). -/
def Part.wearOut (l : Nat) (c : CellId) (p : Part) : Part :=
  let x := p.cell l c
  if p.matrix.wearThreshold ≤ x.noMake && !x.worn then
    ((p.setCell l c { x with worn := true }).logError .cellWorn (.cell l c) x.noMake).raise .matrix
  else p

/-- Every cell compared with a new wear threshold (R121). DESIGN CHOICE (log entry 46): R121 gives no order of the CELL_WORN
loggings of several cells; the model takes line and then cell order. -/
def Part.wearOutAll (p : Part) : Part :=
  (List.range Config.lines).foldl (fun q l => allCells.foldl (fun q' c => q'.wearOut l c) q) p

/-- A new patrol interval (R117): after the first pass the next step follows the last by it, or falls on the next tick. -/
def Matrix.setPatrolInterval (now n : Nat) (m : Matrix) : Matrix :=
  let next := m.patrolLast + n * 1000
  { m with
    patrolInterval := n
    patrolNext := if m.firstPass then (if next < now then now + 1 else next) else m.patrolNext }

/-- PATROL_CFG's effect (R121): each field present is written. -/
def Part.patrolCfg (settle interval wear : Option Nat) (p : Part) : Part :=
  let m1 := { p.matrix with settle := settle.getD p.matrix.settle, wearThreshold := wear.getD p.matrix.wearThreshold }
  let m2 := match interval with
    | some n => m1.setPatrolInterval p.now n
    | none => m1
  if wear.isSome then ({ p with matrix := m2 }).wearOutAll else { p with matrix := m2 }

/-- PATROL_CFG (R121). DESIGN CHOICE (log entry 47): R121 gives no order of its three range checks; they come in the order of the
fields. -/
def execPatrolCfg (tag : Nat) (settle interval wear : Option Nat) (s : State) : Host.Outcome State Fault Refusal :=
  request (.patrolCfg tag settle interval wear) tag
    (fun p =>
      let p' := p.patrolCfg settle interval wear
      checked
        [(outsideIf 20 2000 settle, badField 1), (outsideIf 1 100 interval, badField 2), (outsideIf 1 255 wear, badField 3)]
        (.ack (.patrolCfg p'.matrix.settle p'.matrix.patrolInterval p'.matrix.wearThreshold) p')) s

/-- The cells CELL_RESTORE names: one, or with code 7 all (10.8). -/
def restoredCells (cell : Nat) : List CellId := if cell = 7 then allCells else (parseCell cell).toList

/-- A cell's health cleared (R122). -/
def Cell.restored (x : Cell) : Cell := { x with noMake := 0, worn := false }

/-- CELL_RESTORE's effect (R122); the notice is raised if a WORN mark was cleared. -/
def Part.restoreCells (l : Nat) (cells : List CellId) (p : Part) : Part :=
  let p' := cells.foldl (fun q c => q.setCell l c (q.cell l c).restored) p
  if cells.any fun c => (p.cell l c).worn then p'.raise .matrix else p'

/-- CELL_RESTORE (R122). DESIGN CHOICE (log entry 47): the checks come in the order the rule names them, which it does not give
as their order. -/
def execCellRestore (tag line cell : Nat) (s : State) : Host.Outcome State Fault Refusal :=
  request (.cellRestore tag line cell) tag
    (fun p =>
      let p' := p.restoreCells line (restoredCells cell)
      checked
        [ (outside 0 63 line, badField 1), (outside 0 7 cell, badField 2), ((p.line line).state.isHeld, refusal .busy) ]
        (.ack (.cellHealth line ((p'.line line).cells.map fun x => (x.noMake, x.worn))) p')) s

/-- MATRIX_GET (R123). -/
def execMatrixGet (tag : Nat) (line : Option Nat) (s : State) : Host.Outcome State Fault Refusal :=
  request (.matrixGet tag line) tag
    (fun p =>
      match line with
      | none => .ack (.matrixSummary p.matrixSummary) p
      | some l => checked [(outside 0 63 l, badField 1)] (.ack (.lineDetail (p.lineDetail l)) p)) s

/-- The lines in a state that a test picks, in order. -/
def Part.linesWhere (test : LineState → Bool) (p : Part) : List Nat :=
  (List.range Config.lines).filter fun l => test (p.line l).state

/-- The restore MATRIX_CLEAR begins (R120): one verified closing step of the series cells of every ISOLATED line. -/
def Part.beginRestore (p : Part) : Part :=
  let lines := p.linesWhere LineState.isIsolated
  let r := p.beginAttempt true true 1 (lines.map fun l => (l, .series))
  { r.1 with matrix := { r.1.matrix with restore := some { lines := lines, step := r.2 } } }

/-- The lowest ISOLATED line without its clear mark (R120). -/
def Part.stillWelded (p : Part) : Option Nat := (p.linesWhere fun st => decide (st = .isolated false)).head?

/-- MATRIX_CLEAR (R120). -/
def execMatrixClear (tag : Nat) (s : State) : Host.Outcome State Fault Refusal :=
  request (.matrixClear tag) tag
    (fun p =>
      if p.matrix.state ≠ .lockout then .ack (.matrixClear p.matrix.state []) p
      else
        checked
          [ (p.matrix.restore.isSome, refusal .busy),
            (!(p.linesWhere LineState.isHeld).isEmpty, refusal .busy),
            (p.stillWelded.isSome,
              { code := .stillWelded, field := 0, position := 0, named := p.stillWelded }) ]
          (.ack (.matrixClear p.matrix.state (p.linesWhere LineState.isIsolated)) p.beginRestore)) s

/-! ### Current senses (R103, R141) -/

/-- The trip limit in force for an entry (R127). -/
def Electrical.limit (d : Electrical) : Nat := d.tripLimit.getD 3000

/-- The trip time in force for an entry (R127). -/
def Electrical.time (d : Electrical) : Nat := d.tripTime.getD 1000

/-- The reading of a sense number: a line's, or 64 plus a bus's (R141). -/
def Matrix.senseOf (n : Nat) (m : Matrix) : Nat :=
  if n < Config.lines then m.lineSense.getD n 0 else m.busSense.getD (n - Config.lines) 0

/-- An ACTIVE entry's overcurrent runs after a reading (R141): a path above the limit begins a run or keeps its own; a path
at or below it has none. -/
def Entry.watch (now : Nat) (m : Matrix) (x : Entry) : Entry :=
  match x.state, x.electrical? with
  | .active, some d =>
    { x with
      runs := (d.paths.filter fun n => d.limit < m.senseOf n).map fun n =>
        (n, ((x.runs.find? fun r => r.1 = n).map Prod.snd).getD now) }
  | _, _ => x

/-- All senses read, and every ACTIVE entry's runs judged (R103, R141). -/
def Part.readCurrents (p : Part) : Part :=
  let m := { p.matrix with
    lineSense := p.pins.lineCurrents.map Machine.currentReading
    busSense := p.pins.busCurrents.map Machine.currentReading
    senseTick := p.now }
  { p with matrix := m, entries := p.entries.map fun x => x.watch p.now m }

/-- CURRENT_READING (R103): on a tick whose rig time is a whole multiple of 10. -/
def execCurrentReading (s : State) : Host.Outcome State Fault Refusal :=
  let p := s.part
  acted s (if p.marks.current then ({ p with marks := { p.marks with current := false } }).readCurrents else p)

/-! ### Readbacks, held closes, patrol -/

/-- STEP_READBACK (R106, R120): the settle interval of a verified step's attempt ends. -/
def execStepReadback (owner : StepOwner) (s : State) : Host.Outcome State Fault Refusal :=
  match owner with
  | .entry e => onUnit e Config.entries (fun p => settleAll (p.stepReadback e)) s
  | .restore => acted s s.part.restoreReadback

/-- HELD_CLOSE_GIVEN (R109). -/
def execHeldCloseGiven (line : Nat) (s : State) : Host.Outcome State Fault Refusal :=
  onUnit line Config.lines (fun p => p.giveHeldClose line) s

/-- FAST_RELEASE_READBACK (R116). -/
def execFastReleaseReadback (entry : Nat) (s : State) : Host.Outcome State Fault Refusal :=
  onUnit entry Config.entries (fun p => settleAll (p.fastReadback entry)) s

/-- ISOLATION_READBACK (R119). -/
def execIsolationReadback (line : Nat) (s : State) : Host.Outcome State Fault Refusal :=
  onUnit line Config.lines (fun p => settleAll (p.isolationReadback line)) s

/-- PATROL_CHECK (R117, R118). -/
def execPatrolCheck (s : State) : Host.Outcome State Fault Refusal := acted s (settleAll s.part.patrolStep)

end Sys2Proof.Machine
end

