-- ==== Sys2Proof/Machine/SlotCommands.lean ====
section
/-! DEFINITION. Conditions, event slots, trigger inputs and start groups: their requests and events (R69, R70, R77 to R84). -/

namespace Sys2Proof.Machine

/-! ### Arming a condition (R69, R70) -/

/-- The waiting form an armed condition takes on the present tick (R69). NOW's is kept as the tick, from which its repeats
and its deadline are reckoned, and reported as the tick's rig time (R1, log entry 10). -/
def Part.waitingForm (c : Condition) (p : Part) : Waiting :=
  match c with
  | .now => .time p.now
  | .atTime t => .time t
  | .atAngle a floor => .angle a floor
  | .onEvent s n => .event s (wrap32 ((p.slot s).count + n))

/-- Whether a waiting form is met on the tick it is armed, and its due point (R70). -/
def Part.metAtArming (w : Waiting) (p : Part) : Option Nat :=
  match w with
  | .time t => if p.timeReached t then some t else none
  | _ => none

/-- The slot of an ON_EVENT condition whose source is NONE (R69). -/
def Part.unsetSlot (c : Condition) (p : Part) : Option Nat :=
  match c with
  | .onEvent s _ => if (p.slot s).source = .none then some s else none
  | _ => none

/-! ### Event slots -/

/-- SLOT_CONFIG (R77): the count and the last-occurrence record are cleared with the source. -/
def execSlotConfig (tag slot kind byte2 byte3 : Nat) (s : State) : Host.Outcome State Fault Refusal :=
  request (.slotConfig tag slot kind byte2 byte3) tag
    (fun p =>
      let src := ((parseSource kind byte2 byte3).getD none).getD .none
      checked
        [ (outside 0 15 slot, badField 1),
          ((parseSource kind byte2 byte3).isNone, badField 2),
          ((parseSource kind byte2 byte3).any Option.isNone, badField 3),
          (decide (p.slotWaiters slot ≠ 0), refusal .busy) ]
        (.ack (.slotConfig slot src) (p.setSlot slot { source := src, count := 0, last := none }))) s

/-- SLOT_GET (R78); FF hex is ALL. -/
def execSlotGet (tag slot : Nat) (s : State) : Host.Outcome State Fault Refusal :=
  request (.slotGet tag slot) tag
    (fun p =>
      if slot = 255 then .ack (.slots ((List.range Config.eventSlots).map p.slotSnapshot)) p
      else checked [(outside 0 15 slot, badField 1)] (.ack (.slots [p.slotSnapshot slot]) p)) s

/-! ### Trigger inputs -/

/-- TRIGGER_CFG (R80): the width is judged by from the next tick; a request without one reads the input. DESIGN CHOICE (log
entry 47): R80 gives no order of its two range checks; they come in the order of the fields. -/
def execTriggerCfg (tag input : Nat) (width : Option Nat) (s : State) : Host.Outcome State Fault Refusal :=
  request (.triggerCfg tag input width) tag
    (fun p =>
      let x := p.trigger input
      let x' := { x with width := width.getD x.width }
      checked [(outside 0 7 input, badField 1), (outsideIf 0 1000 width, badField 2)]
        (.ack (.trigger input x'.width x'.filtered) (p.setTrigger input x'))) s

/-- Whether a change in progress is accepted on the present tick (R79). -/
def Part.triggerDue (i : Nat) (p : Part) : Bool :=
  let x := p.trigger i
  x.change.any fun t => t + x.judged ≤ p.now

/-- The acceptance of a change (R79): the filtered level changes and one TRIGGER occurrence is raised. -/
def Part.acceptTrigger (i : Nat) (p : Part) : Part :=
  let x := p.trigger i
  settleAll (p.setTrigger i { x with filtered := !x.filtered, change := none }, [.occur (.trigger i (!x.filtered))])

/-- TRIGGER_ACCEPT (R79). -/
def execTriggerAccept (input : Nat) (s : State) : Host.Outcome State Fault Refusal :=
  onUnit input Config.triggers (fun p => if p.triggerDue input then p.acceptTrigger input else p) s

/-! ### Start groups -/

/-- GROUP_ARM's effect (R81): ARMED with its waiting form, the notice raised, and the start at once of a condition already
met. -/
def Part.armGroup (g : Nat) (c : Condition) (p : Part) : Part :=
  let w := p.waitingForm c
  let p' := (p.setGroup g { p.group g with armed := some (c, w) }).raise (.group g)
  match p.metAtArming w with
  | some _ => settleAll (p', [.startGroup g w])
  | none => p'

/-- R81's checks; the condition is field 2 of the body. -/
def Part.armGroupChecks (g : Nat) (c : RawCondition) (p : Part) : List (Bool × Refused) :=
  [ (outside 0 7 g, badField 1),
    ((conditionFault c).isSome, badField 2),
    (p.inSafe, refusal .safeHold),
    ((p.group g).armed.isSome, refusal .busy),
    ((p.unsetSlot (conditionStored c)).isSome,
      { code := .notConfigured, field := 2, position := 0, named := p.unsetSlot (conditionStored c) }) ]

/-- GROUP_ARM (R81). -/
def execGroupArm (tag group : Nat) (condition : RawCondition) (s : State) : Host.Outcome State Fault Refusal :=
  request (.groupArm tag group condition) tag
    (fun p =>
      let p' := p.armGroup group (conditionStored condition)
      checked (p.armGroupChecks group condition) (.ack (.group (p'.groupSnapshot group)) p')) s

/-- GROUP_CANCEL's effect (R83). -/
def Part.cancelGroup (g : Nat) (p : Part) : Part :=
  if (p.group g).armed.isSome then (p.setGroup g { p.group g with armed := none }).raise (.group g) else p

/-- GROUP_CANCEL (R83). -/
def execGroupCancel (tag group : Nat) (s : State) : Host.Outcome State Fault Refusal :=
  request (.groupCancel tag group) tag
    (fun p =>
      let p' := p.cancelGroup group
      checked [(outside 0 7 group, badField 1)] (.ack (.group (p'.groupSnapshot group)) p')) s

/-! ### AT_TIME (R70) -/

/-- The time a waiting form waits for, once it is reached (R70). -/
def Part.reachedTime (w : Option Waiting) (p : Part) : Option Nat := w.bind p.metAtArming

/-- The AT_TIME waiting form of a waiter met (R70). Entries due on one tick are taken in entry-number order (R137), so those
of lower number whose time has come are taken before it. -/
def Part.timeMet (w : Waiter) (p : Part) : Part :=
  match w with
  | .entry e =>
    match p.entryTimeMet e with
    | some t => settleAll (p, [.due e (.time t) t])
    | none => p
  | .group g =>
    match p.reachedTime ((p.group g).armed.map Prod.snd) with
    | some t => settleAll (p, [.startGroup g (.time t)])
    | none => p

/-- CONDITION_AT_TIME (R70). -/
def execConditionAtTime (waiter : Waiter) (s : State) : Host.Outcome State Fault Refusal :=
  match waiter with
  | .entry e => onUnit e Config.entries (fun p => p.timeMet (.entry e)) s
  | .group g => onUnit g Config.groups (fun p => p.timeMet (.group g)) s

end Sys2Proof.Machine
end

