-- ==== Sys2Proof/Machine/ScheduleCommands.lean ====
section
/-! DEFINITION. The fault schedule's requests and events (R129 to R135, R140 to R142, R150). -/

namespace Sys2Proof.Machine

/-! ### ENTRY_DEFINE (R129) -/

/-- R129's checks of the class fields, the settle interval's included. -/
def Part.classChecks (r : RawClass) (p : Part) : List (Bool × Refused) :=
  match r with
  | .electrical e => electricalChecks e ++ chatterChecks p.matrix.settle e
  | .signal g => signalChecks (p.channel g.channel).kind g
  | .unknown _ => [(true, badField 2)]

/-- The index of a condition's failing field among ENTRY_DEFINE's fields: its kind at `at0`, its own fields after it. -/
def conditionCheck (at0 : Nat) (c : RawCondition) : Bool × Refused :=
  ((conditionFault c).isSome, badField (at0 + (conditionFault c).getD 0))

/-- R129's checks of the state and, for a SIGNAL definition, of the channel. -/
def Part.defineStateChecks (r : RawEntry) (p : Part) : List (Bool × Refused) :=
  let st := (p.entry r.entry).state
  let busy := decide (st = .armed ∨ st = .blocked ∨ st = .inserting ∨ st = .active ∨ st = .releasing)
  (busy, refusal .busy) ::
    (match r.cls with
    | .signal g =>
      let ch := p.channel g.channel
      [ (decide (ch.state = .off),
          { code := .notConfigured, field := 3, position := 0, named := some g.channel }),
        (!(ch.kind.any fun k => (parseFault g).any k.accepts), refusal .kindMismatch) ]
    | _ => [])

/-- R129's checks, in its order. -/
def Part.defineChecks (r : RawEntry) (p : Part) : List (Bool × Refused) :=
  (outside 0 127 r.entry, badField 1) :: p.classChecks r.cls ++
    conditionCheck (conditionField r.cls) r.condition ::
    commonChecks (conditionField r.cls + 1 + conditionFields r.condition) r ++ p.defineStateChecks r

/-- ENTRY_DEFINE's effect (R129, R130): the definition written whole, the runtime fields as after a definition, LOADED. -/
def Part.defineEntry (r : RawEntry) (p : Part) : Part :=
  (p.setEntry r.entry { Entry.empty with state := .loaded, definition := some (definitionStored r) }).raise
    (.entry r.entry)

/-- ENTRY_DEFINE (R129). -/
def execEntryDefine (tag : Nat) (definition : RawEntry) (s : State) : Host.Outcome State Fault Refusal :=
  request (.entryDefine tag definition) tag
    (fun p =>
      checked (p.defineChecks definition) (.ack (.entryState definition.entry .loaded) (p.defineEntry definition))) s

/-! ### ENTRY_ARM (R131) -/

/-- The lowest of some lines. -/
def lowest (ls : List Nat) : Option Nat := ls.min?

/-- The lines of an ELECTRICAL entry that are BROKEN or ISOLATED (R131). -/
def Part.unusableLines (d : Electrical) (p : Part) : List Nat :=
  d.lines.filter fun l => (p.line l).state.isUnfit

/-- The lines of an ELECTRICAL entry with a WORN cell that it needs (R131). -/
def Part.wornLines (d : Electrical) (p : Part) : List Nat :=
  d.lines.filter fun l => d.neededCells.any fun c => (p.cell l c).worn

/-- The slot of the entry's condition or duration whose source is NONE (R131). DESIGN CHOICE (log entry 39): where both are,
the condition's is named. -/
def Part.unsetEntrySlot (d : EntryDef) (p : Part) : Option Nat :=
  match p.unsetSlot d.condition with
  | some s => some s
  | none =>
    match d.duration with
    | .untilEvent s => if (p.slot s).source = .none then some s else none
    | _ => none

/-- A refusal that names a line or a slot. -/
def naming (code : RefusalCode) (n : Option Nat) : Refused := { code := code, field := 0, position := 0, named := n }

/-- R131's checks of an ELECTRICAL entry against the matrix. -/
def Part.armMatrixChecks (d : Electrical) (p : Part) : List (Bool × Refused) :=
  [ (decide (p.matrix.state = .readying), refusal .notReady),
    (decide (p.matrix.state = .lockout), refusal .locked),
    (!(p.unusableLines d).isEmpty, naming .lineUnusable (lowest (p.unusableLines d))),
    (!(p.wornLines d).isEmpty, naming .cellWorn (lowest (p.wornLines d))) ]

/-- R131's checks, in its order. -/
def Part.armChecks (e : Nat) (p : Part) : List (Bool × Refused) :=
  let x := p.entry e
  let busy := decide (x.state = .armed ∨ x.state = .blocked ∨ x.state = .inserting ∨ x.state = .active ∨
    x.state = .releasing)
  [ (outside 0 127 e, badField 1), (decide (x.state = .empty), refusal .notConfigured), (busy, refusal .busy),
    (p.inSafe, refusal .safeHold) ] ++
  (match x.electrical? with
    | some d => p.armMatrixChecks d
    | none => []) ++
  (match x.definition with
    | some d => [((p.unsetEntrySlot d).isSome, naming .notConfigured (p.unsetEntrySlot d))]
    | none => [])

/-- ENTRY_ARM's effect (R131): ARMED on its condition, and taken up as due at once where that is met. -/
def Part.armEntry (e : Nat) (p : Part) : Part :=
  let x := p.entry e
  match x.definition with
  | none => p
  | some d =>
    let w := p.waitingForm d.condition
    let p' := p.enterEntry e .armed { x with
      waiting := some w, occurrences := 0, repeatsRemaining := d.repeatCount.getD 0, endCause := none,
      duePoint := none, deadline := none }
    match p.metAtArming w with
    | some point => settleAll (p', [.due e w point])
    | none => p'

/-- ENTRY_ARM (R131). -/
def execEntryArm (tag entry : Nat) (s : State) : Host.Outcome State Fault Refusal :=
  request (.entryArm tag entry) tag
    (fun p =>
      let p' := p.armEntry entry
      checked (p.armChecks entry) (.ack (.entry (p'.entrySnapshot entry)) p')) s

/-! ### ENTRY_DISARM, ENTRY_DELETE, ENTRY_GET -/

/-- ENTRY_DISARM's effect by the entry's state (R132). DESIGN CHOICE (log entry 44): an insertion's release follows the step
in progress (R114); where a step that is not the last has ended on the tick of the disarm, that is the next step, just begun,
which runs to its end. -/
def Part.disarmEntry (e : Nat) (p : Part) : Part :=
  let x := p.entry e
  match x.state with
  | .armed => p.enterEntry e .loaded { x with waiting := none }
  | .blocked => settleAll ((p.recordCause e .disarmed).finish e)
  | .inserting =>
    let p' := p.recordCause e .disarmed
    p'.setEntry e { p'.entry e with seq := (p'.entry e).seq.map fun q => { q with disarmed := true } }
  | .active => settleAll (p.endActive e .disarmed)
  | _ => p

/-- ENTRY_DISARM (R132). -/
def execEntryDisarm (tag entry : Nat) (s : State) : Host.Outcome State Fault Refusal :=
  request (.entryDisarm tag entry) tag
    (fun p =>
      let p' := p.disarmEntry entry
      checked
        [(outside 0 127 entry, badField 1), (decide ((p.entry entry).state = .empty), refusal .notConfigured)]
        (.ack (.entry (p'.entrySnapshot entry)) p')) s

/-- ENTRY_DELETE (R133). DESIGN CHOICE (log entry 17): R133 gives no ACK body, and the model's gives the entry and its state,
EMPTY. -/
def execEntryDelete (tag entry : Nat) (s : State) : Host.Outcome State Fault Refusal :=
  request (.entryDelete tag entry) tag
    (fun p =>
      let st := (p.entry entry).state
      checked
        [ (outside 0 127 entry, badField 1),
          (decide (st = .inserting ∨ st = .active ∨ st = .releasing), refusal .busy) ]
        (.ack (.entryState entry .empty) (p.enterEntry entry .empty Entry.empty))) s

/-- ENTRY_GET (R150); FF hex is ALL. -/
def execEntryGet (tag entry : Nat) (s : State) : Host.Outcome State Fault Refusal :=
  request (.entryGet tag entry) tag
    (fun p =>
      if entry = 255 then
        .ack (.entryAll ((List.range Config.entries).map p.entryBrief) p.claims
          (p.blockedSet.map fun b => (b.1, reported b.2))) p
      else checked [(outside 0 127 entry, badField 1)] (.ack (.entry (p.entrySnapshot entry)) p)) s

/-! ### The lifetime's events -/

/-- The first sense path of an ACTIVE entry that has stood above its limit for its trip time at the last reading (R141). -/
def Part.trippedPath (e : Nat) (p : Part) : Option Nat :=
  let x := p.entry e
  match x.state, x.electrical? with
  | .active, some d =>
    d.paths.find? fun n => x.runs.any fun r => r.1 = n && r.2 + d.time ≤ p.matrix.senseTick
  | _, _ => none

/-- The trip of an entry on a sense path (R141). -/
def Part.trip (e n : Nat) (p : Part) : Part :=
  let x := p.entry e
  let p1 := p.setEntry e { x with
    last := x.last.map fun r => { r with tripSense := some n, tripCurrent := some (p.matrix.senseOf n) } }
  let r := p1.endActive e .tripped
  settleAll (r.1.logError .trip (.entry e) n, r.2)

/-- TRIP (R141). -/
def execTrip (entry : Nat) (s : State) : Host.Outcome State Fault Refusal :=
  onUnit entry Config.entries
    (fun p =>
      match p.trippedPath entry with
      | some n => p.trip entry n
      | none => p) s

/-- The chatter after a toggle at its appointed time (R142): off for the off time, or, a cycle made, on for the on time
unless it was the last. -/
def ChatterRun.toggled (c : Chatter) (at0 : Nat) (r : ChatterRun) : ChatterRun :=
  if r.on then { r with on := false, nextAt := some (at0 + c.offTime) }
  else
    let made := r.made + 1
    { on := true, made := made, nextAt := if c.cycles ≠ 0 && c.cycles ≤ made then none else some (at0 + c.onTime) }

/-- The matrix's toggle of an entry's one cell on one line (R115): a short's fault cell, or the series cell of OPEN, which
opens for the fault to stand on. -/
def Part.toggleLine (d : Electrical) (on : Bool) (l : Nat) (p : Part) : Part :=
  match d.faultCell with
  | some c => if on then p.commandClose l c else p.commandOpen l c
  | none => if on then p.commandOpen l .series else p.commandClose l .series

/-- The toggle of an ACTIVE entry's chatter, once its appointed tick has come (R142). -/
def Part.toggleChatter (e : Nat) (p : Part) : Part :=
  let x := p.entry e
  match x.state, x.electrical?, x.chatter with
  | .active, some d, some r =>
    match d.chatter, r.nextAt with
    | some c, some t =>
      if t ≤ p.now then
        let r' := r.toggled c t
        d.lines.foldl (fun q l => q.toggleLine d r'.on l) (p.setEntry e { x with chatter := some r' })
      else p
    | _, _ => p
  | _, _, _ => p

/-- CHATTER_TOGGLE (R115, R142). -/
def execChatterToggle (entry : Nat) (s : State) : Host.Outcome State Fault Refusal :=
  onUnit entry Config.entries (fun p => p.toggleChatter entry) s

/-- Whether a BLOCKED entry's deadline lies behind the present tick (R135). -/
def Part.missed (e : Nat) (p : Part) : Bool :=
  decide ((p.entry e).state = .blocked) && (p.entry e).deadline.any fun t => t < p.now

/-- ENTRY_MISSED (R135). -/
def execEntryMissed (entry : Nat) (s : State) : Host.Outcome State Fault Refusal :=
  onUnit entry Config.entries
    (fun p => if p.missed entry then settleAll (p.endUnclaimed entry .missed) else p) s

/-- Whether an ACTIVE entry's TIME duration has elapsed (R140). -/
def Part.timeElapsed (e : Nat) (p : Part) : Bool :=
  match (p.entry e).definition.map EntryDef.duration with
  | some (.time n) => decide ((p.entry e).state = .active) && (p.entry e).activeTick + n ≤ p.now
  | _ => false

/-- DURATION_TIME_END (R140). -/
def execDurationTimeEnd (entry : Nat) (s : State) : Host.Outcome State Fault Refusal :=
  onUnit entry Config.entries
    (fun p => if p.timeElapsed entry then settleAll (p.endActive entry .completed) else p) s

/-- Whether an ACTIVE entry's ANGLE duration has been travelled (R140). -/
def Part.angleTravelled (e : Nat) (p : Part) : Bool :=
  match (p.entry e).definition.map EntryDef.duration with
  | some (.angle n) => decide ((p.entry e).state = .active) && n * Config.unitParts ≤ (p.entry e).travel
  | _ => false

/-- DURATION_ANGLE_END (R140). -/
def execDurationAngleEnd (entry : Nat) (s : State) : Host.Outcome State Fault Refusal :=
  onUnit entry Config.entries
    (fun p => if p.angleTravelled entry then settleAll (p.endActive entry .completed) else p) s

end Sys2Proof.Machine
end

