-- ==== Sys2Proof/Machine/StoreCommands.lean ====
section
/-! DEFINITION. The segment store's requests and the events of play (R47 to R65, R184). -/

namespace Sys2Proof.Machine

/-! ### Appending (R51 to R54) -/

/-- The position, from 1, of the first record that fails a test. -/
def firstRecord (bad : RawRecord → Bool) (rs : List RawRecord) : Option Nat := (rs.findIdx? bad).map fun i => i + 1

/-- The check that no record fails a test, naming the first that does. -/
def recordCheck (bad : RawRecord → Bool) (rs : List RawRecord) : Bool × Refused :=
  (rs.any bad, badRecord .badField 3 ((firstRecord bad rs).getD 0))

/-- R51's checks, in its order. -/
def Part.appendChecks (c count : Nat) (rs : List RawRecord) (p : Part) : List (Bool × Refused) :=
  let ch := p.channel c
  let loops := loopCheck 1 (ch.queue.reverse.map QRec.isLoop) rs
  [ (outside 0 31 c, badField 1),
    (outside 1 32 count || decide (count ≠ rs.length), badField 2),
    recordCheck recordFaulty rs,
    (decide (ch.state = .off ∨ ch.state = .done ∨ ch.state = .faulted ∨ ch.state = .held), refusal .busy),
    (decide (ch.kind = some .wheel), refusal .kindMismatch),
    ((recordCheck recordIsAngle rs).map (fun b => b && ch.kind = some .speed) id),
    (loops.isSome, loops.getD (refusal .nestedLoop)),
    (decide (p.freeSlots < rs.length), refusal .storeFull),
    (decide (Config.queueLimit < ch.queue.length + rs.length), refusal .queueFull) ]

/-- The records of an accepted request as stored, with the fields clamped in each (R52). -/
def storedRecords (k : Kind) (rs : List RawRecord) : List (Content × Nat) := rs.map (storedRecord k)

/-- SEG_APPEND's effect (R52, R54): the records join the tail in the slots they take, each written afresh; a STARVED channel
resumes on the next tick. -/
def Part.append (c : Nat) (rs : List RawRecord) (p : Part) : Part :=
  let ch := p.channel c
  let slots := takeSlots rs.length p.heldSlots
  let recs := (slots.zip (storedRecords (ch.kind.getD .level) rs)).map fun (s, r) => { slot := s, content := r.1 : QRec }
  { p.setChannel c { ch with
      queue := ch.queue ++ recs
      resumeAt := if ch.state = .starved then ch.resumeAt.orElse fun _ => some (p.now + 1) else ch.resumeAt } with
    damage := p.damage.filter fun d => !slots.contains d.1 }

/-- How many fields of a request were stored clamped (R52). -/
def clampedFields (k : Kind) (rs : List RawRecord) : Nat := ((storedRecords k rs).map Prod.snd).sum

/-- SEG_APPEND (R51, R52). -/
def execSegAppend (tag channel count : Nat) (records : List RawRecord) (s : State) :
    Host.Outcome State Fault Refusal :=
  request (.segAppend tag channel count records) tag
    (fun p =>
      let ch := p.channel channel
      let p' := p.append channel records
      checked (p.appendChecks channel count records)
        (.ack
          (.segAppend channel records.length (clampedFields (ch.kind.getD .level) records) (ch.queue.length + 1)
            (p'.channel channel).queue.length (p'.channel channel).pending p'.freeSlots) p')) s

/-! ### Breaking a loop (R61) -/

/-- The place, from 0, and the fields of the first loop record of a queue (R61). -/
def firstLoop (q : List QRec) : Option (Nat × Nat × Nat × Nat) :=
  (q.findIdx? QRec.isLoop).bind fun i =>
    (q[i]?).bind fun r =>
      match r.content with
      | .loop k n left _ => some (i, k, n, left)
      | .segment _ => none

/-- The first loop record broken (R61). -/
def Part.breakLoop (c : Nat) (p : Part) : Part :=
  let ch := p.channel c
  match firstLoop ch.queue with
  | some (i, k, r, _) =>
    match ch.queue[i]? with
    | some q => p.setChannel c { ch with queue := ch.queue.set i { q with content := .loop k r 0 true } }
    | none => p
  | none => p

/-- LOOP_BREAK (R61). -/
def execLoopBreak (tag channel : Nat) (s : State) : Host.Outcome State Fault Refusal :=
  request (.loopBreak tag channel) tag
    (fun p =>
      let ch := p.channel channel
      if outside 0 31 channel then .refuse (badField 1)
      else if ch.state = .off then .refuse (refusal .notConfigured)
      else
        match firstLoop ch.queue with
        | some (i, _, r, remaining) => .ack (.loopBreak channel (i + 1) r remaining) (p.breakLoop channel)
        | none => .refuse (refusal .noLoop)) s

/-! ### Play -/

/-- CHANNEL_RUN_START (R25): the tick after CHANNEL_START. -/
def execChannelRunStart (channel : Nat) (s : State) : Host.Outcome State Fault Refusal :=
  onUnit channel Config.channels (fun p => settleAll (p.runStart channel)) s

/-- The record in play ends where it is of this basis and has reached its length (R56, R57). -/
def Part.endOfBasis (b : Basis) (c : Nat) (p : Part) : Part :=
  if (p.channel c).playing.any fun x => decide (x.2.basis = b) then settleAll (p.endSegment c) else p

/-- SEGMENT_END (R56). -/
def execSegmentEnd (channel : Nat) (s : State) : Host.Outcome State Fault Refusal :=
  onUnit channel Config.channels (fun p => p.endOfBasis .time channel) s

/-- ANGLE_SEGMENT_END (R57). -/
def execAngleSegmentEnd (channel : Nat) (s : State) : Host.Outcome State Fault Refusal :=
  onUnit channel Config.channels (fun p => p.endOfBasis .angle channel) s

/-- CHANNEL_RESUME (R54): the tick after an accepted append to a STARVED channel. -/
def execChannelResume (channel : Nat) (s : State) : Host.Outcome State Fault Refusal :=
  onUnit channel Config.channels (fun p => settleAll (p.resume channel)) s

end Sys2Proof.Machine
end

