-- ==== Sys2Proof/Machine/Tick.lean ====
section
/-! DEFINITION. The microsecond tick (R1): the clock, the pins as they now stand, the trigger samples, the engine's motion
and the renders of the tick. -/

namespace Sys2Proof.Machine

/-- Rig time, which holds at its last value, and the tick count, one tick on (R1). -/
def Clock.advance (c : Clock) : Clock where
  rigTime := min (c.rigTime + 1) Config.lastRigTime
  ticks := (c.ticks + 1) % Config.tickModulus

/-- The cadences that fall on a tick (R5, R32, R88, R103). -/
def marksAt (tick : Nat) : Marks where
  milli := decide (tick % 1000 = 0)
  level := decide (tick % 10 = 0)
  monitor := decide (tick % 5 = 0)
  current := decide (tick % 10 = 0)
  flush := false

/-- A change outside the part, as it stands from the present tick on; a bit error comes into a slot that holds a record
(3.6.1, log entry 7). -/
def Part.pinChange (c : PinChange) (p : Part) : Part :=
  match c with
  | .trigger i high => { p with pins := { p.pins with triggers := p.pins.triggers.set i high } }
  | .monitor m v => { p with pins := { p.pins with monitors := p.pins.monitors.set m v } }
  | .lineCurrent l v => { p with pins := { p.pins with lineCurrents := p.pins.lineCurrents.set l v } }
  | .busCurrent b v => { p with pins := { p.pins with busCurrents := p.pins.busCurrents.set b v } }
  | .contact l cell closed =>
    { p with pins := { p.pins with
      contacts := p.pins.contacts.set l ((p.pins.contacts.getD l []).set (cellIndex cell) closed) } }
  | .slotError slot e => if p.heldSlots.contains slot then { p with damage := addDamage slot e p.damage } else p

/-- One trigger input's sample (R79, R80): a sample equal to the filtered level abandons a change in progress; any other
begins one or lets it go on. The width judged by is the one in force before the tick's requests. DESIGN CHOICE (log entry
43): the sample comes before the judging, so a sample of the old level abandons a change that a width lowered on the tick
before would have accepted on this one. -/
def TriggerInput.sample (now : Nat) (level : Bool) (x : TriggerInput) : TriggerInput :=
  { x with judged := x.width, change := if level = x.filtered then none else some (x.change.getD now) }

/-- Every trigger input sampled (R79). -/
def Part.sampleTriggers (p : Part) : Part :=
  { p with triggers := p.triggers.mapIdx fun i x => x.sample p.now (p.pins.triggers.getD i false) }

/-- The engine's motion on the tick (R8): the increment in FIXED and TRACK; an increment of 0 is no motion. -/
def Part.turn (p : Part) : Part :=
  if p.engine.mode ≠ .follow && p.engine.increment ≠ 0 then p.takeMove (p.engine.move true p.engine.increment) else p

/-- The capture ring's one test on the tick (R95): the batch threshold raises the cause here, and a flush interval reached
is marked for CAPTURE_FLUSH to raise it. At level 7 a cause queues nothing, so nothing is marked. -/
def Part.ringTest (p : Part) : Part :=
  if p.capture.ring.isEmpty || p.queued .capture then p
  else if p.capture.batch ≤ p.capture.ring.length then p.raise .capture
  else { p with marks := { p.marks with flush := p.flushDue && decide (p.link.levels.capture ≠ 7) } }

/-- The clock and the outside brought to the next tick, before anything is taken on it. -/
def Part.onto (changes : List PinChange) (p : Part) : Part :=
  let clock := p.clock.advance
  changes.foldl (fun q c => q.pinChange c) { p with clock := clock, marks := marksAt clock.ticks }

/-- The channels that render at the microsecond tick take their modifiers as they stand when it comes (R40). -/
def Part.tickTakes (p : Part) : Part := { p with channels := p.channels.map Channel.tickTake }

/-- The renders of the tick itself: every PULSE channel with no period running looks, and every WHEEL channel renders (R22,
R36, R38). No play is taken here: a request or play that falls on the tick comes in the sender's order (log entry 42). -/
def Part.tickRenders (p : Part) : Part := p.renderLooks.renderWheels

/-- One microsecond tick (R1, R8, R22, R36, R38, R40, R79, R95). -/
def Part.tick (changes : List PinChange) (p : Part) : Part :=
  (p.onto changes).tickTakes.sampleTriggers.turn.tickRenders.refreshPins.ringTest

/-- MICROSECOND_TICK (R1). -/
def execMicrosecondTick (changes : List PinChange) (s : State) : Host.Outcome State Fault Refusal :=
  acted s (s.part.tick changes)

/-- RIG_TIME_HOLD (R1): the tick on which rig time reaches 2^48 − 1, or a later one, on which it holds while the tick count
goes on. Before that the event has not come about. -/
def execRigTimeHold (changes : List PinChange) (s : State) : Host.Outcome State Fault Refusal :=
  acted s (if Config.lastRigTime ≤ s.part.clock.rigTime + 1 then s.part.tick changes else s.part)

end Sys2Proof.Machine
end

