-- ==== Sys2Proof/Machine/Dispatch.lean ====
section
/-! DEFINITION. The meaning of every command: one arm for each row of spec/opcode_table.json. -/

namespace Sys2Proof.Machine

def exec (i : Instr) (s : State) : Host.Outcome State Fault Refusal :=
  match i with
  | .statusGet tag => Sys2Proof.Machine.execStatusGet tag s
  | .linkReset tag => Sys2Proof.Machine.execLinkReset tag s
  | .noticeLevel tag kind index level => Sys2Proof.Machine.execNoticeLevel tag kind index level s
  | .errlogGet tag => Sys2Proof.Machine.execErrlogGet tag s
  | .errlogClear tag cls => Sys2Proof.Machine.execErrlogClear tag cls s
  | .guardSet tag period rate => Sys2Proof.Machine.execGuardSet tag period rate s
  | .keepalive tag value => Sys2Proof.Machine.execKeepalive tag value s
  | .safeEnter tag => Sys2Proof.Machine.execSafeEnter tag s
  | .safeLeave tag => Sys2Proof.Machine.execSafeLeave tag s
  | .engineGet tag => Sys2Proof.Machine.execEngineGet tag s
  | .engineSpeed tag target rate => Sys2Proof.Machine.execEngineSpeed tag target rate s
  | .engineMode tag mode channel => Sys2Proof.Machine.execEngineMode tag mode channel s
  | .engineAngleSet tag angle cycle => Sys2Proof.Machine.execEngineAngleSet tag angle cycle s
  | .engineFollowCfg tag counts offset tolerance => Sys2Proof.Machine.execEngineFollowCfg tag counts offset tolerance s
  | .channelConfig tag channel config => Sys2Proof.Machine.execChannelConfig tag channel config s
  | .channelStart tag channel => Sys2Proof.Machine.execChannelStart tag channel s
  | .channelStop tag channel => Sys2Proof.Machine.execChannelStop tag channel s
  | .channelDisable tag channel => Sys2Proof.Machine.execChannelDisable tag channel s
  | .channelGet tag channel => Sys2Proof.Machine.execChannelGet tag channel s
  | .wheelDefine tag index pattern => Sys2Proof.Machine.execWheelDefine tag index pattern s
  | .segAppend tag channel count records => Sys2Proof.Machine.execSegAppend tag channel count records s
  | .loopBreak tag channel => Sys2Proof.Machine.execLoopBreak tag channel s
  | .slotConfig tag slot kind byte2 byte3 => Sys2Proof.Machine.execSlotConfig tag slot kind byte2 byte3 s
  | .slotGet tag slot => Sys2Proof.Machine.execSlotGet tag slot s
  | .triggerCfg tag input width => Sys2Proof.Machine.execTriggerCfg tag input width s
  | .groupArm tag group condition => Sys2Proof.Machine.execGroupArm tag group condition s
  | .groupCancel tag group => Sys2Proof.Machine.execGroupCancel tag group s
  | .monitorConfig tag monitor high low => Sys2Proof.Machine.execMonitorConfig tag monitor high low s
  | .monitorRead tag monitor => Sys2Proof.Machine.execMonitorRead tag monitor s
  | .captureCfg tag batch flush listLength settings => Sys2Proof.Machine.execCaptureCfg tag batch flush listLength settings s
  | .patrolCfg tag settle interval wear => Sys2Proof.Machine.execPatrolCfg tag settle interval wear s
  | .cellRestore tag line cell => Sys2Proof.Machine.execCellRestore tag line cell s
  | .matrixGet tag line => Sys2Proof.Machine.execMatrixGet tag line s
  | .matrixClear tag => Sys2Proof.Machine.execMatrixClear tag s
  | .entryDefine tag definition => Sys2Proof.Machine.execEntryDefine tag definition s
  | .entryArm tag entry => Sys2Proof.Machine.execEntryArm tag entry s
  | .entryDisarm tag entry => Sys2Proof.Machine.execEntryDisarm tag entry s
  | .entryDelete tag entry => Sys2Proof.Machine.execEntryDelete tag entry s
  | .entryGet tag entry => Sys2Proof.Machine.execEntryGet tag entry s
  | .badKind frame => Sys2Proof.Machine.execBadKind frame s
  | .frameReceived last => Sys2Proof.Machine.execFrameReceived last s
  | .linkFraming => Sys2Proof.Machine.execLinkFraming s
  | .frameLengthError second => Sys2Proof.Machine.execFrameLengthError second s
  | .linkTruncated => Sys2Proof.Machine.execLinkTruncated s
  | .transmitStart => Sys2Proof.Machine.execTransmitStart s
  | .transmitEnd => Sys2Proof.Machine.execTransmitEnd s
  | .powerOn => Sys2Proof.Machine.execPowerOn s
  | .supplyDip => Sys2Proof.Machine.execSupplyDip s
  | .microsecondTick changes => Sys2Proof.Machine.execMicrosecondTick changes s
  | .rigTimeHold changes => Sys2Proof.Machine.execRigTimeHold changes s
  | .millisecondUpdate => Sys2Proof.Machine.execMillisecondUpdate s
  | .encoderCount a b => Sys2Proof.Machine.execEncoderCount a b s
  | .indexPulse z => Sys2Proof.Machine.execIndexPulse z s
  | .indexMissing => Sys2Proof.Machine.execIndexMissing s
  | .levelTick => Sys2Proof.Machine.execLevelTick s
  | .pwmPeriodEnd channel => Sys2Proof.Machine.execPwmPeriodEnd channel s
  | .pulsePeriodEnd channel => Sys2Proof.Machine.execPulsePeriodEnd channel s
  | .pulseTrainStart channel => Sys2Proof.Machine.execPulseTrainStart channel s
  | .channelRunStart channel => Sys2Proof.Machine.execChannelRunStart channel s
  | .segmentEnd channel => Sys2Proof.Machine.execSegmentEnd channel s
  | .angleSegmentEnd channel => Sys2Proof.Machine.execAngleSegmentEnd channel s
  | .channelResume channel => Sys2Proof.Machine.execChannelResume channel s
  | .conditionAtTime waiter => Sys2Proof.Machine.execConditionAtTime waiter s
  | .triggerAccept input => Sys2Proof.Machine.execTriggerAccept input s
  | .monitorSample => Sys2Proof.Machine.execMonitorSample s
  | .captureFlush => Sys2Proof.Machine.execCaptureFlush s
  | .currentReading => Sys2Proof.Machine.execCurrentReading s
  | .trip entry => Sys2Proof.Machine.execTrip entry s
  | .stepReadback owner => Sys2Proof.Machine.execStepReadback owner s
  | .heldCloseGiven line => Sys2Proof.Machine.execHeldCloseGiven line s
  | .fastReleaseReadback entry => Sys2Proof.Machine.execFastReleaseReadback entry s
  | .isolationReadback line => Sys2Proof.Machine.execIsolationReadback line s
  | .patrolCheck => Sys2Proof.Machine.execPatrolCheck s
  | .chatterToggle entry => Sys2Proof.Machine.execChatterToggle entry s
  | .entryMissed entry => Sys2Proof.Machine.execEntryMissed entry s
  | .durationTimeEnd entry => Sys2Proof.Machine.execDurationTimeEnd entry s
  | .durationAngleEnd entry => Sys2Proof.Machine.execDurationAngleEnd entry s
  | .guardExpiry => Sys2Proof.Machine.execGuardExpiry s
  | .characterReceived char => Sys2Proof.Machine.execCharacterReceived char s

end Sys2Proof.Machine
end

