-- ==== Sys2Proof/Machine/Step.lean ====
section
/-! DEFINITION. One step: the command at the front of the queue is taken (first in, first out). -/

namespace Sys2Proof.Machine

/-- One step: exec of the command at the front of the queue, on the state with the queue's rest. With no command waiting
the part idles (DESIGN CHOICE, log entry 8): its clock is a command of the table, MICROSECOND_TICK. -/
def step (s : State) : Host.Outcome State Fault Refusal :=
  match s.pending with
  | [] => .next s
  | c :: rest => exec c { s with pending := rest }

/-- The command a word spells put at the front of the queue; no row of the table has bits, so no word spells one (log
entry 31). -/
def State.withFetchWord (s : State) (nbits w : Nat) : State :=
  match decodeTableWord nbits w with
  | some c => { s with pending := c :: s.pending }
  | none => s

end Sys2Proof.Machine
end

