-- ==== Sys2Proof/WellFormed.lean ====
section
/-! DEFINITION. Which commands can arise: a request whose operands are those a frame can carry (the field widths of 10.8, the
lengths of its lists), a frame the envelope allows (10.1.1), and an event of a unit the part has (5.4). Whether a request
is accepted is for its own rule to say; a well-formed request may still be refused. -/

namespace Sys2Proof

/-- A field of one, two or four bytes. -/
def fits8 (n : Nat) : Bool := n < 256
def fits16 (n : Nat) : Bool := n < 65536
def fits32 (n : Nat) : Bool := n < 4294967296
def fits48 (n : Nat) : Bool := n < 281474976710656

/-- A signed field of four bytes. -/
def fitsSigned (v : Int) : Bool := -2147483648 ≤ v && v < 2147483648

/-- A request's tag byte (10.1.1); tag 0 is carried, and refused. -/
def Tag.wf (t : Nat) : Bool := fits8 t

def Frame.wf (f : Frame) : Bool := f.body.length ≤ Config.maxBody

def RawRecord.wf : RawRecord → Bool
  | .segment r =>
    fits32 r.length && fitsSigned r.startValue && r.endValue.all fitsSigned && r.secondary.all fits32 && r.marker.all fits8
  | .loop k r => fits8 k && fits16 r
  | .unknown t => fits8 t && decide (t ≠ 0 ∧ t ≠ 1)

def RawConfig.wf (r : RawConfig) : Bool :=
  fits8 r.kind && fits32 r.parkValue && r.lowLevel.all fits16 && r.highLevel.all fits16 && r.pattern.all fits8 &&
    r.pulseWidth.all fits16 && r.pwmFrequency.all fits32 && r.lowWater.all fits16 && r.startGroup.all fits8

def RawPattern.wf (r : RawPattern) : Bool :=
  fits8 r.span && fits8 r.positions && fits16 r.width && fits8 r.missingCount && decide (r.missing.length = 8) &&
    r.missing.all fits8 && fits16 r.offset && fits8 r.polarity

def RawCondition.wf : RawCondition → Bool
  | .now => true
  | .atTime t => fits48 t
  | .atAngle a f => fits16 a && f.all fits32
  | .onEvent s n => fits8 s && fits16 n
  | .unknown k => fits8 k && decide (3 < k)

def Chatter.wf (c : Chatter) : Bool := fits32 c.onTime && fits32 c.offTime && fits16 c.cycles

def RawClass.wf : RawClass → Bool
  | .electrical e =>
    fits8 e.kind && fits8 e.lineCount && decide (e.lines.length = 8) && e.lines.all fits8 && fits8 e.bus &&
      fits8 e.resistance && e.tripLimit.all fits16 && e.tripTime.all fits32 && e.chatter.all Chatter.wf
  | .signal s => fits8 s.channel && fits8 s.kind && fitsSigned s.value && fits8 s.position && fits8 s.count
  | .unknown c => fits8 c && decide (1 < c)

def RawDuration.wf : RawDuration → Bool
  | .time n => fits32 n
  | .angle n => fits32 n
  | .untilEvent s => fits8 s
  | .untilDisarm => true
  | .unknown k => fits8 k && decide (3 < k)

def RawEntry.wf (r : RawEntry) : Bool :=
  fits8 r.entry && r.cls.wf && r.condition.wf && r.latestStart.all fits32 && r.duration.wf && r.repeatCount.all fits16 &&
    r.spacing.all fits32

/-- A change outside the part names a pin, sense, cell or slot the part has. -/
def PinChange.wf : PinChange → Bool
  | .trigger i _ => i < Config.triggers
  | .monitor m _ => m < Config.monitors
  | .lineCurrent l _ => l < Config.lines
  | .busCurrent b _ => b < Config.buses
  | .contact l _ _ => l < Config.lines
  | .slotError n _ => n < Config.slots

def Waiter.wf : Waiter → Bool
  | .entry n => n < Config.entries
  | .group n => n < Config.groups

def StepOwner.wf : StepOwner → Bool
  | .entry n => n < Config.entries
  | .restore => true

/-- Which commands can arise. -/
def Instr.wf : Instr → Bool
  | .statusGet t => Tag.wf t
  | .linkReset t => Tag.wf t
  | .noticeLevel t k i l => Tag.wf t && fits8 k && fits8 i && fits8 l
  | .errlogGet t => Tag.wf t
  | .errlogClear t c => Tag.wf t && fits8 c
  | .guardSet t p r => Tag.wf t && p.all fits16 && r.all fits16
  | .keepalive t v => Tag.wf t && fits32 v
  | .safeEnter t => Tag.wf t
  | .safeLeave t => Tag.wf t
  | .engineGet t => Tag.wf t
  | .engineSpeed t g r => Tag.wf t && fits16 g && fits16 r
  | .engineMode t m c => Tag.wf t && fits8 m && fits8 c
  | .engineAngleSet t a c => Tag.wf t && fits16 a && fits32 c
  | .engineFollowCfg t n o l => Tag.wf t && fits16 n && fits16 o && fits16 l
  | .channelConfig t c r => Tag.wf t && fits8 c && r.wf
  | .channelStart t c => Tag.wf t && fits8 c
  | .channelStop t c => Tag.wf t && fits8 c
  | .channelDisable t c => Tag.wf t && fits8 c
  | .channelGet t c => Tag.wf t && fits8 c
  | .wheelDefine t i r => Tag.wf t && fits8 i && r.wf
  | .segAppend t c n rs => Tag.wf t && fits8 c && fits8 n && 1 ≤ rs.length && rs.length ≤ 32 && rs.all RawRecord.wf
  | .loopBreak t c => Tag.wf t && fits8 c
  | .slotConfig t n k b2 b3 => Tag.wf t && fits8 n && fits8 k && fits8 b2 && fits8 b3
  | .slotGet t n => Tag.wf t && fits8 n
  | .triggerCfg t i w => Tag.wf t && fits8 i && w.all fits16
  | .groupArm t g c => Tag.wf t && fits8 g && c.wf
  | .groupCancel t g => Tag.wf t && fits8 g
  | .monitorConfig t m h l => Tag.wf t && fits8 m && fits16 h && fits16 l
  | .monitorRead t m => Tag.wf t && fits8 m
  | .captureCfg t b f n xs =>
    Tag.wf t && b.all fits8 && f.all fits8 && fits8 n && xs.length ≤ 16 && xs.all fun x => fits8 x.monitor
  | .patrolCfg t a b c => Tag.wf t && a.all fits16 && b.all fits8 && c.all fits8
  | .cellRestore t l c => Tag.wf t && fits8 l && fits8 c
  | .matrixGet t l => Tag.wf t && l.all fits8
  | .matrixClear t => Tag.wf t
  | .entryDefine t r => Tag.wf t && r.wf
  | .entryArm t e => Tag.wf t && fits8 e
  | .entryDisarm t e => Tag.wf t && fits8 e
  | .entryDelete t e => Tag.wf t && fits8 e
  | .entryGet t e => Tag.wf t && fits8 e
  | .badKind f => f.wf
  | .frameReceived _ => true
  | .linkFraming => true
  | .frameLengthError _ => true
  | .linkTruncated => true
  | .transmitStart => true
  | .transmitEnd => true
  | .powerOn => true
  | .supplyDip => true
  | .microsecondTick cs => cs.all PinChange.wf
  | .rigTimeHold cs => cs.all PinChange.wf
  | .millisecondUpdate => true
  | .encoderCount _ _ => true
  | .indexPulse _ => true
  | .indexMissing => true
  | .levelTick => true
  | .pwmPeriodEnd c => c < Config.channels
  | .pulsePeriodEnd c => c < Config.channels
  | .pulseTrainStart c => c < Config.channels
  | .channelRunStart c => c < Config.channels
  | .segmentEnd c => c < Config.channels
  | .angleSegmentEnd c => c < Config.channels
  | .channelResume c => c < Config.channels
  | .conditionAtTime w => w.wf
  | .triggerAccept i => i < Config.triggers
  | .monitorSample => true
  | .captureFlush => true
  | .currentReading => true
  | .trip e => e < Config.entries
  | .stepReadback o => o.wf
  | .heldCloseGiven l => l < Config.lines
  | .fastReleaseReadback e => e < Config.entries
  | .isolationReadback l => l < Config.lines
  | .patrolCheck => true
  | .chatterToggle e => e < Config.entries
  | .entryMissed e => e < Config.entries
  | .durationTimeEnd e => e < Config.entries
  | .durationAngleEnd e => e < Config.entries
  | .guardExpiry => true
  | .characterReceived _ => true

end Sys2Proof
end

