-- ==== Sys2Proof/Safety.lean ====
section
/-! DEFINITION. What counts as a sound state and as a faithful sender: the shape and the ranges the rules give every piece of
state, and the events that have come about on the present tick and wait to be taken. -/

namespace Sys2Proof.Machine

/-! ### Events that have come about (log entry 4) -/

/-- One event for each unit that a test picks. -/
def eventsOf (units : Nat) (test : Nat → Bool) (event : Nat → Instr) : List Instr :=
  ((List.range units).filter test).map event

/-- Whether a record in play of this basis has reached its length (R56, R57). -/
def Part.segmentOver (b : Basis) (c : Nat) (p : Part) : Bool :=
  decide ((p.channel c).state = .running) &&
    (p.channel c).playing.any fun x => decide (x.2.basis = b) && reachedLength p.now x.1 x.2

/-- Whether a PULSE channel with no period running has looked at a nonzero frequency (R36). -/
def Part.trainDue (c : Nat) (p : Part) : Bool := (p.channel c).trainDue p.now

/-- Whether an attempt's readback has come, of a verified step or of a fast release (R106, R116). -/
def Part.readbackDue (verified : Bool) (e : Nat) (p : Part) : Bool :=
  (p.entry e).seq.any fun s => decide (s.step.verified = verified) && s.step.readAt.any fun t => t ≤ p.now

/-- Whether a close held back on a line can be given (R109). -/
def Part.heldCloseDue (l : Nat) (p : Part) : Bool :=
  (p.line l).heldClose.isSome && !p.closesBarred && (p.line l).lastOpen + p.matrix.settle ≤ p.now

/-- Whether an ACTIVE entry's chatter has reached its appointed toggle (R142). -/
def Part.toggleDue (e : Nat) (p : Part) : Bool :=
  decide ((p.entry e).state = .active) && (p.entry e).chatter.any fun r => r.nextAt.any fun t => t ≤ p.now

/-- The link's events that have come about (R172, R178). -/
def Part.linkEvents (p : Part) : List Instr :=
  (match p.link.receiver with
    | .frame start _ => if p.frameTimedOut start then [.linkTruncated] else []
    | .hunt => []) ++
  (match p.link.transmitter with
    | some t => if t.endTick ≤ p.now then [.transmitEnd] else []
    | none => if p.link.replies.isEmpty && p.link.notices.isEmpty then [] else [.transmitStart])

/-- The requests the interpreter would take (R174). -/
def Part.waitingRequest (p : Part) : List Instr :=
  if p.interpreterReady then p.link.inbound.head?.toList.map decodeFrame else []

/-- The events that have come about and wait to be taken on the present tick. Those that the sender alone knows of
(characters, encoder samples, the supply, the tick itself) are not among them. -/
def Part.dueEvents (p : Part) : List Instr :=
  p.linkEvents ++ p.waitingRequest ++
  (if p.marks.milli then [.millisecondUpdate] else []) ++
  (if p.indexMissing then [.indexMissing] else []) ++
  (if p.expiryDue then [.guardExpiry] else []) ++
  (if p.marks.monitor then [.monitorSample] else []) ++
  (if p.marks.current then [.currentReading] else []) ++
  eventsOf Config.triggers p.triggerDue .triggerAccept ++
  eventsOf Config.entries (fun e => (p.entryTimeMet e).isSome) (fun e => .conditionAtTime (.entry e)) ++
  eventsOf Config.groups (fun g => (p.reachedTime ((p.group g).armed.map Prod.snd)).isSome)
    (fun g => .conditionAtTime (.group g)) ++
  eventsOf Config.channels (fun c => (p.channel c).state = .running && (p.channel c).startAt.any fun t => t ≤ p.now)
    .channelRunStart ++
  eventsOf Config.channels (fun c => (p.channel c).state = .starved && (p.channel c).resumeAt.any fun t => t ≤ p.now)
    .channelResume ++
  eventsOf Config.channels (p.segmentOver .time) .segmentEnd ++
  eventsOf Config.channels (p.segmentOver .angle) .angleSegmentEnd ++
  eventsOf Config.channels (fun c => (p.periodEnded c .pwm).isSome) .pwmPeriodEnd ++
  eventsOf Config.channels (fun c => (p.periodEnded c .pulse).isSome) .pulsePeriodEnd ++
  eventsOf Config.channels p.trainDue .pulseTrainStart ++
  (if p.marks.level then [.levelTick] else []) ++
  eventsOf Config.lines p.heldCloseDue .heldCloseGiven ++
  eventsOf Config.entries (p.readbackDue true) (fun e => .stepReadback (.entry e)) ++
  (if p.matrix.restore.any fun r => r.step.readAt.any fun t => t ≤ p.now then [.stepReadback .restore] else []) ++
  eventsOf Config.entries (p.readbackDue false) .fastReleaseReadback ++
  eventsOf Config.lines (fun l => (p.line l).isolation.any fun i => i.readAt ≤ p.now) .isolationReadback ++
  (if p.matrix.patrolNext ≤ p.now then [.patrolCheck] else []) ++
  eventsOf Config.entries (fun e => (p.trippedPath e).isSome) .trip ++
  eventsOf Config.entries p.toggleDue .chatterToggle ++
  eventsOf Config.entries p.missed .entryMissed ++
  eventsOf Config.entries p.timeElapsed .durationTimeEnd ++
  eventsOf Config.entries p.angleTravelled .durationAngleEnd ++
  (if p.flushWaits then [.captureFlush] else [])

/-- A sender is faithful at a state when the command at the front of its queue is well formed and, if it is a tick, no event
of the tick before is left untaken. -/
def State.Faithful (s : State) : Prop :=
  match s.pending with
  | [] => True
  | c :: _ =>
    c.wf = true ∧
      match c with
      | .microsecondTick _ => s.part.dueEvents = []
      | .rigTimeHold _ => s.part.dueEvents = []
      | _ => True

/-! ### The terms of the statements -/

/-- The tag of a request; BAD_KIND's frame and the events carry none here. -/
def requestTag : Instr → Option Nat
  | .statusGet t => some t
  | .linkReset t => some t
  | .noticeLevel t _ _ _ => some t
  | .errlogGet t => some t
  | .errlogClear t _ => some t
  | .guardSet t _ _ => some t
  | .keepalive t _ => some t
  | .safeEnter t => some t
  | .safeLeave t => some t
  | .engineGet t => some t
  | .engineSpeed t _ _ => some t
  | .engineMode t _ _ => some t
  | .engineAngleSet t _ _ => some t
  | .engineFollowCfg t _ _ _ => some t
  | .channelConfig t _ _ => some t
  | .channelStart t _ => some t
  | .channelStop t _ => some t
  | .channelDisable t _ => some t
  | .channelGet t _ => some t
  | .wheelDefine t _ _ => some t
  | .segAppend t _ _ _ => some t
  | .loopBreak t _ => some t
  | .slotConfig t _ _ _ _ => some t
  | .slotGet t _ => some t
  | .triggerCfg t _ _ => some t
  | .groupArm t _ _ => some t
  | .groupCancel t _ => some t
  | .monitorConfig t _ _ _ => some t
  | .monitorRead t _ => some t
  | .captureCfg t _ _ _ _ => some t
  | .patrolCfg t _ _ _ => some t
  | .cellRestore t _ _ => some t
  | .matrixGet t _ => some t
  | .matrixClear t => some t
  | .entryDefine t _ => some t
  | .entryArm t _ => some t
  | .entryDisarm t _ => some t
  | .entryDelete t _ => some t
  | .entryGet t _ => some t
  | _ => none

/-- The interpreter takes a request command on the present tick (R174, log entry 3). -/
def Part.takes (c : Instr) (p : Part) : Bool := (p.takeFrame c).isSome

/-- The part as its block finds it once the interpreter has taken the command's frame. -/
def Part.taken (c : Instr) (p : Part) : Part := (p.takeFrame c).getD p

/-- The state after a request that left the part as `p` and was answered so: the reply stands at the tail of the queue. -/
def State.replied (s : State) (p : Part) (tag : Nat) (a : Answer) : State :=
  { s with part := { p with link := { p.link with replies := p.link.replies ++ [{ tag := tag, answer := a }] } } }

/-- The state with its part changed, the waiting commands as they were. -/
def State.withPart (s : State) (p : Part) : State := { s with part := p }

/-- The name of the place that a class record reports beside a CELL_WELDED it holds as its first error, by the number it
is logged by: 1 STEP, 2 FAST, 3 ISOLATE, 4 PATROL (R163). -/
def ClassRecord.named (r : ClassRecord) : Option WeldPlace :=
  match r.first with
  | some g =>
    if g.code = .cellWelded then
      (if g.detail = 1 then some .step else if g.detail = 2 then some .fast else if g.detail = 3 then some .isolate
      else if g.detail = 4 then some .patrol else Option.none)
    else Option.none
  | Option.none => Option.none

/-! ### The snapshots, as their rules spell them -/

/-- The engine's snapshot (R19). -/
def Part.engineShown (p : Part) : EngineSnapshot :=
  { rigTime := p.clock.rigTime
    mode := p.engine.mode
    trackChannel := if p.engine.mode = .track then p.engine.trackChannel else none
    motion := p.engine.motion
    speed := p.engine.speed
    target := p.engine.target
    rampRate := p.engine.rampRate
    increment := p.engine.increment
    angle := p.engine.acc / 65536
    fraction := p.engine.acc % 65536
    cycle := p.engine.cycle
    followCounts := p.engine.counts
    followOffset := p.engine.offset
    followTolerance := p.engine.tolerance
    indexError := p.engine.indexError
    indexCount := p.engine.indexCount
    indexTime := p.engine.indexTime
    sinceIndex := p.engine.sinceIndex
    missingMark := p.engine.missingMark }

/-- A channel's snapshot (R44): the record in play by its place from 1 and its elapsed amount, the records held and pending,
and the low-water status. -/
def Part.channelShown (c : Nat) (p : Part) : ChannelSnapshot :=
  let ch := p.channel c
  let left := match ch.play with
    | some pl => ch.queue.length - (pl.place + 1)
    | none => ch.queue.length
  let mark := ((ch.config.bind ChConfig.lowWater).getD 0)
  { channel := c
    state := ch.state
    config := ch.config
    baseValue := ch.base
    outputValue := ch.output
    period := ch.period.map fun q => (q.frequency, q.length, q.high)
    currentFrequency := if ch.config.map ChConfig.kind = some .pwm then ch.frequency else none
    position := if ch.state = .running then
        ch.playing.map fun x =>
          { place := x.1.place + 1, basis := x.2.basis
            elapsed := if x.2.basis = .time then p.clock.ticks - x.1.startTick else x.1.travel / 65536 }
      else none
    held := ch.queue.length
    pending := left
    slipTotal := ch.slipTotal
    lowWaterLow := decide (mark ≠ 0 ∧ (ch.state = .running ∨ ch.state = .starved) ∧ left ≤ mark)
    runStart := ch.runStart.map fun t => min t 281474976710655
    modifier := ch.modifier.map fun m => (m.entry, m.fault) }

/-- A group's snapshot (R83): its condition with its waiting form, and the channels PRIMED for it in order. -/
def Part.groupShown (g : Nat) (p : Part) : GroupSnapshot :=
  { group := g, condition := (p.group g).armed
    primed := (List.range 32).filter fun c => (p.channel c).state = .primed ∧
      ((p.channel c).config.bind ChConfig.startGroup) = some g
    startCount := (p.group g).startCount, lastStart := (p.group g).lastStart }

/-- The matrix summary (R123): the WORN cells in line and cell order; a time is a rig time (log entry 10). -/
def Part.matrixShown (p : Part) : MatrixSummary :=
  let m := p.matrix
  { state := m.state
    firstPassDone := m.firstPass
    restore := m.restore.map Restore.lines
    settle := m.settle
    patrolInterval := m.patrolInterval
    wearThreshold := m.wearThreshold
    patrolPosition := m.patrolPosition
    patrolNext := min m.patrolNext 281474976710655
    lineStates := m.lines.map Line.state
    wornCells := (List.range 64).flatMap fun l =>
      ([.series, .ground, .battery, .bus0, .bus1, .bus2, .bus3].filter fun c => (p.cell l c).worn).map fun c => (l, c)
    buses := m.terminations.zip m.busSense }

/-- An entry's snapshot (R150): its claims are absent while it holds no line and no channel, and its share of the short
budget is its line count for the SHORT_GND and SHORT_BAT kinds. Times are rig times (log entry 10). -/
def Part.entryShown (e : Nat) (p : Part) : EntrySnapshot :=
  let x := p.entry e
  let lines := (List.range 64).filter fun l => p.claims.lines.getD l none = some e
  let channel := (List.range 32).find? fun c => p.claims.channels.getD c none = some e
  { entry := e, state := x.state, definition := x.definition
    waiting := x.waiting.map fun w => match w with
      | .time t => .time (min t 281474976710655)
      | w' => w'
    occurrences := x.occurrences, repeatsRemaining := x.repeatsRemaining
    duePoint := x.duePoint.map fun t => min t 281474976710655
    blockedSince := x.blockedSince.map fun t => min t 281474976710655
    deadline := x.deadline, endCause := x.endCause, last := x.last
    claims :=
      if lines = [] ∧ channel = none then none
      else some
        { lines := lines
          bus := (List.range 4).find? fun b => p.claims.buses.getD b none = some e
          channel := channel
          budget :=
            if lines = [] then 0
            else match x.electrical? with
              | some d => if d.kind = .shortGnd ∨ d.kind = .shortBat then d.lines.length else 0
              | none => 0 } }

/-- The guard's snapshot (R153). -/
def Part.guardShown (p : Part) : GuardSnapshot :=
  { period := p.guard.period, safeRate := p.guard.safeRate, lastValue := p.guard.lastValue
    windowStart := if p.guard.period.isSome then some (min p.guard.windowStart 281474976710655) else none
    deadline := if p.guard.period.isSome then some p.guard.deadline else none
    expiryCount := p.guard.expiryCount, safe := p.safe, rigTime := p.clock.rigTime }

/-- The body a notice carries (R20, R45, R83, R86, R96, R124, R151, R160, R167, R169, R179 to R181, R183): the part's is the reset
cause, the part code and revision, and whether the cells' health was kept, as a LINK reset keeps it; the capture's is the
32 oldest records of the ring, the dropped count, and how many stay and the oldest's time. -/
def Part.bodyShown (src : NoticeSource) (p : Part) : Body :=
  match src with
  | .part => .resetDone p.link.resetCause Config.partCode Config.revision (decide (p.link.resetCause = .link))
  | .guard => .guard p.guardShown
  | .cls c =>
    .errorNotice c (p.log.of c) (p.log.of c).named
      (decide (0 < p.log.corrected.count ∨ 0 < p.log.recoverable.count ∨ 0 < p.log.fatal.count))
  | .matrix => .matrixSummary p.matrixShown
  | .entry e => .entry (p.entryShown e)
  | .channel c => .channel (p.channelShown c)
  | .group g => .group (p.groupShown g)
  | .capture =>
    .captureBatch (p.capture.ring.take 32) p.capture.dropped (p.capture.ring.length - 32)
      (p.capture.ring[32]?.map fun r => r.stamp.time)
  | .engine => .engine p.engineShown
  | .link => .linkCounters p.link.counters

/-! ### The fault entry definition as bytes (10.8) -/

/-- Twelve bytes are a condition record (10.8), the bytes its kind does not use 0. -/
def SpellsCondition (c : Condition) (b : List Byte) : Prop :=
  match c with
  | .now => field 0 1 b = 0 ∧ field 1 11 b = 0
  | .atTime t => field 0 1 b = 1 ∧ field 1 1 b = 0 ∧ field 2 6 b = t % 281474976710656 ∧ field 8 4 b = 0
  | .atAngle a floor =>
    field 0 1 b = 2 ∧ field 1 1 b = (if floor.isSome then 1 else 0) ∧ field 2 2 b = a % 65536 ∧
      field 4 4 b = floor.getD 0 % 4294967296 ∧ field 8 4 b = 0
  | .onEvent s n => field 0 1 b = 3 ∧ field 1 1 b = 0 ∧ field 2 1 b = s % 256 ∧ field 3 2 b = n % 65536 ∧ field 5 7 b = 0

/-- The bytes 3 to 34 are an ELECTRICAL definition's class fields (10.8), an absent one's bytes 0; the kinds' codes are log
entry 19. -/
def SpellsElectrical (d : Electrical) (b : List Byte) : Prop :=
  field 1 1 b = 0 ∧ flag 2 1 b = d.tripLimit.isSome ∧ flag 2 2 b = d.tripTime.isSome ∧ flag 2 3 b = d.chatter.isSome ∧
  flag 2 4 b = d.isolate ∧
  field 3 1 b = (match d.kind with
    | .openLine => 0 | .shortGnd => 1 | .shortBat => 2 | .shortPin => 3 | .leakGnd => 4 | .leakBat => 5) ∧
  field 4 1 b = d.lines.length % 256 ∧ (∀ i < 8, field (5 + i) 1 b = d.lines.getD i 0 % 256) ∧
  field 13 1 b = d.bus.getD 0 % 256 ∧ field 14 1 b = d.resistance.getD 0 % 256 ∧
  field 15 2 b = d.tripLimit.getD 0 % 65536 ∧ field 17 4 b = d.tripTime.getD 0 % 4294967296 ∧
  (match d.chatter with
    | some c => field 21 4 b = c.onTime % 4294967296 ∧ field 25 4 b = c.offTime % 4294967296 ∧ field 29 2 b = c.cycles % 65536
    | none => field 21 10 b = 0) ∧
  field 31 4 b = 0

/-- The bytes 3 to 34 are a SIGNAL definition's class fields (10.8), a signed field in two's complement. -/
def SpellsSignal (c : Nat) (f : SigFault) (b : List Byte) : Prop :=
  field 1 1 b = 1 ∧ flag 2 1 b = false ∧ flag 2 2 b = false ∧ flag 2 3 b = false ∧ flag 2 4 b = false ∧
  field 3 1 b = c % 256 ∧
  (match f with
    | .stuck => field 4 1 b = 0 ∧ field 5 6 b = 0
    | .offset v => field 4 1 b = 1 ∧ ((field 5 4 b : Int) - v) % 4294967296 = 0 ∧ field 9 2 b = 0
    | .drop q n => field 4 1 b = 2 ∧ field 5 4 b = 0 ∧ field 9 1 b = q % 256 ∧ field 10 1 b = n % 256
    | .shift v => field 4 1 b = 3 ∧ ((field 5 4 b : Int) - v) % 4294967296 = 0 ∧ field 9 2 b = 0) ∧
  field 11 24 b = 0

/-- Bytes are the 62-byte definition of an entry, field by field as 10.8 lays it out, an absent field's bytes 0. -/
def SpellsDefinition (e : Nat) (d : EntryDef) (b : List Byte) : Prop :=
  b.length = 62 ∧ field 0 1 b = e % 256 ∧
  flag 2 0 b = d.latestStart.isSome ∧ flag 2 5 b = d.repeatCount.isSome ∧ flag 2 6 b = d.spacing.isSome ∧
  flag 2 7 b = false ∧
  (match d.cls with
    | .electrical x => SpellsElectrical x b
    | .signal c f => SpellsSignal c f b) ∧
  SpellsCondition d.condition (bytesAt 35 12 b) ∧
  field 47 4 b = d.latestStart.getD 0 % 4294967296 ∧
  (match d.duration with
    | .time n => field 51 1 b = 0 ∧ field 52 4 b = n % 4294967296
    | .angle n => field 51 1 b = 1 ∧ field 52 4 b = n % 4294967296
    | .untilEvent s => field 51 1 b = 2 ∧ field 52 1 b = s % 256 ∧ field 53 3 b = 0
    | .untilDisarm => field 51 1 b = 3 ∧ field 52 4 b = 0) ∧
  field 56 2 b = d.repeatCount.getD 0 % 65536 ∧ field 58 4 b = d.spacing.getD 0 % 4294967296

/-- Bytes with the definition of an entry's snapshot among them, if the body is one and has a definition (R150, R151). -/
def HoldsDefinition (body : Body) (bytes : List Byte) : Prop :=
  ∀ x d, body = .entry x → x.definition = some d →
    ∃ front record back, bytes = front ++ record ++ back ∧ SpellsDefinition x.entry d record

/-! ### Invariants -/

/-- The link's queues are within their sizes, and no source has two notices queued (R173, R175, R176). -/
def Part.LinkSound (p : Part) : Prop :=
  p.link.inbound.length ≤ 8 ∧ p.link.replies.length ≤ 8 ∧ (p.link.notices.map QNotice.source).Nodup

/-- Every held record has a slot of its own, and no queue holds more than 4,096 (R47). -/
def Part.StoreSound (p : Part) : Prop :=
  p.heldSlots.Nodup ∧ (∀ n ∈ p.heldSlots, n < 16384) ∧ ∀ ch ∈ p.channels, ch.queue.length ≤ 4096

/-- The capture ring holds at most 512 records, and the short budget in use is at most 8 (R93, R136). -/
def Part.RingAndBudgetSound (p : Part) : Prop := p.capture.ring.length ≤ 512 ∧ p.claims.budget ≤ 8

/-- Each class record holds a first error exactly while its count is above 0, and no count is above 65,535 (R164). -/
def ClassRecord.Sound (r : ClassRecord) : Prop := r.count ≤ 65535 ∧ (r.first.isSome = true ↔ 0 < r.count)

def Part.LogSound (p : Part) : Prop := p.log.corrected.Sound ∧ p.log.recoverable.Sound ∧ p.log.fatal.Sound

/-- What stands in an entry by its state (R126, R127): every state but EMPTY has a definition, and INSERTING and RELEASING
are states of ELECTRICAL entries. -/
def Entry.Sound (e : Entry) : Prop :=
  (e.state ≠ .empty → e.definition.isSome = true) ∧
  (e.state = .inserting ∨ e.state = .releasing → e.electrical?.isSome = true)

def Part.EntriesSound (p : Part) : Prop := ∀ e ∈ p.entries, e.Sound

/-! ### Renders and play, as the statements speak of them -/

/-- The value shown for a base value (R30, R41, R42): STUCK shows the value it took, or takes `last` at its first render;
OFFSET shows the sum held within the range. -/
def shownValue (m : Option Modifier) (base last top : Nat) : Nat :=
  match m with
  | some { entry := _, fault := .stuck, stuck := v } => (v.map Prod.fst).getD last
  | some { entry := _, fault := .offset d, stuck := _ } => min ((base : Int) + d).toNat top
  | _ => min base top

/-- The frequency a PWM period takes (R34, R41): STUCK keeps its pair, or takes `last`. -/
def shownFrequency (m : Option Modifier) (present last : Nat) : Nat :=
  match m with
  | some { entry := _, fault := .stuck, stuck := v } => (v.map Prod.snd).getD last
  | _ => present

/-- The modifier after a render (R41): STUCK takes `last` at its first render and keeps it; every other stands. -/
def takenModifier (m : Option Modifier) (last : Nat × Nat) : Option Modifier :=
  match m with
  | some { entry := e, fault := .stuck, stuck := v } => some { entry := e, fault := .stuck, stuck := some (v.getD last) }
  | _ => m

/-- Play is due on a channel at a tick: its start, its resuming, or the end of its record (R25, R54, R56, R57). -/
def Channel.PlayDue (now : Nat) (ch : Channel) : Prop :=
  (ch.state = .running ∧ ∃ t, ch.startAt = some t ∧ t ≤ now) ∨
  (ch.state = .running ∧ ch.startAt = none ∧ ∃ (pl : Play) (slot : Nat) (r : Segment), ch.play = some pl ∧
    ch.queue[pl.place]? = some { slot := slot, content := .segment r } ∧
    (match r.basis with
      | .time => pl.startTick + r.length ≤ now
      | .angle => r.length * 65536 ≤ pl.travel)) ∨
  (ch.state = .starved ∧ ch.queue ≠ [] ∧ ∃ t, ch.resumeAt = some t ∧ t ≤ now)

/-- The channel with a segment of its queue started at a place with some travel (R55). -/
def Channel.startedAt (now place travel : Nat) (r : Segment) (ch : Channel) : Channel :=
  { ch with
    play := some { place := place, startTick := now, travel := travel }
    frequency := if ch.kind = some .pwm ∧ r.secondary.isSome = true then r.secondary else ch.frequency
    startAt := none
    resumeAt := none }

/-- The low-water cause raised where pending has fallen from above the mark to at or below it (R63). -/
def Part.fallen (c before after mark : Nat) (p : Part) : Part :=
  if mark ≠ 0 ∧ mark < before ∧ after ≤ mark then p.raise (.channel c) else p

/-- A loop record held later has the record at a place in its body (R53). -/
def Retained (queue : List QRec) (place : Nat) : Prop :=
  ∃ j slot k r left broken, queue[j]? = some { slot := slot, content := .loop k r left broken } ∧ place < j ∧ j ≤ place + k

/-- A segment or loop record as R51 lets it pass. -/
def RawRecord.Good : RawRecord → Prop
  | .segment r => 1 ≤ r.length ∧ (r.basis = .angle → r.length ≤ 11796480) ∧ (r.shape = .ramp → r.endValue.isSome = true) ∧
      ∀ m, r.marker = some m → 1 ≤ m ∧ m ≤ 15
  | .loop k _ => 1 ≤ k ∧ k ≤ 64
  | .unknown _ => False

/-! ### Occurrences, as the statements speak of them -/

/-- A slot after an occurrence is raised on a tick: one more on the count and the last-occurrence record where its source
matches (R74). -/
def EventSlot.seen (o : Occurrence) (st : Stamp) (x : EventSlot) : EventSlot :=
  if x.source.matchesOcc o then { x with count := (x.count + 1) % 4294967296, last := some (st, o.origin) } else x

/-- Nothing waits on a slot that an occurrence matches (R77). -/
def Part.Unwaited (o : Occurrence) (p : Part) : Prop :=
  ∀ n < 16, (p.slot n).source.matchesOcc o = true →
    (∀ e < 128, ∀ t, (p.entry e).waiting ≠ some (.event n t) ∧ (p.entry e).untilWatch = false) ∧
    ∀ g < 8, ∀ c t, (p.group g).armed ≠ some (c, .event n t)

/-- The part with an occurrence counted on every slot that matches it. -/
def Part.counted (o : Occurrence) (p : Part) : Part := { p with slots := p.slots.map (EventSlot.seen o p.stamp) }

/-- Nothing waits on a slot that counts the marker a segment carries, if it carries one (R62). -/
def Part.MarkUnwaited (c : Nat) (r : Segment) (p : Part) : Prop := ∀ m, r.marker = some m → p.Unwaited (.segmentMark m c)

/-- The part with a segment's marker counted on every slot that watches it (R62). -/
def Part.markCounted (c : Nat) (r : Segment) (p : Part) : Part :=
  match r.marker with
  | some m => p.counted (.segmentMark m c)
  | none => p

/-- `q` is what the start of a segment leaves of `v`, which has it in play with `travel` (R55, R57, R62, R63): its marker's
occurrence with all that this brings about, the low-water test against the pending count before, its end at once where a
carry has reached its length, and the channel's render of the tick taken again; all run to its end (within the bound of
log entry 11). Where nothing waits on the marker it is counted and that is all it does. -/
def Part.Started (c travel before after mark : Nat) (r : Segment) (v q : Part) : Prop :=
  let marked : List Task := match r.marker with
    | some m => [.occur (.segmentMark m c)]
    | none => []
  let ended : List Task := if r.basis = .angle ∧ r.length * 65536 ≤ travel then [.endSegment c] else []
  (∃ n, 18446744073709551616 ≤ n + 4 ∧ q = runTasks n (marked ++ [.lowWater c before] ++ ended ++ [.renderAgain c]) v) ∧
  (¬(r.basis = .angle ∧ r.length * 65536 ≤ travel) → v.slots.length = 16 → v.MarkUnwaited c r →
    q = ((v.markCounted c r).fallen c before after mark).renderAgain c)

/-! ### The matrix and the schedule, as the statements speak of them -/

/-- The matrix has its 64 lines of seven cells (R101). -/
def Part.MatrixShaped (p : Part) : Prop := p.matrix.lines.length = 64 ∧ ∀ x ∈ p.matrix.lines, x.cells.length = 7

/-- A line with a cell commanded OPEN on a tick: its last open time, and no close held back on it (R109). -/
def Line.opened (now : Nat) (c : CellId) (x : Line) : Line :=
  { x.setCell c { x.cell c with commanded := false } with lastOpen := now, heldClose := none }

/-- A line with a cell commanded CLOSED. -/
def Line.closed (c : CellId) (x : Line) : Line :=
  { x.setCell c { x.cell c with commanded := true } with heldClose := none }

/-- A line given a close command of a fault cell (R109): not given while SAFE or LOCKOUT bars it, held back until one settle
interval after the line's last open, else given. -/
def Line.closing (barred : Bool) (now settle : Nat) (c : CellId) (x : Line) : Line :=
  if barred then x else if now < x.lastOpen + settle then { x with heldClose := some c } else x.closed c

/-- SAFE or LOCKOUT bars every close of a fault cell (R109). -/
def Part.Barred (p : Part) : Prop := p.safe.isSome = true ∨ p.matrix.state = .lockout

/-- The lines an entry's definition names that the matrix holds for it (R104). -/
def Part.heldLines (e : Nat) (d : Electrical) (p : Part) : List Nat := d.lines.filter fun l => (p.line l).state = .held e

/-- The fault cells commanded CLOSED on an entry's lines: those its release opens first (R110). -/
def Part.releaseOpens (e : Nat) (d : Electrical) (p : Part) : List (Nat × CellId) :=
  (p.heldLines e d).flatMap fun l => (d.faultCell.toList.filter fun c => (p.cell l c).commanded).map fun c => (l, c)

/-- The series cells commanded OPEN on an entry's lines: those its release closes (R110). -/
def Part.releaseCloses (e : Nat) (d : Electrical) (p : Part) : List (Nat × CellId) :=
  ((p.heldLines e d).filter fun l => !(p.cell l .series).commanded).map fun l => (l, CellId.series)

/-- An entry's release has something to command. -/
def Part.HasToRelease (e : Nat) (d : Electrical) (p : Part) : Prop := p.releaseOpens e d ≠ [] ∨ p.releaseCloses e d ≠ []

/-- What a release begun makes of its entry and of the lines held for it (R106, R110, R116, R143): the fault cells commanded
CLOSED are opened, or, with none, the series cells commanded OPEN are closed; the entry is RELEASING with its cause, and the
readback comes one settle interval later. A fast release's steps are read once, not verified. -/
def Part.Releasing (fast : Bool) (e : Nat) (d : Electrical) (cause : EndCause) (p q : Part) : Prop :=
  let now := p.clock.ticks
  let opens := p.releaseOpens e d
  let closes := p.releaseCloses e d
  let released (closing : Bool) (targets : List (Nat × CellId)) : Entry :=
    { p.entry e with
      state := .releasing, endCause := some cause, runs := [], chatter := none, untilWatch := false
      seq := some
        { phase := if closing then .closing else .opening, fast := fast, disarmed := false, broken := [], followed := none
          step := { closing := closing, verified := !fast, targets := targets, attempt := 1,
                    readAt := some (now + p.matrix.settle) } } }
  (opens ≠ [] →
    q.entry e = released false opens ∧
    ∀ l ∈ p.heldLines e d, q.line l =
      match d.faultCell with
      | some c => if (p.cell l c).commanded then (p.line l).opened now c else { p.line l with heldClose := none }
      | none => p.line l) ∧
  (opens = [] → closes ≠ [] →
    q.entry e = released true closes ∧
    ∀ l ∈ p.heldLines e d, q.line l =
      if (p.cell l .series).commanded then { p.line l with heldClose := none } else (p.line l).closed .series)

/-- A verified release begun of an entry, and nothing else but its notice. -/
def Part.ReleaseBegun (e : Nat) (d : Electrical) (cause : EndCause) (p q : Part) : Prop :=
  p.Releasing false e d cause q ∧
  (p.HasToRelease e d →
    (∀ k, k ≠ e → q.entry k = p.entry k) ∧ (∀ l, l ∉ p.heldLines e d → q.line l = p.line l) ∧
    q = { p with entries := q.entries, matrix := { p.matrix with lines := q.matrix.lines },
                 link := (p.raise (.entry e)).link })

/-- An entry whose occurrence has ended on a tick, settled to a state with its waiting form and the repeats then left (R143,
R144). -/
def Entry.ended (st : EntryState) (w : Option Waiting) (repeats time : Nat) (cause : EndCause) (x : Entry) : Entry :=
  { x with
    state := st
    waiting := w
    occurrences := min (x.occurrences + 1) 65535
    repeatsRemaining := repeats
    blockedSince := none
    deadline := none
    endCause := none
    last := x.last.map fun r => { r with endTime := some time, endCause := some cause }
    runs := []
    chatter := none
    untilWatch := false
    seq := none }

/-- The cells of an attempt read back (R101, R106 to R108): `r` is `p` with every target sensed; one that reads other than
commanded counts a no-make, holding at 255, and is WORN at the threshold. At a second or third attempt each that reads right
logs CELL_RETRY_OK, and at the end of a closing step each still open logs CELL_NO_MAKE (in this order, log entry 46). -/
def Part.Reads (step : Step) (last : Bool) (p r : Part) : Prop :=
  let wrong := p.readWrong step.closing step.targets
  let right := p.readRight step.closing step.targets
  let n (k : Nat × CellId) : Nat := min ((p.cell k.1 k.2).noMake + 1) 255
  let retried (v : Part) : Part :=
    if step.attempt < 2 then v
    else right.foldl (fun u k => u.logError .cellRetryOk (.cell k.1 k.2) step.attempt) v
  let unmade (v : Part) : Part :=
    if last = true ∧ step.closing = true then
      wrong.foldl (fun u k => u.logError .cellNoMake (.cell k.1 k.2) (n k)) v
    else v
  (∀ l < 64, ∀ c, r.cell l c =
    if (l, c) ∈ wrong then
      { commanded := (p.cell l c).commanded, sensed := some (!step.closing), noMake := n (l, c)
        worn := (p.cell l c).worn || decide (p.matrix.wearThreshold ≤ n (l, c)) }
    else if (l, c) ∈ step.targets then { p.cell l c with sensed := some step.closing }
    else p.cell l c) ∧
  (∀ l < 64, r.line l = { p.line l with cells := (r.line l).cells }) ∧
  r = { p with matrix := { p.matrix with lines := r.matrix.lines }, log := r.log, link := r.link } ∧
  ((∀ k ∈ wrong, (p.cell k.1 k.2).worn = true ∨ n k < p.matrix.wearThreshold) →
    r.log = (unmade (retried p)).log ∧ r.link = (unmade (retried p)).link) ∧
  ∀ k, wrong = [k] → (p.cell k.1 k.2).worn = false → p.matrix.wearThreshold ≤ n k →
    r.log = (unmade (retried (p.logError .cellWorn (.cell k.1 k.2) (n k)))).log

/-- The end of a release of a part `r` on its tick (R113, R136, R143, R144), with nothing BLOCKED and nothing waiting on the
entry's RELEASED phase: a LEAK entry's termination is NONE; every line still HELD by it is BROKEN, if its series cell failed to
close, or PASS; its claims are given back; RELEASED is counted, and the occurrence settles by its cause. -/
def Part.ReleaseEnded (e : Nat) (d : Electrical) (broken : List Nat) (r q : Part) : Prop :=
  let y := r.entry e
  ∀ cause : EndCause, y.endCause = some cause → (cause = .completed → y.repeatsRemaining = 0) → cause ≠ .missed →
    r.MatrixShaped → r.slots.length = 16 → (∀ k < 128, (r.entry k).state ≠ .blocked) → r.Unwaited (.entry e .released) →
    q.entry e = y.ended
      (match cause with | .completed => .done | .disarmed => .loaded | _ => .aborted) none
      (if cause = .disarmed then y.repeatsRemaining else 0) r.clock.rigTime cause ∧
    (∀ k, k ≠ e → q.entry k = r.entry k) ∧
    (∀ l < 64, q.line l =
      if l ∈ r.heldLines e d then { r.line l with state := if l ∈ broken then .broken else .pass } else r.line l) ∧
    q.matrix = { r.matrix with
      lines := q.matrix.lines
      terminations := match d.kind, d.bus with
        | .leakGnd, some b => r.matrix.terminations.set b .none
        | .leakBat, some b => r.matrix.terminations.set b .none
        | _, _ => r.matrix.terminations } ∧
    q.claims =
      { lines := r.claims.lines.map fun h => if h = some e then none else h
        buses := r.claims.buses.map fun h => if h = some e then none else h
        channels := r.claims.channels.map fun h => if h = some e then none else h
        budget := if d.kind = .shortGnd ∨ d.kind = .shortBat then r.claims.budget - d.lines.length
          else r.claims.budget } ∧
    q.slots = (r.counted (.entry e .released)).slots ∧ q.log = r.log ∧ q.channels = r.channels ∧ q.engine = r.engine

/-- Nothing but the entry itself holds a line or bus of the entry, and the short budget has room for its lines (R136). -/
def Part.ClaimsFree (e : Nat) (d : Electrical) (p : Part) : Prop :=
  (∀ l ∈ d.lines, ∀ h, p.claims.lines.getD l none = some h → h = e) ∧
  (∀ b, d.bus = some b → ∀ h, p.claims.buses.getD b none = some h → h = e) ∧
  (d.kind = .shortGnd ∨ d.kind = .shortBat → p.claims.budget + d.lines.length ≤ 8)

/-- Every line of an entry is PASS and no cell its kind needs is WORN (R111). -/
def Part.LinesReady (d : Electrical) (p : Part) : Prop :=
  ∀ l ∈ d.lines, (p.line l).state = .pass ∧ ∀ c ∈ d.neededCells, (p.cell l c).worn = false

/-- The grant and the accepted insertion of an ELECTRICAL entry that stands as `x` (R110, R111, R136, R138): INSERTING with its
granted time; its claims taken; its lines HELD; its bus terminated; and its first step under way, the series cells opened,
the fault cells closed under the laws of R109, or, for a LEAK kind without isolation, one settle interval waited. -/
def Part.Granted (e : Nat) (d : Electrical) (x : Entry) (p q : Part) : Prop :=
  let now := p.clock.ticks
  let fault : CellId :=
    match d.kind with
    | .shortGnd => .ground
    | .shortBat => .battery
    | _ => busCell (d.bus.getD 0)
  let leak : Prop := d.kind = .leakGnd ∨ d.kind = .leakBat
  let opening : Prop := d.kind = .openLine ∨ d.isolate = true ∧ d.kind ≠ .shortPin
  let waiting : Prop := leak ∧ d.isolate = false
  let rest : List InsertStep :=
    if d.kind ≠ .openLine ∧ (opening ∨ waiting) then [.closeFault fault] else []
  let heldLine (l : Nat) : Line := { p.line l with state := .held e }
  (∀ l, q.line l =
    if l ∈ d.lines then
      (if opening then (heldLine l).opened now .series
      else if waiting then heldLine l
      else (heldLine l).closing (p.safe.isSome || decide (p.matrix.state = .lockout)) now p.matrix.settle fault)
    else p.line l) ∧
  q.entry e =
    { x with
      state := .inserting, waiting := none, blockedSince := none
      last := x.last.map fun r => { r with grantedTime := some p.clock.rigTime }
      seq := some
        { phase := .inserting rest, fast := false, disarmed := false, broken := [], followed := none
          step :=
            { closing := !decide (opening ∨ waiting), verified := true, attempt := 1
              targets := if opening then d.lines.map fun l => (l, .series)
                else if waiting then [] else d.lines.map fun l => (l, fault)
              readAt := if (opening ∨ waiting) ∨ ∀ l ∈ d.lines, (q.line l).heldClose = none then
                some (now + p.matrix.settle) else none } } } ∧
  (∀ k, k ≠ e → q.entry k = p.entry k) ∧
  q.matrix = { p.matrix with
    lines := q.matrix.lines
    terminations := match d.kind, d.bus with
      | .shortPin, some b => p.matrix.terminations.set b .none
      | .leakGnd, some b => p.matrix.terminations.set b (.resistorGnd (d.resistance.getD 0))
      | .leakBat, some b => p.matrix.terminations.set b (.resistorBat (d.resistance.getD 0))
      | _, _ => p.matrix.terminations } ∧
  (∀ l < 64, q.claims.lines.getD l none = if l ∈ d.lines then some e else p.claims.lines.getD l none) ∧
  (∀ b < 4, q.claims.buses.getD b none = if d.bus = some b then some e else p.claims.buses.getD b none) ∧
  q.claims.channels = p.claims.channels ∧
  q.claims.budget = p.claims.budget + (if d.kind = .shortGnd ∨ d.kind = .shortBat then d.lines.length else 0) ∧
  q = { p with entries := q.entries, matrix := q.matrix, claims := q.claims, link := (p.raise (.entry e)).link }

/-- The grant of a SIGNAL entry that stands as `x` (R136, R139): ACTIVE with the tick's stamp and its own ACTIVE occurrence
counted, its channel claimed and holding the modifier. -/
def Part.SignalGranted (e c : Nat) (f : SigFault) (x : Entry) (p q : Part) : Prop :=
  q.entry e = { x with
    state := .active, waiting := none, blockedSince := none, activeTick := p.clock.ticks, travel := 0, untilWatch := true
    last := x.last.map fun r => { r with grantedTime := some p.clock.rigTime, start := some p.stamp } } ∧
  (∀ k, k ≠ e → q.entry k = p.entry k) ∧
  q.channel c = { p.channel c with modifier := some { entry := e, fault := f, stuck := none } } ∧
  (∀ k, k ≠ c → q.channel k = p.channel k) ∧
  q.claims = { p.claims with channels := p.claims.channels.set c (some e) } ∧
  q.slots = (p.counted (.entry e .active)).slots ∧ q.matrix = p.matrix ∧ q.log = p.log

/-- The end of an ACTIVE SIGNAL entry's occurrence (R136, R143, R144, R149), with nothing BLOCKED and nothing waiting on its
RELEASED phase: settled by its cause, its channel free of the modifier and its claim given back. -/
def Part.SignalEnded (e c : Nat) (cause : EndCause) (p q : Part) : Prop :=
  let x := p.entry e
  (cause = .completed → x.repeatsRemaining = 0) → cause ≠ .missed → p.entries.length = 128 → p.slots.length = 16 →
  (∀ k < 128, (p.entry k).state ≠ .blocked) → p.Unwaited (.entry e .released) →
    q.entry e = x.ended
      (match cause with | .completed => .done | .disarmed => .loaded | _ => .aborted) none
      (if cause = .disarmed then x.repeatsRemaining else 0) p.clock.rigTime cause ∧
    (∀ k, k ≠ e → q.entry k = p.entry k) ∧
    (∀ k, q.channel k = if k = c ∧ ((p.channel k).modifier.map Modifier.entry) = some e then
      { p.channel k with modifier := none } else p.channel k) ∧
    q.claims = { p.claims with
      lines := p.claims.lines.map fun h => if h = some e then none else h
      buses := p.claims.buses.map fun h => if h = some e then none else h
      channels := p.claims.channels.map fun h => if h = some e then none else h } ∧
    q.slots = (p.counted (.entry e .released)).slots ∧ q.matrix = p.matrix ∧ q.log = p.log ∧ q.engine = p.engine

/-- An ARMED entry as its becoming due leaves it (R134, R135): its due point written, its deadline counted from the due point of
a NOW or AT_TIME condition and from the tick of any other, and a last-insertion record begun. -/
def Part.dueEntry (e point : Nat) (d : EntryDef) (p : Part) : Entry :=
  { p.entry e with
    duePoint := some point
    deadline := d.latestStart.map fun n =>
      (match d.condition with | .now => point | .atTime _ => point | _ => p.clock.ticks) + n
    endCause := none
    last := some { dueTime := p.clock.rigTime, grantedTime := none, start := none, endTime := none, endCause := none,
                   tripSense := none, tripCurrent := none } }

/-- No ARMED entry of lower number waits for a time that has come, so none is due before this one (R137). -/
def Part.NoneBefore (e : Nat) (p : Part) : Prop :=
  ∀ k < e, (p.entry k).state = .armed → ∀ u, (p.entry k).waiting = some (.time u) →
    p.clock.rigTime < min u 281474976710655

/-- Welds have locked the matrix out (R105, R119): LOCKOUT, and each welded line ISOLATED with its clear mark clear and its
readback one settle interval after the tick. -/
def Part.LockedOut (welds : List (Nat × CellId)) (p q : Part) : Prop :=
  q.matrix.state = .lockout ∧ ∀ w ∈ welds, (q.line w.1).state = .isolated false ∧
    ∃ i, (q.line w.1).isolation = some i ∧ i.readAt = p.clock.ticks + p.matrix.settle

/-- An entry whose occurrence has ended on a tick in SAFE, settled by its cause (R144): repeats that would arm it leave it
LOADED (that they fall by one there is log entry 23). -/
def Entry.endedInSafe (time : Nat) (cause : EndCause) (x : Entry) : Entry :=
  match cause with
  | .completed =>
    x.ended (if 0 < x.repeatsRemaining then .loaded else .done) none (x.repeatsRemaining - 1) time cause
  | .missed => x.ended (if 0 < x.repeatsRemaining then .loaded else .done) none (x.repeatsRemaining - 1) time cause
  | .disarmed => x.ended .loaded none x.repeatsRemaining time cause
  | _ => x.ended .aborted none 0 time cause

/-- An entry's release would end at once: no fault cell of it is commanded CLOSED and no series cell OPEN (R110). -/
def Part.releasesAtOnce (e : Nat) (d : Electrical) (p : Part) : Bool :=
  (p.releaseOpens e d).isEmpty && (p.releaseCloses e d).isEmpty

/-- The entries that hold claims and whose occurrence ends on the tick of entry to SAFE, in number order (R136, R147): SIGNAL
ones ACTIVE, and ELECTRICAL ones INSERTING or ACTIVE whose fast release has nothing to command. -/
def Part.endsInSafe (p : Part) : List Nat :=
  (List.range 128).filter fun e =>
    let x := p.entry e
    match x.electrical?, x.state with
    | some d, .inserting => (p.holdBackCloses e).releasesAtOnce e d
    | some d, .active => p.releasesAtOnce e d
    | none, .active => x.endCause.isNone
    | _, _ => false

/-- What entry to SAFE makes of one entry `x` of number `e` (R114, R116, R144, R147): ARMED is LOADED; BLOCKED has ended with
cause SAFE; INSERTING or ACTIVE and ELECTRICAL it is RELEASING in a fast release with cause SAFE, unless one is recorded,
the closes of a step begun on the tick itself counting as not given (log entry 40), or, with nothing to command, has ended,
its lines PASS; ACTIVE and SIGNAL it has ended with cause SAFE; any other stays. -/
def Part.SafeEntry (e : Nat) (p q : Part) : Prop :=
  let x := p.entry e
  let cause := x.endCause.getD .safe
  let passed (v : Part) (d : Electrical) : Prop :=
    q.entry e = x.endedInSafe p.clock.rigTime cause ∧
    ∀ l ∈ p.heldLines e d, l < p.matrix.lines.length → q.line l = { v.line l with state := .pass, heldClose := none }
  (x.state = .armed → q.entry e = { x with state := .loaded, waiting := none }) ∧
  (x.state = .blocked → q.entry e = x.endedInSafe p.clock.rigTime cause) ∧
  (∀ d, x.electrical? = some d → x.state = .inserting →
    let v := p.holdBackCloses e
    (v.HasToRelease e d → v.Releasing true e d cause q) ∧ (¬v.HasToRelease e d → passed v d)) ∧
  (∀ d, x.electrical? = some d → x.state = .active →
    (p.HasToRelease e d → p.Releasing true e d cause q) ∧ (¬p.HasToRelease e d → passed p d)) ∧
  (∀ c f, x.signal? = some (c, f) → x.state = .active → x.endCause = none →
    q.entry e = x.ended .aborted none 0 p.clock.rigTime .safe) ∧
  (x.state = .empty ∨ x.state = .loaded ∨ x.state = .releasing ∨ x.state = .done ∨ x.state = .aborted → q.entry e = x)

/-- The causes that entry to SAFE raises, on a part otherwise as it was before, in the order of log entry 22: the guard's
(R160); those of the ARMED and BLOCKED entries (R151); those of the ARMED groups (R86); of the ELECTRICAL entries that become
RELEASING and then of those that have ended (R151); those of the channels that become HELD (R45); and the engine's where its
mode or motion status changes (R18, R20; one cause where both do, log entry 48). An occurrence that ends MISSED is logged
before its entry's cause (R135); no command leaves an entry with that cause recorded. -/
def Part.safeRaised (p : Part) : Part :=
  let ended (v : Part) (e : Nat) : Part :=
    (if (p.entry e).endCause = some .missed then
      v.logError .entryMissed (.entry e) (min ((p.entry e).occurrences + 1) 65535)
    else v).raise (.entry e)
  let waits := (List.range 128).foldl (fun v e =>
    match (p.entry e).state with
    | .armed => v.raise (.entry e)
    | .blocked => ended v e
    | _ => v) (p.raise .guard)
  let groups := (List.range 8).foldl (fun v g => if (p.group g).armed.isSome then v.raise (.group g) else v) waits
  let releases := (List.range 128).foldl (fun v e =>
    if (p.entry e).electrical?.isSome ∧ ((p.entry e).state = .inserting ∨ (p.entry e).state = .active) then
      v.raise (.entry e)
    else v) groups
  let ends := p.endsInSafe.foldl ended releases
  let channels := (List.range 32).foldl (fun v c =>
    if (p.channel c).state = .off ∨ (p.channel c).state = .held then v else v.raise (.channel c)) ends
  if p.engine.mode = .track ∨
      p.engine.mode = .fixed ∧ p.engine.motion ≠ (if p.engine.internal = 0 then .stopped else .ramping) then
    channels.raise .engine
  else channels

/-- What entry to SAFE on a tick makes of a part `p` (R157, R18, R29, R85, R147), with the causes it raises (R20, R45, R86, R151,
R160). The clauses on what the entries' ends bring about are for parts whose entries are sound. -/
structure EnteredSafe (cause : SafeCause) (p q : Part) : Prop where
  safe         : q.safe = some { cause := cause, time := p.clock.rigTime }
  unarmed      : ∀ e ∈ q.entries, e.state ≠ .armed
  waitless     : p.EntriesSound → ∀ e ∈ q.entries, e.state ≠ .blocked ∧ e.state ≠ .inserting ∧
    (e.electrical?.isSome = true → e.state ≠ .active)
  entries      : p.EntriesSound → ∀ e < 128, p.SafeEntry e q
  groups       : ∀ g < 8, q.group g = { p.group g with armed := none }
  off          : ∀ c < 32, (p.channel c).state = .off →
    q.channel c = { p.channel c with modifier := (q.channel c).modifier }
  held         : ∀ c < 32, (p.channel c).state ≠ .off → q.channel c =
    { p.channel c with
      state := .held, queue := [], play := none, starvedAt := none, startAt := none, resumeAt := none
      frequency := (p.channel c).config.bind ChConfig.pwmFrequency
      modifier := (q.channel c).modifier, pin := p.pinOf c (p.channel c) }
  modifiers    : p.EntriesSound → ∀ c < 32, (q.channel c).modifier = (p.channel c).modifier.filter fun m =>
    !(p.endsInSafe.contains m.entry && decide ((p.entry m.entry).signal?.map Prod.fst = some c))
  fixed        : p.engine.mode = .fixed → q.engine = { p.engine with
    target := 0, rampRate := p.guard.safeRate, motion := if p.engine.internal = 0 then .stopped else .ramping }
  track        : p.engine.mode = .track → q.engine = { p.engine with
    mode := .fixed, trackChannel := none, internal := p.engine.speed * 1000, target := 0
    rampRate := p.guard.safeRate, motion := if p.engine.speed = 0 then .stopped else .ramping }
  follow       : p.engine.mode = .follow → q.engine = p.engine
  raised       : p.EntriesSound → q.link = p.safeRaised.link ∧ q.log = p.safeRaised.log
  slots        : p.EntriesSound → p.slots.length = 16 →
    q.slots = (p.endsInSafe.foldl (fun v e => v.counted (.entry e .released)) p).slots
  claims       : p.EntriesSound → q.claims =
    { lines := p.claims.lines.map fun h => h.filter fun e => !p.endsInSafe.contains e
      buses := p.claims.buses.map fun h => h.filter fun e => !p.endsInSafe.contains e
      channels := p.claims.channels.map fun h => h.filter fun e => !p.endsInSafe.contains e
      budget := p.claims.budget - (p.endsInSafe.map fun e =>
        match (p.entry e).electrical? with
        | some d => if d.kind = .shortGnd ∨ d.kind = .shortBat then d.lines.length else 0
        | none => 0).sum }
  lines        : p.EntriesSound → ∀ l,
    (∀ e < 128, (p.entry e).electrical?.isSome = true → (p.entry e).state = .inserting ∨ (p.entry e).state = .active →
      (p.line l).state ≠ .held e) → q.line l = p.line l
  terminations : p.EntriesSound → q.matrix.terminations = p.endsInSafe.foldl (fun ts e =>
    match (p.entry e).electrical? with
    | some d =>
      match d.kind, d.bus with
      | .leakGnd, some b => ts.set b .none
      | .leakBat, some b => ts.set b .none
      | _, _ => ts
    | none => ts) p.matrix.terminations
  rest         : q = { p with
    safe := q.safe, entries := q.entries, groups := q.groups, channels := q.channels, engine := q.engine
    slots := q.slots, claims := q.claims, log := q.log, link := { p.link with notices := q.link.notices }
    matrix := { p.matrix with lines := q.matrix.lines, terminations := q.matrix.terminations } }

/-- A duration of an ACTIVE entry has ended (R140, R143, R144): an ELECTRICAL entry with something to command begins its
release with cause COMPLETED; a SIGNAL entry without repeats ends at once. -/
def Part.CompletedEnd (e : Nat) (p q : Part) : Prop :=
  let x := p.entry e
  (∀ d, x.electrical? = some d → p.ReleaseBegun e d .completed q) ∧
  (∀ c f, x.signal? = some (c, f) → p.SignalEnded e c .completed q)

/-- A condition record as R68 lets it pass (a time above 2^48 − 1 it does not, log entry 50). -/
def GoodCondition : RawCondition → Prop
  | .now => True
  | .atTime t => t ≤ 281474976710655
  | .atAngle a f => a ≤ 46079 ∧ ∀ n ∈ f, n ≤ 4294967295
  | .onEvent s n => s ≤ 15 ∧ 1 ≤ n ∧ n ≤ 65535
  | .unknown _ => False

/-- The common fields of a definition as R128 and R129 let them pass. -/
def GoodCommon (r : RawEntry) : Prop :=
  GoodCondition r.condition ∧ (∀ n ∈ r.latestStart, n ≤ 4294967295) ∧
  (match r.duration with
    | .time n => 1 ≤ n ∧ n ≤ 4294967295
    | .angle n => 1 ≤ n ∧ n ≤ 11796480
    | .untilEvent s => s ≤ 15
    | .untilDisarm => True
    | .unknown _ => False) ∧
  (∀ n ∈ r.repeatCount, n ≤ 65535) ∧
  ∀ n ∈ r.spacing, match r.condition with
    | .atAngle _ _ => n ≤ 65535
    | .onEvent _ _ => 1 ≤ n ∧ n ≤ 65535
    | _ => n ≤ 4294967295

/-- The class fields of an ELECTRICAL definition as R127 and R129 let them pass under a settle interval. -/
def GoodElectrical (settle : Nat) (r : RawElectrical) : Prop :=
  let lines := r.lines.take r.lineCount
  r.kind ≤ 5 ∧ 1 ≤ r.lineCount ∧ r.lineCount ≤ 8 ∧ (∀ l ∈ lines, l < 64) ∧ lines.Nodup ∧ (r.kind = 3 → 2 ≤ r.lineCount) ∧
  (3 ≤ r.kind → r.bus ≤ 3) ∧ (4 ≤ r.kind → r.resistance ≤ 15) ∧
  (r.kind ≠ 0 → (∀ n ∈ r.tripLimit, 100 ≤ n ∧ n ≤ 8000) ∧ ∀ n ∈ r.tripTime, 50 ≤ n ∧ n ≤ 100000) ∧
  ∀ c ∈ r.chatter, r.kind ≤ 2 ∧ 2 * settle ≤ c.onTime ∧ c.onTime ≤ 1000000 ∧ 2 * settle ≤ c.offTime ∧ c.offTime ≤ 1000000

/-- The class fields of a SIGNAL definition as R128 and R129 let them pass; the kind its channel has, if any, bounds an
OFFSET value. -/
def GoodSignal (kind : Option Kind) (r : RawSignal) : Prop :=
  r.channel ≤ 31 ∧
  match r.kind with
  | 0 => True
  | 1 => ∀ k ∈ kind, k ≠ .wheel → r.value.natAbs ≤ k.top
  | 2 => r.position ≤ 119 ∧ 1 ≤ r.count ∧ r.count ≤ 120
  | 3 => r.value.natAbs ≤ 46079
  | _ => False

end Sys2Proof.Machine
end

