-- ==== Sys2Proof/Certificates/Slice0/Obligations.lean ====
section
/-! DEFINITION. The statements about the part, one definition each; OBLIGATIONS.json says what each formalises. A statement that
names several commands is the conjunction of the claims that stand before it.

A request's statement is about `p`, the part as the interpreter hands it to the block (`Part.taken`), for every tag but 0,
which the interpreter refuses itself. Where a right-hand side is the whole next state it is the frame as well. -/

section

open Sys2Proof Sys2Proof.Machine

/-! ### The step and the interpreter -/

/-- The front command runs on the state with the rest of the queue, and an empty queue idles (log entry 8). -/
def Obligations.StepTakesFront : Prop :=
  (∀ (c : Instr) (s : State), step { s with pending := c :: s.pending } = exec c s) ∧
  ∀ s : State, s.pending = [] → step s = .next s

/-- Every well-formed command completes, no command is refused a meaning, and the only fault is that of an event naming a
unit the part does not have. -/
def Obligations.EveryCommandCompletes : Prop :=
  ∀ (c : Instr) (s : State),
    (c.wf = true → ∃ t, exec c s = .next t ∧ t.pending = s.pending) ∧
    (∀ r, exec c s ≠ .refused r) ∧
    ∀ f, exec c s = .fault f → f = .noSuchUnit ∧ c.wf = false

/-- When the interpreter takes a request command, and the part its block is handed (R174; the empty inbound queue is log
entry 3). -/
def Sys2Proof.Claims.InterpreterTake : Prop :=
  ∀ (c : Instr) (tag : Nat) (s : State), requestTag c = some tag →
    (s.part.takes c = true ↔
      s.part.link.replies.length < 8 ∧ s.part.link.resetPending = false ∧
        ∀ f ∈ s.part.link.inbound.head?, decodeFrame f = c) ∧
    (s.part.takes c = false → exec c s = .next s) ∧
    (∀ f rest, s.part.takes c = true → s.part.link.inbound = f :: rest →
      s.part.taken c = { s.part with link := { s.part.link with inbound := rest } })

/-- The interpreter's three refusals of a taken frame, in order (R174). -/
def Sys2Proof.Claims.EnvelopeRefusals : Prop :=
  ∀ (f : Frame) (rest : List Frame) (s : State),
    s.part.link.replies.length < 8 → s.part.link.resetPending = false → s.part.link.inbound = f :: rest →
    let p : Part := { s.part with link := { s.part.link with inbound := rest } }
    (f.tag = 0#8 →
      exec (.badKind f) s =
        .next (s.replied p 0 (.refuse { code := .badField, field := 0, position := 0, named := none }))) ∧
    (f.tag ≠ 0#8 → lengthAllowed f.kind.toNat f.body.length = none →
      exec (.badKind f) s =
        .next (s.replied p f.tag.toNat (.refuse { code := .badKind, field := 0, position := 0, named := none }))) ∧
    (f.tag ≠ 0#8 → lengthAllowed f.kind.toNat f.body.length = some false →
      exec (.badKind f) s =
        .next (s.replied p f.tag.toNat (.refuse { code := .badLength, field := 0, position := 0, named := none }))) ∧
    (f.tag ≠ 0#8 → lengthAllowed f.kind.toNat f.body.length = some true → exec (.badKind f) s = .next s)

/-- A few bodies written out from 10.8 spell the requests they stand for. -/
def Sys2Proof.Claims.BodiesSpellRequests : Prop :=
  decodeFrame { kind := 0x07#8, tag := 9#8, body := [0x00#8, 0x01#8, 0x02#8, 0x03#8] } = .keepalive 9 66051 ∧
  decodeFrame { kind := 0x11#8, tag := 1#8, body := [0x9C#8, 0x40#8, 0x03#8, 0xE8#8] } = .engineSpeed 1 40000 1000 ∧
  decodeFrame { kind := 0x06#8, tag := 2#8, body := [0x02#8, 0xFF#8, 0xFF#8, 0x13#8, 0x88#8] } =
    .guardSet 2 none (some 5000) ∧
  decodeFrame { kind := 0x32#8, tag := 3#8, body := [] } = .matrixGet 3 none ∧
  decodeFrame { kind := 0x32#8, tag := 3#8, body := [0x3F#8] } = .matrixGet 3 (some 63) ∧
  decodeFrame { kind := 0x20#8, tag := 4#8, body := [0x05#8, 0x03#8, 0xB3#8, 0xFF#8, 0x00#8, 0x00#8] } =
    .slotConfig 4 5 3 0xB3 0xFF ∧
  decodeFrame { kind := 0x0A#8, tag := 4#8, body := [] } = .badKind { kind := 0x0A#8, tag := 4#8, body := [] }

/-- When the interpreter takes a request, its three refusals of a taken frame, and a few bodies of 10.8 with the requests they
spell. -/
def Obligations.RequestsTakenOrRefused : Prop := Claims.InterpreterTake ∧ Claims.EnvelopeRefusals ∧ Claims.BodiesSpellRequests

/-- A request that is taken gets one reply with its tag, at the tail of the queue; a refusal changes nothing else; the tag
0 is refused BAD_FIELD with index 0 (R174, R175). -/
def Obligations.OneReplyPerRequest : Prop :=
  ∀ (c : Instr) (tag : Nat) (s : State), requestTag c = some tag → s.part.takes c = true →
    ∃ (a : Answer) (t : State), exec c s = .next t ∧
      t.part.link.replies = s.part.link.replies ++ [{ tag := tag, answer := a }] ∧
      (∀ r, a = .refuse r → t = s.replied (s.part.taken c) tag a) ∧
      (tag = 0 → a = .refuse { code := .badField, field := 0, position := 0, named := none })

/-! ### Notices and the error log -/

/-- Raising a cause (R176): nothing at level 7; one more repeat, holding at 65,535, where the source's notice is queued;
else a notice with repeat count 1 and the tick's rig time joins the queue. -/
def Obligations.CauseRaised : Prop :=
  ∀ (src : NoticeSource) (p : Part),
    (p.link.levels.of src = 7 → p.raise src = p) ∧
    (p.link.levels.of src ≠ 7 → (∀ n ∈ p.link.notices, n.source ≠ src) →
      p.raise src =
        { p with link := { p.link with
          notices := p.link.notices ++ [{ source := src, repeats := 1, age := p.clock.rigTime }] } }) ∧
    (p.link.levels.of src ≠ 7 → ∀ (front back : List QNotice) (n : QNotice),
      p.link.notices = front ++ n :: back → n.source = src →
      (∀ m ∈ front ++ back, m.source ≠ src) →
      p.raise src =
        { p with link := { p.link with
          notices := front ++ { n with repeats := min (n.repeats + 1) 65535 } :: back } })

/-- A logging (R164): the first of its class becomes the first-error record; a later one raises the count, which holds at
65,535, and joins the later-code set; the other classes stand, and the class raises its notice. -/
def Obligations.LoggingTaken : Prop :=
  ∀ (code : ErrCode) (subject : Subject) (detail : Int) (p : Part),
    let g : Logging := { code := code, subject := subject, detail := detail,
                         stamp := { time := p.clock.rigTime, angle := p.engine.acc / 65536, cycle := p.engine.cycle } }
    ∃ r : ClassRecord,
      p.logError code subject detail =
        ({ p with log := p.log.write r code.cls }).raise (.cls code.cls) ∧
      ((p.log.of code.cls).count = 0 → r = { count := 1, first := some g, later := [] }) ∧
      ((p.log.of code.cls).count ≠ 0 →
        r.count = min ((p.log.of code.cls).count + 1) 65535 ∧ r.first = (p.log.of code.cls).first ∧
        ∀ c : ErrCode, c ∈ r.later ↔ c.cls = code.cls ∧ (c = code ∨ c ∈ (p.log.of code.cls).later))

/-- ERRLOG_GET and ERRLOG_CLEAR (R163, R166, R167, R168): beside a record stands the name of the place of a CELL_WELDED it
holds as its first error. -/
def Sys2Proof.Claims.LogReadAndCleared : Prop :=
  (∀ (tag : Nat) (s : State), s.part.takes (.errlogGet tag) = true → tag ≠ 0 →
    let p := s.part.taken (.errlogGet tag)
    exec (.errlogGet tag) s =
      .next (s.replied p tag (.ack (.errorLog
        (decide (0 < p.log.corrected.count ∨ 0 < p.log.recoverable.count ∨ 0 < p.log.fatal.count))
        p.log.corrected p.log.recoverable p.log.fatal p.log.fatal.named)))) ∧
  ∀ (tag cls : Nat) (s : State), s.part.takes (.errlogClear tag cls) = true → tag ≠ 0 →
    let p := s.part.taken (.errlogClear tag cls)
    let none' : ClassRecord := { count := 0, first := none, later := [] }
    exec (.errlogClear tag cls) s =
      .next (match cls with
        | 0 => s.replied { p with log := { p.log with corrected := none' } } tag
            (.ack (.errorClass .corrected p.log.corrected p.log.corrected.named))
        | 1 => s.replied { p with log := { p.log with recoverable := none' } } tag
            (.ack (.errorClass .recoverable p.log.recoverable p.log.recoverable.named))
        | 2 => s.replied { p with log := { p.log with fatal := none' } } tag
            (.ack (.errorClass .fatal p.log.fatal p.log.fatal.named))
        | _ => s.replied p tag (.refuse { code := .badField, field := 1, position := 0, named := none }))

/-- STATUS_GET and LINK_RESET (R166, R181, R182). The revision code is a constant the manual does not give (log entry 2). -/
def Sys2Proof.Claims.StatusAndLinkReset : Prop :=
  (∀ (tag : Nat) (s : State), s.part.takes (.statusGet tag) = true → tag ≠ 0 →
    let p := s.part.taken (.statusGet tag)
    exec (.statusGet tag) s =
      .next (s.replied p tag (.ack (.status
        { partCode := 3264
          revision := Config.revision
          rigTime := p.clock.rigTime
          safeCause := p.safe.map SafeInfo.cause
          guardOn := p.guard.period.isSome
          matrixState := p.matrix.state
          mode := p.engine.mode
          motion := p.engine.motion
          speed := p.engine.speed
          angle := p.engine.acc / 65536
          cycle := p.engine.cycle
          freeSlots := 16384 - (p.channels.map fun ch => ch.queue.length).sum
          summary := decide (0 < p.log.corrected.count ∨ 0 < p.log.recoverable.count ∨ 0 < p.log.fatal.count)
          resetCause := p.link.resetCause
          inbound := p.link.inbound.length
          replies := p.link.replies.length
          notices := p.link.notices.length
          counters := p.link.counters })))) ∧
  ∀ (tag : Nat) (s : State), s.part.takes (.linkReset tag) = true → tag ≠ 0 →
    let p := s.part.taken (.linkReset tag)
    exec (.linkReset tag) s =
      .next (s.replied { p with link := { p.link with resetPending := true } } tag
        (.ack (.linkReset p.clock.rigTime)))

/-- ERRLOG_GET, ERRLOG_CLEAR, STATUS_GET and LINK_RESET. -/
def Obligations.StatusAndLogRead : Prop := Claims.LogReadAndCleared ∧ Claims.StatusAndLinkReset

/-! ### The rig link -/

/-- NOTICE_LEVEL (R177): the checks, the levels written, and, at level 7, the named sources' notices removed. The order of the
checks is log entry 47. -/
def Obligations.NoticeLevelWritten : Prop :=
  ∀ (tag kind index level : Nat) (s : State),
    s.part.takes (.noticeLevel tag kind index level) = true → tag ≠ 0 →
    let p := s.part.taken (.noticeLevel tag kind index level)
    let bad (i : Nat) : Answer := .refuse { code := .badField, field := i, position := 0, named := none }
    let limit : Nat := if kind = 2 then 3 else if kind = 4 then 128 else if kind = 5 then 32 else if kind = 6 then 8 else 0
    (9 < kind → exec (.noticeLevel tag kind index level) s = .next (s.replied p tag (bad 1))) ∧
    (kind ≤ 9 → limit ≠ 0 → limit ≤ index → index ≠ 255 →
      exec (.noticeLevel tag kind index level) s = .next (s.replied p tag (bad 2))) ∧
    (kind ≤ 9 → (limit ≠ 0 → index < limit ∨ index = 255) → 7 < level →
      exec (.noticeLevel tag kind index level) s = .next (s.replied p tag (bad 3))) ∧
    (kind ≤ 9 → (limit ≠ 0 → index < limit ∨ index = 255) → level ≤ 7 →
      p.link.levels.entries.length = 128 → p.link.levels.channels.length = 32 → p.link.levels.groups.length = 8 →
      ∃ (v : Levels) (named : NoticeSource → Bool),
        exec (.noticeLevel tag kind index level) s =
          .next (s.replied
            { p with link := { p.link with
              levels := v
              notices := if level = 7 then p.link.notices.filter (fun n => !named n.source) else p.link.notices } }
            tag (.ack (.noticeLevel kind index level))) ∧
        (∀ src, named src = true ↔
          match src with
          | .part => kind = 0
          | .guard => kind = 1
          | .cls .corrected => kind = 2 ∧ (index = 0 ∨ index = 255)
          | .cls .recoverable => kind = 2 ∧ (index = 1 ∨ index = 255)
          | .cls .fatal => kind = 2 ∧ (index = 2 ∨ index = 255)
          | .matrix => kind = 3
          | .entry n => kind = 4 ∧ n < 128 ∧ (index = n ∨ index = 255)
          | .channel n => kind = 5 ∧ n < 32 ∧ (index = n ∨ index = 255)
          | .group n => kind = 6 ∧ n < 8 ∧ (index = n ∨ index = 255)
          | .capture => kind = 7
          | .engine => kind = 8
          | .link => kind = 9) ∧
        ∀ src, v.of src = if named src then level else p.link.levels.of src)

/-- A character that arrives with its stop bit (R171, R172): in HUNT it begins a frame or is counted; in a frame within its
time it is stored while the frame is not complete and its length not too long; at the time limit, or past it, the frame is
discarded as truncated and the character taken in HUNT, unless it completes the frame on the limit's own tick (log
entry 9). -/
def Sys2Proof.Claims.CharactersReceived : Prop :=
  ∀ (char : Byte) (s : State),
    (s.part.link.receiver = .hunt →
      exec (.characterReceived char) s =
        .next (s.withPart { s.part with link :=
          if char = 0xD5#8 then { s.part.link with receiver := .frame s.part.clock.ticks [char] }
          else { s.part.link with
            counters := { s.part.link.counters with
              huntBytes := min (s.part.link.counters.huntBytes + 1) 4294967295 } } })) ∧
    (∀ start bytes, s.part.link.receiver = .frame start bytes → s.part.clock.ticks < start + 2000 →
      frameComplete (bytes ++ [char]) = false → lengthTooLong (bytes ++ [char]) = false →
      exec (.characterReceived char) s =
        .next (s.withPart { s.part with link := { s.part.link with receiver := .frame start (bytes ++ [char]) } })) ∧
    (∀ start bytes, s.part.link.receiver = .frame start bytes → start + 2000 ≤ s.part.clock.ticks →
      (frameComplete (bytes ++ [char]) = false ∨ start + 2000 < s.part.clock.ticks) →
      let k := s.part.link.counters
      let q := s.part.logError .linkTruncated .link bytes.length
      let q' := ({ q with link := { q.link with counters :=
        { k with truncations := min (k.truncations + 1) 4294967295 } } }).raise .link
      exec (.characterReceived char) s =
        .next (s.withPart { q' with link :=
          if char = 0xD5#8 then { q'.link with receiver := .frame s.part.clock.ticks [char] }
          else { q'.link with
            receiver := .hunt
            counters := { q'.link.counters with huntBytes := min (k.huntBytes + 1) 4294967295 } } }))

/-- A frame's last check byte (R173): a frame that fails its CRC or meets a full queue is discarded, logged and counted
with the kind byte as detail, and any other joins the queue; the receiver returns to HUNT. -/
def Sys2Proof.Claims.FrameCompleted : Prop :=
  ∀ (last : Byte) (start : Nat) (bytes : List Byte) (s : State),
    s.part.link.receiver = .frame start bytes → s.part.clock.ticks ≤ start + 2000 →
    frameComplete (bytes ++ [last]) = true →
    let whole := bytes ++ [last]
    let n := announcedLength whole
    let good := (crc16 ((whole.drop 1).take (4 + n))).toNat = field (5 + n) 2 whole
    let k := s.part.link.counters
    let discarded (code : ErrCode) (k' : Counters) : Part :=
      let q := s.part.logError code .link (field 3 1 whole)
      let q' := ({ q with link := { q.link with counters := k' } }).raise .link
      { q' with link := { q'.link with receiver := .hunt } }
    exec (.frameReceived last) s = exec (.characterReceived last) s ∧
    (¬good →
      exec (.frameReceived last) s =
        .next (s.withPart (discarded .linkCheck { k with checkErrors := min (k.checkErrors + 1) 4294967295 }))) ∧
    (good → 8 ≤ s.part.link.inbound.length →
      exec (.frameReceived last) s =
        .next (s.withPart (discarded .linkOverrun { k with overruns := min (k.overruns + 1) 4294967295 }))) ∧
    (good → s.part.link.inbound.length < 8 →
      exec (.frameReceived last) s =
        .next (s.withPart { s.part with link := { s.part.link with
          receiver := .hunt
          inbound := s.part.link.inbound ++
            [{ kind := whole.getD 3 0#8, tag := whole.getD 4 0#8, body := (whole.drop 5).take n }]
          counters := { k with framesReceived := min (k.framesReceived + 1) 4294967295 } } }))

/-- Framing errors, lengths above 1,024 and truncation (R171, R172), each with its detail and its counter. At the time limit
a framing error or a length finds the frame truncated first (log entry 9). -/
def Sys2Proof.Claims.FramesDiscarded : Prop :=
  ∀ (s : State),
    let k := s.part.link.counters
    let k' : Counters := { k with framingErrors := min (k.framingErrors + 1) 4294967295 }
    let discarded (code : ErrCode) (detail : Nat) (k' : Counters) : Part :=
      let q := s.part.logError code .link detail
      let q' := ({ q with link := { q.link with counters := k' } }).raise .link
      { q' with link := { q'.link with receiver := .hunt } }
    (s.part.link.receiver = .hunt →
      exec .linkFraming s = .next (s.withPart { s.part with link := { s.part.link with counters := k' } })) ∧
    (∀ start bytes, s.part.link.receiver = .frame start bytes →
      (s.part.clock.ticks < start + 2000 →
        exec .linkFraming s = .next (s.withPart (discarded .linkFraming bytes.length k'))) ∧
      (∀ second, bytes.length = 2 → 1024 < field 1 2 (bytes ++ [second]) →
        exec (.frameLengthError second) s = exec (.characterReceived second) s ∧
        (s.part.clock.ticks < start + 2000 →
          exec (.frameLengthError second) s = .next (s.withPart (discarded .linkFraming 3 k')))) ∧
      (start + 2000 ≤ s.part.clock.ticks →
        let q := discarded .linkTruncated bytes.length { k with truncations := min (k.truncations + 1) 4294967295 }
        exec .linkTruncated s = .next (s.withPart q) ∧
        exec .linkFraming s = .next (s.withPart { q with link := { q.link with counters :=
          { q.link.counters with framingErrors := min (k.framingErrors + 1) 4294967295 } } })) ∧
      (s.part.clock.ticks < start + 2000 → exec .linkTruncated s = .next s))

/-- What the receiver does with a character, a completed frame, a framing error, a length above 1,024 and a frame cut short
(R171 to R173). -/
def Obligations.CharactersReceivedOrDiscarded : Prop := Claims.CharactersReceived ∧ Claims.FrameCompleted ∧ Claims.FramesDiscarded

/-- The characters of any frame of at most 1,024 body bytes, sent in one tick to a receiver in HUNT with room in the inbound
queue, put exactly that frame at the tail of the queue (10.1.1, R171 to R173). -/
def Obligations.FrameRoundTrip : Prop :=
  ∀ (f : Frame) (s : State),
    f.body.length ≤ 1024 → s.part.link.receiver = .hunt → s.part.link.inbound.length < 8 →
    Host.Core.run core (frameBytes f).length
        { s with pending := (frameBytes f).map Instr.characterReceived ++ s.pending } =
      .next (s.withPart { s.part with link := { s.part.link with
        inbound := s.part.link.inbound ++ [f]
        counters := { s.part.link.counters with
          framesReceived := min (s.part.link.counters.framesReceived + 1) 4294967295 } } })

/-- An idle transmitter takes the oldest reply ahead of every notice (R178): the frame's envelope holds the kind of an ACK or
REFUSE and the request's tag, with length and check formed over the body, and a frame of n body bytes ends on the first tick
at or after (7 + n) × 10 / 12 µs. The body of ENTRY_GET's ACK holds the entry's definition as the 62 bytes of 10.8; where it
stands, and every other byte of a reply's body, is the free value of log entry 1. -/
def Sys2Proof.Claims.RepliesSentFirst : Prop :=
  ∀ (r : Reply) (rest : List Reply) (s : State),
    s.part.link.transmitter = none → s.part.link.replies = r :: rest →
    ∃ (t : Nat) (kind : Byte) (body : List Byte),
      body.length ≤ 1024 ∧ (7 + body.length) * 10 ≤ t * 12 ∧ t * 12 < (7 + body.length) * 10 + 12 ∧
      (∀ b, r.answer = .ack b → kind = 0x80#8 ∧ HoldsDefinition b body) ∧ (∀ no, r.answer = .refuse no → kind = 0x81#8) ∧
      exec .transmitStart s =
        .next (s.withPart { s.part with
          link := { s.part.link with
            replies := rest
            transmitter := some
              { frame := .reply r
                characters := frameBytes { kind := kind, tag := BitVec.ofNat 8 r.tag, body := body }
                startTick := s.part.clock.ticks, endTick := s.part.clock.ticks + t } }
          freeIndex := s.part.freeIndex + 1 })

/-- With no reply waiting, the notice of the lowest level, among equals the oldest, and among those the first queued leaves
its queue and is sent with kind 82 hex, tag 0, its 11-byte header and the source's snapshot of the tick (R178, R179), the part's
the reset-done body of R183; the
capture notice takes the 32 oldest records and the dropped count of the ring (R96). An entry notice's body holds the entry's
definition as the 62 bytes of 10.8; where it stands, and every other byte behind the header, is the free value of log
entry 1. -/
def Sys2Proof.Claims.NoticeSentByUrgency : Prop :=
  ∀ (front back : List QNotice) (n : QNotice) (s : State),
    let v := s.part.link.levels
    s.part.link.transmitter = none → s.part.link.replies = [] → s.part.link.notices = front ++ n :: back →
    (∀ m ∈ front, v.of n.source < v.of m.source ∨ v.of n.source = v.of m.source ∧ n.age < m.age) →
    (∀ m ∈ back, v.of n.source < v.of m.source ∨ v.of n.source = v.of m.source ∧ n.age ≤ m.age) →
    (∀ m ∈ front ++ back, m.source ≠ n.source) →
    let p : Part := { s.part with link := { s.part.link with notices := front ++ back } }
    let ring := p.capture.ring
    let code : Nat × Nat :=
      match n.source with
      | .part => (0, 0)
      | .guard => (1, 0)
      | .cls .corrected => (2, 0)
      | .cls .recoverable => (2, 1)
      | .cls .fatal => (2, 2)
      | .matrix => (3, 0)
      | .entry i => (4, i)
      | .channel i => (5, i)
      | .group i => (6, i)
      | .capture => (7, 0)
      | .engine => (8, 0)
      | .link => (9, 0)
    ∃ (t : Nat) (head tail : List Byte),
      head.length = 11 ∧ head.length + tail.length ≤ 1024 ∧
      field 0 1 head = code.1 ∧ field 1 1 head = code.2 % 256 ∧ field 2 1 head = v.of n.source % 256 ∧
      field 3 2 head = n.repeats % 65536 ∧ field 5 6 head = p.clock.rigTime % 281474976710656 ∧
      HoldsDefinition (p.bodyShown n.source) tail ∧
      (18 + tail.length) * 10 ≤ t * 12 ∧ t * 12 < (18 + tail.length) * 10 + 12 ∧
      exec .transmitStart s =
        .next (s.withPart { p with
          capture := if n.source = .capture then { p.capture with ring := ring.drop 32, dropped := 0 } else p.capture
          link := { p.link with
            transmitter := some
              { frame := .notice
                  { source := n.source, level := v.of n.source, repeats := n.repeats, time := p.clock.rigTime
                    body := p.bodyShown n.source }
                characters := frameBytes { kind := 0x82#8, tag := 0#8, body := head ++ tail }
                startTick := p.clock.ticks, endTick := p.clock.ticks + t } }
          freeIndex := p.freeIndex + 1 })

/-- The end of a transmission (R178, R180, R182): idle again and counted, or, for the ACK of a LINK_RESET, the reset of cause
LINK; before its end the frame goes on. -/
def Sys2Proof.Claims.TransmissionEnds : Prop :=
  ∀ (t : Transmission) (s : State), s.part.link.transmitter = some t →
    let k := s.part.link.counters
    (s.part.clock.ticks < t.endTick → exec .transmitEnd s = .next s) ∧
    (t.endTick ≤ s.part.clock.ticks →
      (∀ tag time, t.frame = .reply { tag := tag, answer := .ack (.linkReset time) } →
        exec .transmitEnd s = .next (s.withPart (s.part.afterReset .link))) ∧
      (∀ r, t.frame = .reply r → (∀ time, r.answer ≠ .ack (.linkReset time)) →
        exec .transmitEnd s =
          .next (s.withPart { s.part with link := { s.part.link with
            transmitter := none
            counters := { k with repliesSent := min (k.repliesSent + 1) 4294967295 } } })) ∧
      (∀ n, t.frame = .notice n →
        exec .transmitEnd s =
          .next (s.withPart { s.part with link := { s.part.link with
            transmitter := none
            counters := { k with noticesSent := min (k.noticesSent + 1) 4294967295 } } })))

/-- What an idle transmitter sends next and how a transmission ends (R178 to R180, R182). -/
def Obligations.TransmitterWorks : Prop := Claims.RepliesSentFirst ∧ Claims.NoticeSentByUrgency ∧ Claims.TransmissionEnds

/-! ### The link guard and safe hold -/

/-- GUARD_SET (R154), answered with the guard snapshot of R153; `expiresAt` is the first tick an expiry may be taken on (log
entry 29). That BAD_FIELD names the period where both fields are out of range is log entry 47. -/
def Sys2Proof.Claims.GuardSetTaken : Prop :=
  ∀ (tag : Nat) (period rate : Option Nat) (s : State), s.part.takes (.guardSet tag period rate) = true → tag ≠ 0 →
    let p := s.part.taken (.guardSet tag period rate)
    let now := p.clock.ticks
    let g : Guard := { p.guard with safeRate := rate.getD p.guard.safeRate }
    let bad (i : Nat) : Answer := .refuse { code := .badField, field := i, position := 0, named := none }
    let ok (q : Part) : Host.Outcome State Fault Refusal := .next (s.replied q tag (.ack (.guard q.guardShown)))
    ((∃ n, period = some n ∧ (n < 10 ∨ 5000 < n)) →
      exec (.guardSet tag period rate) s = .next (s.replied p tag (bad 1))) ∧
    ((∀ n, period = some n → 10 ≤ n ∧ n ≤ 5000) → (∃ r, rate = some r ∧ (r < 1 ∨ 50000 < r)) →
      exec (.guardSet tag period rate) s = .next (s.replied p tag (bad 2))) ∧
    ((∀ r, rate = some r → 1 ≤ r ∧ r ≤ 50000) →
      (period = none → exec (.guardSet tag period rate) s = ok { p with guard := g }) ∧
      (∀ n, period = some n → 10 ≤ n → n ≤ 5000 →
        (p.guard.period = none →
          exec (.guardSet tag period rate) s =
            ok (({ p with guard := { g with period := some n, windowStart := now, deadline := now + n * 1000,
                                            expiresAt := now + n * 1000 } }).raise .guard)) ∧
        (∀ m, p.guard.period = some m →
          let due := p.guard.windowStart + n * 1000
          let q : Part := { p with guard := { g with
            period := some n, deadline := due, expiresAt := if due ≤ now then now + 1 else due } }
          exec (.guardSet tag period rate) s = ok (if m = n then q else q.raise .guard))))

/-- KEEPALIVE (R155). -/
def Sys2Proof.Claims.KeepaliveTaken : Prop :=
  ∀ (tag value : Nat) (s : State), s.part.takes (.keepalive tag value) = true → tag ≠ 0 →
    let p := s.part.taken (.keepalive tag value)
    let now := p.clock.ticks
    (p.guard.lastValue = some value →
      exec (.keepalive tag value) s =
        .next (s.replied p tag (.ack (.keepalive value false false (p.guard.period.map fun _ => p.guard.deadline)
          p.safe.isSome)))) ∧
    (p.guard.lastValue ≠ some value → p.guard.period = none →
      exec (.keepalive tag value) s =
        .next (s.replied { p with guard := { p.guard with lastValue := some value } } tag
          (.ack (.keepalive value true false none p.safe.isSome)))) ∧
    (∀ n, p.guard.lastValue ≠ some value → p.guard.period = some n →
      exec (.keepalive tag value) s =
        .next (s.replied
          { p with guard := { p.guard with lastValue := some value, windowStart := now, deadline := now + n * 1000,
                                           expiresAt := now + n * 1000 } } tag
          (.ack (.keepalive value true true (some (now + n * 1000)) p.safe.isSome))))

/-- GUARD_SET and KEEPALIVE (R154, R155). -/
def Obligations.GuardSetAndKeptAlive : Prop := Claims.GuardSetTaken ∧ Claims.KeepaliveTaken

/-- GUARD_EXPIRY (R156): in NORMAL the part enters SAFE and logs GUARD_EXPIRED; in SAFE only the count, the window and the
guard notice change; before the deadline, and with the guard OFF, nothing does. The log is the one before with GUARD_EXPIRED
joined, and the notices those before with the causes of the expiry, of the entry (`Part.safeRaised`) and of the logging. That
GUARD_EXPIRED is logged after the entry to SAFE, and the order of the entry's causes, is log entry 22; that a channel's base and output values stand on that tick, its park value showing at its next
render, is log entry 15. -/
def Obligations.GuardExpires : Prop :=
  (∀ s : State, s.part.guard.period = none → exec .guardExpiry s = .next s) ∧
  ∀ (n : Nat) (s : State), s.part.guard.period = some n →
    let p := s.part
    let now := p.clock.ticks
    let q := ({ p with guard := { p.guard with expiryCount := min (p.guard.expiryCount + 1) 65535, windowStart := now,
                                               deadline := now + n * 1000, expiresAt := now + n * 1000 } }).raise .guard
    (now < p.guard.expiresAt → exec .guardExpiry s = .next s) ∧
    (p.guard.expiresAt ≤ now → p.safe.isSome = true → exec .guardExpiry s = .next (s.withPart q)) ∧
    (p.guard.expiresAt ≤ now → p.safe = none → p.channels.length = 32 → p.entries.length = 128 → p.groups.length = 8 →
      ∃ r : Part, exec .guardExpiry s = .next (s.withPart (r.logError .guardExpired .link n)) ∧ EnteredSafe .expiry q r)

/-- SAFE_ENTER (R157): in NORMAL the part enters SAFE with cause REQUEST; in SAFE nothing changes. The order of the causes the
entry raises is log entry 22, and the one cause of an engine that changes mode and status together log entry 48. That the ACK body is empty is
the model's choice (log entry 17); that a channel's base and output values stand on the tick of entry, its park value showing
at its next render, is log entry 15. -/
def Sys2Proof.Claims.SafeEntered : Prop :=
  ∀ (tag : Nat) (s : State), s.part.takes (.safeEnter tag) = true → tag ≠ 0 →
    let p := s.part.taken (.safeEnter tag)
    (p.safe.isSome = true → exec (.safeEnter tag) s = .next (s.replied p tag (.ack .empty))) ∧
    (p.safe = none → p.channels.length = 32 → p.entries.length = 128 → p.groups.length = 8 →
      ∃ q : Part, exec (.safeEnter tag) s = .next (s.replied q tag (.ack .empty)) ∧ EnteredSafe .request p q)

/-- SAFE_LEAVE (R159): each HELD channel raises its notice as it becomes IDLE (R45), in channel order (log entry 46), and the
guard's is raised (R160); nothing else of the link changes but the reply. That the ACK body is empty is the model's choice (log
entry 17), and that the park value shows at the next render is log entry 15. -/
def Sys2Proof.Claims.SafeLeft : Prop :=
  ∀ (tag : Nat) (s : State), s.part.takes (.safeLeave tag) = true → tag ≠ 0 →
    let p := s.part.taken (.safeLeave tag)
    (p.safe = none → exec (.safeLeave tag) s = .next (s.replied p tag (.ack .empty))) ∧
    (p.safe.isSome = true → (∃ e ∈ p.entries, e.state = .releasing) →
      exec (.safeLeave tag) s =
        .next (s.replied p tag (.refuse { code := .busy, field := 0, position := 0, named := none }))) ∧
    (p.safe.isSome = true → (∀ e ∈ p.entries, e.state ≠ .releasing) → p.channels.length = 32 →
      ∃ q : Part, exec (.safeLeave tag) s = .next (s.replied q tag (.ack .empty)) ∧
        q.safe = none ∧
        (∀ c < 32, q.channel c =
          if (p.channel c).state = .held then { p.channel c with state := .idle, pin := p.pinOf c (p.channel c) }
          else p.channel c) ∧
        (∀ n, p.guard.period = some n →
          q.guard = { p.guard with windowStart := p.clock.ticks, deadline := p.clock.ticks + n * 1000,
                                   expiresAt := p.clock.ticks + n * 1000 }) ∧
        (p.guard.period = none → q.guard = p.guard) ∧
        q = { p with
          safe := none, channels := q.channels, guard := q.guard
          link := (((List.range 32).foldl (fun v c =>
            if (p.channel c).state = .held then v.raise (.channel c) else v) p).raise .guard).link })

/-- SAFE_ENTER and SAFE_LEAVE (R157, R159). -/
def Obligations.SafeEnteredAndLeft : Prop := Claims.SafeEntered ∧ Claims.SafeLeft

/-- The part stays in SAFE, with its cause and time of entry, through every command but an accepted SAFE_LEAVE and a reset
(R157, R158). -/
def Obligations.StaysSafe : Prop :=
  ∀ (c : Instr) (info : SafeInfo) (s t : State), s.part.safe = some info → exec c s = .next t →
    (∀ tag, c ≠ .safeLeave tag) → c ≠ .powerOn → c ≠ .supplyDip →
    (c = .transmitEnd → ∀ x, s.part.link.transmitter = some x → x.frame.isResetAck = false) →
    t.part.safe = some info

/-! ### The angle engine -/

/-- ENGINE_GET (R19). -/
def Obligations.EngineRead : Prop :=
  ∀ (tag : Nat) (s : State), s.part.takes (.engineGet tag) = true → tag ≠ 0 →
    let p := s.part.taken (.engineGet tag)
    exec (.engineGet tag) s =
      .next (s.replied p tag (.ack (.engine p.engineShown)))

/-- ENGINE_SPEED (R6): its checks in order, the target clamped to 40,000, the motion status derived, and the engine notice
raised where it changes. -/
def Sys2Proof.Claims.SpeedSet : Prop :=
  ∀ (tag target rate : Nat) (s : State), s.part.takes (.engineSpeed tag target rate) = true → tag ≠ 0 →
    let p := s.part.taken (.engineSpeed tag target rate)
    let no (code : RefusalCode) (i : Nat) : Answer := .refuse { code := code, field := i, position := 0, named := none }
    let goal := min target 40000
    let m : Motion := if p.engine.internal = goal * 1000 then (if goal = 0 then .stopped else .steady) else .ramping
    let q : Part := { p with engine := { p.engine with target := goal, rampRate := rate, motion := m } }
    exec (.engineSpeed tag target rate) s =
      .next (
        if rate = 0 ∨ 50000 < rate then s.replied p tag (no .badField 2)
        else if p.safe.isSome then s.replied p tag (no .safeHold 0)
        else if p.engine.mode ≠ .fixed then s.replied p tag (no .busy 0)
        else s.replied (if m = p.engine.motion then q else q.raise .engine) tag
          (.ack (.engineSpeed (decide (40000 < target)) goal rate m)))

/-- ENGINE_MODE (R16). -/
def Sys2Proof.Claims.ModeSet : Prop :=
  ∀ (tag mode channel : Nat) (s : State), s.part.takes (.engineMode tag mode channel) = true → tag ≠ 0 →
    let p := s.part.taken (.engineMode tag mode channel)
    let e := p.engine
    let no (code : RefusalCode) (i : Nat) : Answer := .refuse { code := code, field := i, position := 0, named := none }
    let entered (e' : Engine) : Part := ({ p with engine := e' }).raise .engine
    exec (.engineMode tag mode channel) s =
      .next (
        if 2 < mode then s.replied p tag (no .badField 1)
        else if mode = 1 ∧ 31 < channel then s.replied p tag (no .badField 2)
        else if p.safe.isSome then s.replied p tag (no .safeHold 0)
        else if e.motion ≠ .stopped then s.replied p tag (no .busy 0)
        else if mode = 1 ∧ (p.channel channel).state = .off then s.replied p tag (no .notConfigured 0)
        else if mode = 1 ∧ (p.channel channel).config.map ChConfig.kind ≠ some .speed then
          s.replied p tag (no .kindMismatch 0)
        else if mode = 0 then
          s.replied
            (if e.mode = .fixed then p
              else entered { e with mode := .fixed, trackChannel := none, internal := 0, target := 0, speed := 0,
                                    increment := 0, motion := .stopped }) tag (.ack (.engineMode .fixed none))
        else if mode = 1 then
          s.replied
            (if e.mode = .track then { p with engine := { e with trackChannel := some channel } }
              else entered { e with mode := .track, trackChannel := some channel, internal := e.speed * 1000,
                                    target := e.speed }) tag (.ack (.engineMode .track (some channel)))
        else
          s.replied
            (if e.mode = .follow then p
              else entered { e with mode := .follow, trackChannel := none, internal := e.speed * 1000,
                                    target := e.speed, increment := 0, windowNet := 0, windowCounts := 0,
                                    sinceIndex := 0, missingMark := false }) tag (.ack (.engineMode .follow none)))

/-- ENGINE_SPEED and ENGINE_MODE (R6, R16). -/
def Obligations.SpeedAndModeSet : Prop := Claims.SpeedSet ∧ Claims.ModeSet

/-- ENGINE_ANGLE_SET (R17, R38): no motion, so nothing is passed; the WHEEL channels show the new angle on the tick. The order of
its two checks is log entry 47. -/
def Obligations.AngleSet : Prop :=
  ∀ (tag angle cycle : Nat) (s : State), s.part.takes (.engineAngleSet tag angle cycle) = true → tag ≠ 0 →
    cycle < 4294967296 →
    let p := s.part.taken (.engineAngleSet tag angle cycle)
    let no (code : RefusalCode) (i : Nat) : Answer := .refuse { code := code, field := i, position := 0, named := none }
    exec (.engineAngleSet tag angle cycle) s =
      .next (
        if 46079 < angle then s.replied p tag (no .badField 1)
        else if p.engine.motion ≠ .stopped then s.replied p tag (no .busy 0)
        else s.replied ({ p with engine := { p.engine with acc := angle * 65536, cycle := cycle } }).renderWheels tag
          (.ack (.angleSet angle cycle)))

/-- ENGINE_FOLLOW_CFG (R11): its checks in order, the encoder fields and the follow step written. That its ACK body is empty is
the model's choice (log entry 17). -/
def Obligations.FollowConfigured : Prop :=
  ∀ (tag counts offset tolerance : Nat) (s : State),
    s.part.takes (.engineFollowCfg tag counts offset tolerance) = true → tag ≠ 0 →
    let p := s.part.taken (.engineFollowCfg tag counts offset tolerance)
    let no (code : RefusalCode) (i : Nat) : Answer := .refuse { code := code, field := i, position := 0, named := none }
    exec (.engineFollowCfg tag counts offset tolerance) s =
      .next (
        if counts < 360 ∨ 16384 < counts then s.replied p tag (no .badField 1)
        else if 23039 < offset then s.replied p tag (no .badField 2)
        else if 2000 < tolerance then s.replied p tag (no .badField 3)
        else if p.engine.motion ≠ .stopped then s.replied p tag (no .busy 0)
        else s.replied
          { p with engine := { p.engine with
            counts := counts, offset := offset, tolerance := tolerance
            step := (1509949440 + counts / 2) / counts, sinceIndex := 0, missingMark := false } } tag (.ack .empty))

/-- MILLISECOND_UPDATE (R4, R5, R7, R9, R15): the FIXED ramp, the TRACK speed and the FOLLOW estimate, the increment computed
anew where the speed changes, the engine notice where the motion status does. The mark of the cadence is log entry 6. -/
def Obligations.MillisecondUpdated : Prop :=
  ∀ s : State, s.part.marks.milli = true →
    let p := s.part
    let e := p.engine
    let inc (v : Nat) : Nat := if v = e.speed then e.increment else (v * 6291456 + 500000) / 1000000
    let updated (e' : Engine) : Host.Outcome State Fault Refusal :=
      let q : Part := { p with marks := { p.marks with milli := false }, engine := e' }
      .next (s.withPart (if e'.motion = e.motion then q else q.raise .engine))
    (e.mode = .fixed → ∀ x : Nat,
      (e.internal ≤ e.target * 1000 → x = min (e.internal + e.rampRate * 4) (e.target * 1000)) →
      (e.target * 1000 < e.internal → x = max (e.internal - e.rampRate * 4) (e.target * 1000)) →
      exec .millisecondUpdate s =
        updated { e with
          internal := x, speed := x / 1000, increment := inc (x / 1000)
          motion := if x = e.target * 1000 then (if e.target = 0 then .stopped else .steady) else .ramping }) ∧
    (e.mode = .track → ∀ v : Nat,
      (∀ c, e.trackChannel = some c → (p.channel c).state ≠ .off →
        (p.channel c).config.map ChConfig.kind = some .speed → v = (p.channel c).output) →
      ((∀ c, e.trackChannel = some c → (p.channel c).state = .off ∨
        (p.channel c).config.map ChConfig.kind ≠ some .speed) → v = 0) →
      exec .millisecondUpdate s =
        updated { e with internal := v * 1000, target := v, speed := v, increment := inc v
                         motion := if v = 0 then .stopped else .steady }) ∧
    (e.mode = .follow →
      let v := min ((2 * (e.windowNet.natAbs * 240000) + e.counts) / (2 * e.counts)) 40000
      exec .millisecondUpdate s =
        updated { e with internal := v * 1000, target := v, speed := v, increment := 0, windowNet := 0,
                         windowCounts := 0, motion := if e.windowCounts = 0 then .stopped else .steady })

/-- A forward motion of less than a cycle passes an angle exactly when its distance ahead of the angle before, round the
cycle, is above 0 and no more than the distance to the angle after (R3); backward motion passes nothing. -/
def Obligations.PassedAngles : Prop :=
  ∀ (e : Engine) (amount a : Nat), e.acc < 3019898880 → amount < 3019898880 - 65536 → a < 46080 →
    let before := e.acc / 65536
    let after := (e.acc + amount) % 3019898880 / 65536
    ((e.move true amount).2.passes a = true ↔
      0 < (a + 46080 - before) % 46080 ∧ (a + 46080 - before) % 46080 ≤ (after + 46080 - before) % 46080) ∧
    (e.move false amount).2.passes a = false ∧
    ((e.move true amount).2.passes a = true →
      (e.move true amount).2.passCycle a = if before < a then e.cycle else (e.cycle + 1) % 4294967296)

/-- ENCODER_COUNT (R2, R10, R14, R15): outside FOLLOW, and for a transition in which both or neither of A and B change, only the
levels are taken; in FOLLOW one count moves the accumulator by the follow step, forward for the four transitions R10
lists and backward for the opposite four, the cycle count rising past the top and falling below 0. That the levels come
with the command, and are recorded outside FOLLOW too, is log entry 7. -/
def Obligations.EncoderCounted : Prop :=
  ∀ (a b : Bool) (s : State),
    let p := s.part
    let e := p.engine
    let a0 := p.pins.encA
    let b0 := p.pins.encB
    let q : Part := { p with pins := { p.pins with encA := a, encB := b } }
    let forward : Prop := (a = true ∧ a0 = false ∧ b0 = false ∧ b = b0) ∨ (b = true ∧ b0 = false ∧ a0 = true ∧ a = a0) ∨
      (a = false ∧ a0 = true ∧ b0 = true ∧ b = b0) ∨ (b = false ∧ b0 = true ∧ a0 = false ∧ a = a0)
    let counted (d : Int) : Engine := { e with
      sinceIndex := min (e.sinceIndex + 1) (2 * e.counts), windowNet := e.windowNet + d, windowCounts := e.windowCounts + 1 }
    let handed (forward : Bool) (x : Engine) : Engine × Move :=
      (x, { forward := forward, amount := e.step, angleBefore := e.acc / 65536, angleAfter := x.acc / 65536
            cycleBefore := e.cycle, cycleAfter := x.cycle })
    let up : Engine :=
      if e.acc + e.step < 3019898880 then { counted 1 with acc := e.acc + e.step }
      else { counted 1 with acc := e.acc + e.step - 3019898880, cycle := (e.cycle + 1) % 4294967296 }
    let down : Engine :=
      if e.step ≤ e.acc then { counted (-1) with acc := e.acc - e.step }
      else { counted (-1) with acc := e.acc + 3019898880 - e.step, cycle := (e.cycle + 4294967295) % 4294967296 }
    (e.mode ≠ .follow → exec (.encoderCount a b) s = .next (s.withPart q)) ∧
    ((a ≠ a0 ∧ b ≠ b0 ∨ a = a0 ∧ b = b0) → exec (.encoderCount a b) s = .next (s.withPart q)) ∧
    (e.mode = .follow → forward →
      exec (.encoderCount a b) s = .next (s.withPart (q.takeMove (handed true up))) ∧
      (q.takeMove (handed true up)).engine = up) ∧
    (e.mode = .follow → ¬forward → ((a ≠ a0 ∧ b = b0) ∨ (a = a0 ∧ b ≠ b0)) →
      exec (.encoderCount a b) s = .next (s.withPart (q.takeMove (handed false down))) ∧
      (q.takeMove (handed false down)).engine = down)

/-- INDEX_PULSE and INDEX_MISSING (R12 to R14): in FOLLOW a rising Z puts the accumulator on the nearer candidate with
fraction 0, the index record takes the signed error, and an error beyond the tolerance logs INDEX_SLIP. That Z
comes with the command, and is recorded outside FOLLOW too, is log entry 7; that the slip is logged behind what the snap's
passings log is log entry 46. -/
def Obligations.IndexTaken : Prop :=
  (∀ (z : Bool) (s : State), s.part.engine.mode ≠ .follow ∨ z = false ∨ s.part.pins.encZ = true →
    exec (.indexPulse z) s = .next (s.withPart { s.part with pins := { s.part.pins with encZ := z } })) ∧
  (∀ (s : State) (d : Int),
    let p := s.part
    let e := p.engine
    let near : Int := e.acc / 65536 - e.offset
    e.mode = .follow → p.pins.encZ = false → e.acc < 3019898880 → e.offset < 23040 →
    -- d is the signed error: the angle less a candidate, of size at most 11,520, the forward candidate at a tie
    (-11520 ≤ d ∧ d < 11520) → ((d - near) % 23040 = 0) →
    ∃ q : Part, exec (.indexPulse true) s = .next (s.withPart q) ∧
      (q.engine.acc : Int) = ((e.acc / 65536 : Nat) - d) % 46080 * 65536 ∧
      q.engine.indexError = d ∧ q.engine.indexCount = (e.indexCount + 1) % 4294967296 ∧
      q.engine.indexTime = p.clock.rigTime ∧ q.engine.sinceIndex = 0 ∧ q.engine.missingMark = false ∧
      q.engine.mode = .follow ∧ q.engine.motion = e.motion ∧ q.engine.speed = e.speed ∧
      (d.natAbs ≤ e.tolerance →
        q = (({ p with pins := { p.pins with encZ := true } }).takeMove
          (({ e with indexError := d, indexCount := (e.indexCount + 1) % 4294967296, indexTime := p.clock.rigTime,
                     sinceIndex := 0, missingMark := false } : Engine).snap))) ∧
      (e.tolerance < d.natAbs →
        q = (({ p with pins := { p.pins with encZ := true } }).takeMove
          (({ e with indexError := d, indexCount := (e.indexCount + 1) % 4294967296, indexTime := p.clock.rigTime,
                     sinceIndex := 0, missingMark := false } : Engine).snap)).logError .indexSlip .engine d)) ∧
  ∀ s : State,
    let p := s.part
    let e := p.engine
    exec .indexMissing s =
      .next (s.withPart (if e.mode = .follow ∧ e.sinceIndex = 2 * e.counts ∧ e.missingMark = false then
        ({ p with engine := { e with missingMark := true } }).logError .indexMissing .engine (2 * e.counts) else p))

/-! ### Replay channels -/

/-- CHANNEL_START (R25): PRIMED for its start group, or RUNNING with its start on the next tick; the notice is raised. -/
def Sys2Proof.Claims.ChannelStarted : Prop :=
  ∀ (tag c : Nat) (s : State), s.part.takes (.channelStart tag c) = true → tag ≠ 0 →
    let p := s.part.taken (.channelStart tag c)
    let ch := p.channel c
    let no (code : RefusalCode) (i : Nat) : Answer := .refuse { code := code, field := i, position := 0, named := none }
    exec (.channelStart tag c) s =
      .next (
        if 31 < c then s.replied p tag (no .badField 1)
        else if p.safe.isSome then s.replied p tag (no .safeHold 0)
        else if ch.state = .off then s.replied p tag (no .notConfigured 0)
        else if ch.state ≠ .idle then s.replied p tag (no .busy 0)
        else if (ch.config.bind ChConfig.startGroup).isSome then
          s.replied ((p.putChannel c { ch with state := .primed }).raise (.channel c)) tag
            (.ack (.channelState c .primed))
        else
          s.replied
            ((p.putChannel c { ch with state := .running, runStart := some p.clock.ticks,
                                       startAt := some (p.clock.ticks + 1) }).raise (.channel c)) tag
            (.ack (.channelState c .running)))

/-- CHANNEL_STOP and CHANNEL_DISABLE (R26, R27): the queue is given back; a stop leaves the channel IDLE with its slip total
and modifier, a disable leaves it as after a reset, and an active signal fault on it ends with NO_TARGET on the tick (R149). The
park value shows at the next render (log entry 15). That a disabled channel's base and output values are 0, for which R27 gives
none, is log entry 33. -/
def Sys2Proof.Claims.ChannelStopped : Prop :=
  (∀ (tag c : Nat) (s : State), s.part.takes (.channelStop tag c) = true → tag ≠ 0 →
    let p := s.part.taken (.channelStop tag c)
    let ch := p.channel c
    let no (code : RefusalCode) (i : Nat) : Answer := .refuse { code := code, field := i, position := 0, named := none }
    let q := p.putChannel c { ch with
      state := .idle, queue := [], play := none, starvedAt := none, startAt := none, resumeAt := none
      frequency := ch.config.bind ChConfig.pwmFrequency }
    exec (.channelStop tag c) s =
      .next (
        if 31 < c then s.replied p tag (no .badField 1)
        else if ch.state = .off then s.replied p tag (no .notConfigured 0)
        else if ch.state = .held then s.replied p tag (no .safeHold 0)
        else s.replied (if ch.state = .idle then q else q.raise (.channel c)) tag
          (.ack (.channelStop c ch.queue.length .idle)))) ∧
  ∀ (tag c : Nat) (s : State), s.part.takes (.channelDisable tag c) = true → tag ≠ 0 →
    let p := s.part.taken (.channelDisable tag c)
    let ch := p.channel c
    let q := (p.putChannel c Channel.atReset).raise (.channel c)
    (∀ (m : Modifier) (k : Nat) (f : SigFault), c ≤ 31 → p.channels.length = 32 → ch.state ≠ .off → ch.modifier = some m →
      m.entry < 128 → (p.entry m.entry).state = .active → (p.entry m.entry).signal? = some (k, f) →
      (p.entry m.entry).endCause = none →
      ∃ r : Part, exec (.channelDisable tag c) s = .next (s.replied r tag (.ack (.channelDisable c ch.queue.length))) ∧
        q.SignalEnded m.entry k .noTarget r) ∧
    exec (.channelDisable tag c) s =
      .next (
        if 31 < c then s.replied p tag (.refuse { code := .badField, field := 1, position := 0, named := none })
        else if ch.state = .off then s.replied p tag (.ack (.channelDisable c ch.queue.length))
        else s.replied
          (match ch.modifier with
            | none => q
            | some m => settleAll (q, [.endActive m.entry .noTarget])) tag (.ack (.channelDisable c ch.queue.length)))

/-- CHANNEL_START, CHANNEL_STOP and CHANNEL_DISABLE. -/
def Obligations.ChannelStartedAndStopped : Prop := Claims.ChannelStarted ∧ Claims.ChannelStopped

/-- CHANNEL_CONFIG of a channel that passes R24's checks: the record is written with the fields its kind uses, the current
frequency becomes `pwm_frequency`, OFF becomes IDLE, or HELD in SAFE, with the notice raised, and IDLE stays IDLE with its
queue. Without a modifier the park value is shown at once where the kind is new (log entry 16), and a PWM channel, or a PULSE
channel whose park frequency is not 0, begins its first park period on the tick (R34, R36); a WHEEL channel shows its park
value under the pattern's polarity and the levels written, whether the kind is new or not (log entry 16 for the same kind too),
a bank A output taking a new level's DAC code on the tick of the request (log entry 34). -/
def Sys2Proof.Claims.ConfigAccepted : Prop :=
  ∀ (tag c : Nat) (k : Kind) (r : RawConfig) (s : State),
    s.part.takes (.channelConfig tag c r) = true → tag ≠ 0 →
    let p := s.part.taken (.channelConfig tag c r)
    let ch := p.channel c
    let two := c < 16 ∧ (k = .pwm ∨ k = .pulse ∨ k = .wheel)
    let within (lo hi : Nat) (x : Option Nat) : Prop := ∃ v, x = some v ∧ lo ≤ v ∧ v ≤ hi
    p.channels.length = 32 → c ≤ 31 →
    r.kind = (match k with | .level => 0 | .pwm => 1 | .pulse => 2 | .wheel => 3 | .speed => 4) →
    ¬(k = .level ∧ 16 ≤ c) →
    r.parkValue ≤ (match k with | .level => 12000 | .pwm => 10000 | .pulse => 200000 | .wheel => 1 | .speed => 40000) →
    (two → within 0 12000 r.lowLevel ∧ within 0 12000 r.highLevel) →
    (k = .wheel → ∃ n, r.pattern = some n ∧ n ≤ 7 ∧ (p.pattern n).isSome = true) →
    (k = .pulse → within 1 10000 r.pulseWidth) → (k = .pwm → within 10 200000 r.pwmFrequency) →
    (k ≠ .wheel → within 0 4095 r.lowWater) → (∀ g, r.startGroup = some g → g ≤ 7) →
    (ch.state = .off ∨ ch.state = .idle ∧
      (ch.config.map ChConfig.kind = some k ∨ ch.queue = [] ∧ ch.modifier = none)) →
    ∃ (q : Part) (cfg : ChConfig),
      exec (.channelConfig tag c r) s =
        .next (s.replied q tag (.ack (.channelConfig c (q.channel c).state (some cfg)))) ∧
      cfg.kind = k ∧ cfg.parkValue = r.parkValue ∧ cfg.startGroup = r.startGroup ∧
      (two → cfg.lowLevel = r.lowLevel ∧ cfg.highLevel = r.highLevel) ∧
      (k = .wheel → cfg.pattern = r.pattern) ∧ (k = .pulse → cfg.pulseWidth = r.pulseWidth) ∧
      (k = .pwm → cfg.pwmFrequency = r.pwmFrequency) ∧ (k ≠ .wheel → cfg.lowWater = r.lowWater) ∧
      (q.channel c).config = some cfg ∧ (q.channel c).frequency = cfg.pwmFrequency ∧
      (q.channel c).queue = ch.queue ∧ (q.channel c).slipTotal = ch.slipTotal ∧
      (q.channel c).state = (if ch.state = .off then (if p.safe.isSome then .held else .idle) else .idle) ∧
      (ch.modifier = none → (ch.state = .off ∨ ch.config.map ChConfig.kind ≠ some k) →
        (q.channel c).base = r.parkValue ∧ (q.channel c).output = r.parkValue ∧ (q.channel c).applied = none ∧
        (k = .pwm → ∀ f, r.pwmFrequency = some f → (q.channel c).period = some
          { frequency := f, duty := r.parkValue, length := (800000000 + f) / (2 * f)
            high := (2 * ((800000000 + f) / (2 * f) * r.parkValue) + 10000) / 20000, start := p.clock.ticks * 40 }) ∧
        (k = .pulse → ∀ w, r.pulseWidth = some w → (q.channel c).period =
          if r.parkValue = 0 then none
          else
            let len := (800000000 + r.parkValue) / (2 * r.parkValue)
            some { frequency := r.parkValue, duty := 0, length := len, high := min (w * 40) (len / 2)
                   start := p.clock.ticks * 40 }) ∧
        (k ≠ .pwm → k ≠ .pulse → (q.channel c).period = none)) ∧
      (ch.config.map ChConfig.kind = some k → ch.state = .idle → (q.channel c).period = ch.period ∧
        (q.channel c).modifier = ch.modifier ∧ (q.channel c).applied = ch.applied) ∧
      (∀ n pt, k = .wheel → r.pattern = some n → p.pattern n = some pt →
        (ch.state = .off ∧ ch.modifier = none ∨ ch.state = .idle ∧ ch.applied = none) →
        let high : Bool := if r.parkValue = 1 then pt.toothHigh else !pt.toothHigh
        (q.channel c).base = r.parkValue ∧ (q.channel c).output = r.parkValue ∧
        (q.channel c).pin =
          if c < 16 then ((if high then r.highLevel else r.lowLevel).getD 0 * 65535 + 6000) / 12000
          else if high then 1 else 0) ∧
      (∀ d, d ≠ c → q.channel d = p.channel d) ∧
      q = { p with channels := q.channels, link := if ch.state = .off then (p.raise (.channel c)).link else p.link }

/-- CHANNEL_CONFIG of a channel that fails one of R24's checks: the first that fails gives the refusal, and nothing changes. The
fields are numbered as 10.8 lists them. -/
def Sys2Proof.Claims.ChannelConfigRefused : Prop :=
  ∀ (tag c : Nat) (r : RawConfig) (s : State), s.part.takes (.channelConfig tag c r) = true → tag ≠ 0 →
    let p := s.part.taken (.channelConfig tag c r)
    let ch := p.channel c
    let run := exec (.channelConfig tag c r) s
    let no (code : RefusalCode) (i : Nat) : Host.Outcome State Fault Refusal :=
      .next (s.replied p tag (.refuse { code := code, field := i, position := 0, named := none }))
    let lacks (lo hi : Nat) (x : Option Nat) : Prop := ∀ v, x = some v → v < lo ∨ hi < v
    (31 < c → run = no .badField 1) ∧
    (c ≤ 31 → 4 < r.kind → run = no .badField 2) ∧
    (16 ≤ c → c ≤ 31 → r.kind = 0 → run = no .kindMismatch 0) ∧
    ∀ k : Kind, c ≤ 31 →
      r.kind = (match k with | .level => 0 | .pwm => 1 | .pulse => 2 | .wheel => 3 | .speed => 4) →
      ¬(k = .level ∧ 16 ≤ c) →
      let two : Prop := c < 16 ∧ (k = .pwm ∨ k = .pulse ∨ k = .wheel)
      let bad : Nat → Prop
        | 3 => (match k with | .level => 12000 | .pwm => 10000 | .pulse => 200000 | .wheel => 1 | .speed => 40000) <
            r.parkValue
        | 4 => two ∧ lacks 0 12000 r.lowLevel
        | 5 => two ∧ lacks 0 12000 r.highLevel
        | 6 => k = .wheel ∧ lacks 0 7 r.pattern
        | 7 => k = .pulse ∧ lacks 1 10000 r.pulseWidth
        | 8 => k = .pwm ∧ lacks 10 200000 r.pwmFrequency
        | 9 => k ≠ .wheel ∧ lacks 0 4095 r.lowWater
        | 10 => ∃ g, r.startGroup = some g ∧ 7 < g
        | _ => False
      (∀ i, bad i → (∀ j, j < i → ¬bad j) → run = no .badField i) ∧
      ((∀ i, ¬bad i) →
        (ch.state ≠ .off → ch.state ≠ .idle → run = no .busy 0) ∧
        (ch.state = .idle → ch.config.map ChConfig.kind ≠ some k → (ch.queue ≠ [] ∨ ch.modifier.isSome = true) →
          run = no .busy 0) ∧
        (ch.state = .off ∨ ch.state = .idle ∧
            (ch.config.map ChConfig.kind = some k ∨ ch.queue = [] ∧ ch.modifier = none) →
          k = .wheel → (∀ n, r.pattern = some n → p.pattern n = none) → run = no .notConfigured 0))

/-- CHANNEL_CONFIG, accepted and refused (R24). -/
def Obligations.ChannelConfigured : Prop := Claims.ConfigAccepted ∧ Claims.ChannelConfigRefused

/-- CHANNEL_GET (R44). -/
def Obligations.ChannelRead : Prop :=
  ∀ (tag c : Nat) (s : State), s.part.takes (.channelGet tag c) = true → tag ≠ 0 →
    let p := s.part.taken (.channelGet tag c)
    exec (.channelGet tag c) s =
      .next (
        if 31 < c then s.replied p tag (.refuse { code := .badField, field := 1, position := 0, named := none })
        else s.replied p tag (.ack (.channel (p.channelShown c))))

/-- WHEEL_DEFINE (R37): its checks in order, BUSY while a channel naming the pattern is RUNNING, and the record defined. -/
def Sys2Proof.Claims.WheelDefined : Prop :=
  ∀ (tag i : Nat) (r : RawPattern) (s : State), s.part.takes (.wheelDefine tag i r) = true → tag ≠ 0 →
    let p := s.part.taken (.wheelDefine tag i r)
    let span := if r.span = 0 then 23040 else 46080
    let listed := r.missing.take r.missingCount
    let no (f : Nat) : State := s.replied p tag (.refuse { code := .badField, field := f, position := 0, named := none })
    exec (.wheelDefine tag i r) s =
      .next (
        if 7 < i then no 1
        else if 1 < r.span then no 2
        else if r.positions < 2 ∨ 120 < r.positions ∨ span % r.positions ≠ 0 then no 3
        else if r.width < 16 ∨ span / r.positions - 16 < r.width then no 4
        else if 8 < r.missingCount ∨ (∃ m ∈ listed, r.positions ≤ m) ∨ ¬listed.Nodup then no 5
        else if span ≤ r.offset then no 6
        else if 1 < r.polarity then no 7
        else if ∃ ch ∈ p.channels, ch.state = .running ∧ ch.config.bind ChConfig.pattern = some i then
          s.replied p tag (.refuse { code := .busy, field := 0, position := 0, named := none })
        else s.replied
          { p with patterns := p.patterns.set i (some
            { span := span, positions := r.positions, width := r.width, missing := listed, offset := r.offset
              toothHigh := decide (r.polarity = 0) }) } tag (.ack (.wheel i (span / r.positions))))

/-- A WHEEL channel RUNNING from the angle shows a tooth exactly when the angle, seen through a SHIFT, lies within W units of
the start of a present position that no DROP takes away (R38, R43), by the modifier the tick took (R40; log entry 35). -/
def Sys2Proof.Claims.TeethRendered : Prop :=
  ∀ (pt : Pattern) (angle : Nat) (ch : Channel),
    2 ≤ pt.positions → pt.positions ∣ pt.span → pt.offset < pt.span → pt.width ≤ pt.span / pt.positions →
    0 < pt.span → ch.state = .running → ch.startAt = none → ch.config.map ChConfig.kind = some .wheel →
    let pitch := pt.span / pt.positions
    let inTooth (drop : Nat → Prop) (shift : Int) : Prop :=
      ∃ k < pt.positions, k ∉ pt.missing ∧ ¬drop k ∧
        (((angle : Int) + shift) - (pt.offset + k * pitch)) % pt.span < pt.width
    let x := ch.wheelRender (some pt) angle
    (ch.applied = none → (x.output = 1 ↔ inTooth (fun _ => False) 0)) ∧
    (∀ e q n v, ch.applied = some { entry := e, fault := .drop q n, stuck := v } →
      (x.output = 1 ↔ inTooth (fun k => ((k : Int) - q) % pt.positions < n) 0)) ∧
    (∀ e d v, ch.applied = some { entry := e, fault := .shift d, stuck := v } →
      (x.output = 1 ↔ inTooth (fun _ => False) d)) ∧
    (∀ e v f, ch.applied = some { entry := e, fault := .stuck, stuck := some (v, f) } → x.output = v) ∧
    (∀ e, ch.applied = some { entry := e, fault := .stuck, stuck := none } → x.output = ch.output) ∧
    (x.base = 1 ↔ inTooth (fun _ => False) 0) ∧
    x = { ch with base := x.base, output := x.output }

/-- A microsecond tick with no engine motion takes the modifier a WHEEL channel holds as the tick comes, STUCK with the state
then shown (R40, R41), and renders the channel. -/
def Sys2Proof.Claims.WheelsTaken : Prop :=
  ∀ (changes : List PinChange) (c : Nat) (s : State), c < 32 → s.part.channels.length = 32 →
    let p := s.part
    let ch := p.channel c
    let m := takenModifier ch.modifier (ch.output, 0)
    (p.engine.mode = .follow ∨ p.engine.increment = 0) → ch.state ≠ .off → ch.config.map ChConfig.kind = some .wheel →
    ∃ t : State, exec (.microsecondTick changes) s = .next t ∧
      t.part.channel c = ((p.setChannel c { ch with modifier := m, applied := m }).renderWheels).channel c

/-- The WHEEL channels' render (R22, R38, R40, R41): every WHEEL channel that is not OFF renders from the angle as it stands, one not
RUNNING from an angle shows its park state, and the pin is the level or logic of a tooth by the pattern's polarity; no
other channel and nothing else changes. -/
def Sys2Proof.Claims.WheelsShown : Prop :=
  ∀ (p : Part) (c : Nat),
    let ch := p.channel c
    let q := p.renderWheels
    q = { p with channels := q.channels } ∧
    (ch.state = .off ∨ ch.config.map ChConfig.kind ≠ some .wheel → q.channel c = ch) ∧
    ∀ pt : Pattern, ch.state ≠ .off → ch.config.map ChConfig.kind = some .wheel → p.patternOf ch = some pt →
      let x := ch.wheelRender (some pt) (p.engine.acc / 65536)
      let high : Bool := if x.output = 1 then pt.toothHigh else !pt.toothHigh
      let code (level : Option Nat) : Nat := (level.getD 0 * 65535 + 6000) / 12000
      (q.channel c =
        { x with pin :=
          if c < 16 then
            (if high then code (ch.config.bind ChConfig.highLevel) else code (ch.config.bind ChConfig.lowLevel))
          else if high then 1 else 0 }) ∧
      (ch.state ≠ .running ∨ ch.startAt.isSome = true →
        x = { ch with
          base := (ch.config.map ChConfig.parkValue).getD 0
          output := shownValue ch.applied ((ch.config.map ChConfig.parkValue).getD 0) ch.output 1 })

/-- WHEEL_DEFINE and the WHEEL render. -/
def Obligations.WheelDefinedAndRendered : Prop := Claims.WheelDefined ∧ Claims.TeethRendered ∧ Claims.WheelsTaken ∧ Claims.WheelsShown

/-- LEVEL_TICK (R30, R32, R39 to R42), with no play due on a channel it renders: every LEVEL and SPEED channel that is not OFF
shows its base value through its modifier, of which STUCK takes the value last shown and the others stand; a LEVEL channel
writes the DAC code, mV × 65,535 / 12,000 rounded half up; nothing else changes. The mark of the cadence is log entry 6. -/
def Sys2Proof.Claims.LevelsRendered : Prop :=
  ∀ s : State, s.part.marks.level = true →
    let p := s.part
    let now := p.clock.ticks
    let levelled (ch : Channel) : Prop :=
      ch.state ≠ .off ∧ (ch.config.map ChConfig.kind = some .level ∨ ch.config.map ChConfig.kind = some .speed)
    (∀ ch ∈ p.channels, levelled ch → ¬ch.PlayDue now) →
    ∃ chs : List Channel,
      exec .levelTick s =
        .next (s.withPart { p with marks := { p.marks with level := false }, channels := chs }) ∧
      chs.length = p.channels.length ∧
      ∀ (c : Nat) (ch x : Channel), p.channels[c]? = some ch → chs[c]? = some x →
        (¬levelled ch → x = ch) ∧
        (ch.state ≠ .off →
          (ch.config.map ChConfig.kind = some .level →
            let v := shownValue ch.modifier (ch.baseNow now) ch.output 12000
            x = { ch with
              base := ch.baseNow now, output := v, modifier := takenModifier ch.modifier (ch.output, 0)
              applied := takenModifier ch.modifier (ch.output, 0), dac := (v * 65535 + 6000) / 12000, pin := (v * 65535 + 6000) / 12000 }) ∧
          (ch.config.map ChConfig.kind = some .speed →
            x = { ch with
              base := ch.baseNow now, output := shownValue ch.modifier (ch.baseNow now) ch.output 40000
              modifier := takenModifier ch.modifier (ch.output, 0), applied := takenModifier ch.modifier (ch.output, 0)
              pin := 0 }))

/-- Without its mark LEVEL_TICK does nothing; with it, play that is due is taken before the render (2.4.1, R28, R55, R56, R60):
a record that has reached its length is never shown at it, and the record after it, or the starved channel's held value,
shows on the tick. -/
def Sys2Proof.Claims.PlayBeforeRender : Prop :=
  (∀ s : State, s.part.marks.level = false → exec .levelTick s = .next s) ∧
  ∀ (c slot : Nat) (k : Kind) (pl : Play) (r : Segment) (s : State), c < 32 → s.part.channels.length = 32 →
    s.part.marks.level = true →
    let p := s.part
    let now := p.clock.ticks
    let ch := p.channel c
    let top := if k = .level then 12000 else 40000
    (k = .level ∨ k = .speed) → ch.config.map ChConfig.kind = some k → ch.modifier = none →
    ch.state = .running → ch.startAt = none → ch.play = some pl →
    ch.queue[pl.place]? = some { slot := slot, content := .segment r } → r.basis = .time → r.endFlag = false →
    pl.startTick + r.length ≤ now →
    (∀ d < 32, d ≠ c → ¬(p.channel d).PlayDue now) →
    (ch.queue.length = pl.place + 1 →
      ∃ t : State, exec .levelTick s = .next t ∧ (t.part.channel c).state = .starved ∧
        (t.part.channel c).base = ch.base ∧ (t.part.channel c).output = min ch.base top) ∧
    ∀ (slot' : Nat) (r' : Segment), ch.queue[pl.place + 1]? = some { slot := slot', content := .segment r' } →
      (∀ d ∈ p.damage, d.1 ≠ slot') → p.MarkUnwaited c r' → 1 ≤ r'.length →
      ∃ (t : State) (place : Nat), exec .levelTick s = .next t ∧ (t.part.channel c).state = .running ∧
        (t.part.channel c).play = some { place := place, startTick := now, travel := 0 } ∧
        (t.part.channel c).queue[place]? = some { slot := slot', content := .segment r' } ∧
        (t.part.channel c).base = r'.start ∧ (t.part.channel c).output = min r'.start top

/-- A render of the tick taken again after play or a motion that the tick brings later (2.4.1, R40, R55, R58, 3.5.1): with no play
due, a level channel whose level tick is taken, a PULSE channel that looks, and a PWM or PULSE channel whose period began on
the tick show their base value anew, through the modifier that the tick's render took and no other; every other channel stays
as it is. A motion renders so each channel whose ANGLE record is in play. -/
def Sys2Proof.Claims.RenderedAgain : Prop :=
  ∀ (c : Nat) (p : Part), c < 32 → p.channels.length = 32 →
    let ch := p.channel c
    let now := p.clock.ticks
    let b := ch.baseNow now
    let kind := ch.config.map ChConfig.kind
    let shown (top : Nat) : Nat := shownValue ch.applied b ch.output top
    let levelled : Prop := ch.state ≠ .off ∧ (kind = some .level ∨ kind = some .speed)
    let taken : Prop := now % 10 = 0 ∧ p.marks.level = false
    let begunNow (q : Period) : Prop := q.start ≤ now * 40 ∧ now * 40 < q.start + 40
    let angled : Prop := ch.state = .running ∧ ∃ (pl : Play) (slot : Nat) (r : Segment), ch.play = some pl ∧
      ch.queue[pl.place]? = some { slot := slot, content := .segment r } ∧ r.basis = .angle
    (ch.PlayDue now ∨ ch.state = .off ∧ ch.period = none ∨ kind = none ∨ kind = some .wheel ∨ levelled ∧ ¬taken ∨
        kind = some .pwm ∧ ch.period = none →
      p.renderAgain c = p) ∧
    (∀ q, ch.period = some q → ¬levelled → ¬begunNow q → p.renderAgain c = p) ∧
    (¬ch.PlayDue now → ch.state ≠ .off →
      (kind = some .level → taken →
        p.renderAgain c = p.setChannel c { ch with
          base := b, output := shown 12000, dac := (shown 12000 * 65535 + 6000) / 12000
          pin := (shown 12000 * 65535 + 6000) / 12000 }) ∧
      (kind = some .speed → taken →
        p.renderAgain c = p.setChannel c { ch with base := b, output := shown 40000, pin := 0 }) ∧
      (kind = some .pulse → ch.period = none →
        p.renderAgain c = p.putChannel c { ch with base := b, output := shown 200000 }) ∧
      (∀ q, kind = some .pwm → ch.period = some q → begunNow q →
        let f := shownFrequency ch.applied (ch.frequency.getD 0) (ch.frequency.getD 0)
        let len := (800000000 + f) / (2 * f)
        p.renderAgain c = p.putChannel c { ch with
          base := b, output := shown 10000
          period := some { frequency := f, duty := shown 10000, length := len
                           high := (2 * (len * shown 10000) + 10000) / 20000, start := q.start } }) ∧
      (∀ q, kind = some .pulse → ch.period = some q → begunNow q →
        let f := shown 200000
        let len := (800000000 + f) / (2 * f)
        let width := ((ch.config.bind ChConfig.pulseWidth).getD 0) * 40
        p.renderAgain c = p.putChannel c { ch with
          base := b, output := f
          period := if f = 0 then none
            else some { frequency := f, duty := 0, length := len, high := min width (len / 2), start := q.start } })) ∧
    (angled → p.renderTravels.channel c = (p.renderAgain c).channel c) ∧
    (¬angled → p.renderTravels.channel c = ch) ∧ p.renderTravels = { p with channels := p.renderTravels.channels }

/-- The base value of a channel that takes segments (2.3.1, R28, R31). -/
def Sys2Proof.Claims.BaseValues : Prop :=
  ∀ (now : Nat) (ch : Channel),
    (ch.state = .idle ∨ ch.state = .primed ∨ ch.state = .held →
      ∀ cfg, ch.config = some cfg → ch.baseNow now = cfg.parkValue) ∧
    (ch.state = .starved ∨ ch.state = .done ∨ ch.state = .faulted → ch.baseNow now = ch.held) ∧
    (∀ (pl : Play) (slot : Nat) (r : Segment), ch.state = .running → ch.play = some pl →
      ch.queue[pl.place]? = some { slot := slot, content := .segment r } →
      let e := if r.basis = .time then now - pl.startTick else pl.travel / 65536
      (r.shape = .hold → ch.baseNow now = r.start) ∧
      (∀ stop, r.shape = .ramp → r.stop = some stop → e ≤ r.length →
        (r.start ≤ stop → ch.baseNow now = r.start + (stop - r.start) * e / r.length) ∧
        (stop ≤ r.start → ch.baseNow now = r.start - (r.start - stop) * e / r.length)))

/-- The level tick, the play it takes first, the base values it renders, and a render of the tick taken again. -/
def Obligations.LevelsAndBasesRendered : Prop := Claims.LevelsRendered ∧ Claims.PlayBeforeRender ∧ Claims.RenderedAgain ∧ Claims.BaseValues

/-- PWM_PERIOD_END, PULSE_PERIOD_END and PULSE_TRAIN_START of a channel with no play due (R33 to R36): the next period begins
where the last ended, with the shown value, its length 4 × 10^8 / f and its high time rounded half up, the pulse the smaller
of its width and half the period; a shown frequency of 0 leaves no period, and one that the look found not 0 begins a period on
its tick; STUCK takes the pair, or frequency, last applied, and the other modifiers stand (R41). Before the period's end
nothing happens (log entry 30). -/
def Sys2Proof.Claims.PeriodsBegun : Prop :=
  ∀ (c : Nat) (s : State), c < 32 →
    let p := s.part
    let ch := p.channel c
    let now := p.clock.ticks
    let b := ch.baseNow now
    ch.state ≠ .off →
    (∀ q : Period, ch.period = some q → now * 40 < q.start + q.length →
      exec (.pwmPeriodEnd c) s = .next s ∧ exec (.pulsePeriodEnd c) s = .next s) ∧
    (∀ q : Period, ch.config.map ChConfig.kind = some .pwm → ch.period = some q → q.start + q.length ≤ now * 40 →
      ¬ch.PlayDue now →
      let d := shownValue ch.modifier b q.duty 10000
      let f := shownFrequency ch.modifier (ch.frequency.getD 0) q.frequency
      let len := (800000000 + f) / (2 * f)
      exec (.pwmPeriodEnd c) s = .next (s.withPart (p.putChannel c
        { ch with
          base := b, output := d, modifier := takenModifier ch.modifier (q.duty, q.frequency)
          applied := takenModifier ch.modifier (q.duty, q.frequency)
          period := some { frequency := f, duty := d, length := len, high := (2 * (len * d) + 10000) / 20000
                           start := q.start + q.length } }))) ∧
    (ch.config.map ChConfig.kind = some .pulse →
      let begun (f start : Nat) : Option Period :=
        let len := (800000000 + f) / (2 * f)
        let width := ((ch.config.bind ChConfig.pulseWidth).getD 0) * 40
        some { frequency := f, duty := 0, length := len, high := min width (len / 2), start := start }
      (∀ q : Period, ch.period = some q → q.start + q.length ≤ now * 40 → ¬ch.PlayDue now →
        let f := shownValue ch.modifier b q.frequency 200000
        exec (.pulsePeriodEnd c) s = .next (s.withPart (p.putChannel c
          { ch with
            base := b, output := f, modifier := takenModifier ch.modifier (q.frequency, 0)
            applied := takenModifier ch.modifier (q.frequency, 0)
            period := if f = 0 then none else begun f (q.start + q.length) }))) ∧
      (ch.period = none → ch.output ≠ 0 → ¬ch.PlayDue now →
        exec (.pulseTrainStart c) s =
          .next (s.withPart (p.putChannel c { ch with period := begun ch.output (now * 40) }))) ∧
      (ch.period.isSome = true ∨ ch.output = 0 ∨ ch.PlayDue now → exec (.pulseTrainStart c) s = .next s))

/-- While no period runs, a PULSE channel looks at its rendered frequency on each microsecond tick (R22, R36), here one with
no engine motion: its base value and what it shows are the tick's, through the modifier it holds as the tick comes (R40), of
which STUCK takes 0 (R41), and its pin stays low. Where play is due on it the base value stands until that play is taken (log
entry 42). -/
def Sys2Proof.Claims.PulseLooks : Prop :=
  ∀ (changes : List PinChange) (c : Nat) (s : State), c < 32 →
    let p := s.part
    let ch := p.channel c
    let now := (p.clock.ticks + 1) % 18446744073709551616
    (p.engine.mode = .follow ∨ p.engine.increment = 0) →
    ch.state ≠ .off → ch.config.map ChConfig.kind = some .pulse → ch.period = none →
    ∀ b, (ch.PlayDue now → b = ch.base) → (¬ch.PlayDue now → b = ch.baseNow now) →
    ∃ t : State, exec (.microsecondTick changes) s = .next t ∧
      t.part.channel c = { ch with
        base := b, output := shownValue ch.modifier b 0 200000
        modifier := takenModifier ch.modifier (0, 0), applied := takenModifier ch.modifier (0, 0)
        pin := if c < 16 then ((ch.config.bind ChConfig.lowLevel).getD 0 * 65535 + 6000) / 12000 else 0 }

/-- The periods of PWM and PULSE channels, and the look of a PULSE channel that runs none (R33 to R36). -/
def Obligations.PeriodsTaken : Prop := Claims.PeriodsBegun ∧ Claims.PulseLooks

/-! ### The segment store -/

/-- SEG_APPEND of records that pass R51's checks (R47, R52, R54): they join the tail in request order, each in the lowest
slot then free; a STARVED channel resumes on the next tick; the ACK counts as R52 says. -/
def Sys2Proof.Claims.RecordsAppended : Prop :=
  ∀ (tag c count : Nat) (rs : List RawRecord) (k : Kind) (s : State),
    s.part.takes (.segAppend tag c count rs) = true → tag ≠ 0 →
    let p := s.part.taken (.segAppend tag c count rs)
    let ch := p.channel c
    let used := p.channels.flatMap fun x => x.queue.map QRec.slot
    let isLoop (i : Nat) : Prop := (∃ q, ch.queue[i]? = some q ∧ ∃ a b d e, q.content = .loop a b d e) ∨
      (∃ a b, ch.queue.length ≤ i ∧ rs[i - ch.queue.length]? = some (.loop a b))
    p.channels.length = 32 → c ≤ 31 → count = rs.length → 1 ≤ count → count ≤ 32 → (∀ r ∈ rs, RawRecord.Good r) →
    (ch.state = .idle ∨ ch.state = .primed ∨ ch.state = .running ∨ ch.state = .starved) →
    ch.config.map ChConfig.kind = some k → k ≠ .wheel →
    (k = .speed → ∀ r, RawRecord.segment r ∈ rs → r.basis = .time) →
    (∀ i a b, rs[i]? = some (.loop a b) →
      a ≤ ch.queue.length + i ∧ ∀ j, ch.queue.length + i - a ≤ j → j < ch.queue.length + i → ¬isLoop j) →
    used.length + rs.length ≤ 16384 → ch.queue.length + rs.length ≤ 4096 →
    ∃ (slots : List Nat) (clamped : Nat),
      slots.length = rs.length ∧
      (∀ i n, slots[i]? = some n → n ∉ used ∧ n ∉ slots.take i ∧ ∀ m < n, m ∈ used ∨ m ∈ slots.take i) ∧
      clamped = (rs.map fun r => (storedRecord k r).2).sum ∧
      exec (.segAppend tag c count rs) s =
        .next (s.replied
          { p.setChannel c { ch with
              queue := ch.queue ++
                slots.zipWith (fun n r => ({ slot := n, content := (storedRecord k r).1 } : QRec)) rs
              resumeAt := if ch.state = .starved ∧ ch.resumeAt = none then some (p.clock.ticks + 1) else ch.resumeAt }
            with damage := p.damage.filter fun d => d.1 ∉ slots }
          tag
          (.ack (.segAppend c rs.length clamped (ch.queue.length + 1) (ch.queue.length + rs.length)
            ((match ch.play with
              | some pl => ch.queue.length + rs.length - (pl.place + 1)
              | none => ch.queue.length + rs.length))
            (16384 - (used.length + rs.length)))))

/-- SEG_APPEND of records that fail one of R51's checks: the first that fails gives the refusal, with the position of a faulty
record from 1, and no record is appended; NESTED_LOOP is checked before SHORT_BODY for each loop record, and the loop records
in request order. That a faulty record, an ANGLE record on a SPEED channel, NESTED_LOOP and SHORT_BODY carry field index 3 with
the record's position is the model's reading of R175 and 10.8 (log entry 18). -/
def Sys2Proof.Claims.AppendRefused : Prop :=
  ∀ (tag c count : Nat) (rs : List RawRecord) (s : State),
    s.part.takes (.segAppend tag c count rs) = true → tag ≠ 0 →
    let p := s.part.taken (.segAppend tag c count rs)
    let ch := p.channel c
    let run := exec (.segAppend tag c count rs) s
    let no (code : RefusalCode) (i at1 : Nat) : Host.Outcome State Fault Refusal :=
      .next (s.replied p tag (.refuse { code := code, field := i, position := at1, named := none }))
    let isLoop (i : Nat) : Prop := (∃ q, ch.queue[i]? = some q ∧ ∃ a b d e, q.content = .loop a b d e) ∨
      (∃ a b, ch.queue.length ≤ i ∧ rs[i - ch.queue.length]? = some (.loop a b))
    let nested (i : Nat) : Prop := ∃ a b j, rs[i]? = some (.loop a b) ∧
      ch.queue.length + i - a ≤ j ∧ j < ch.queue.length + i ∧ isLoop j
    let short (i : Nat) : Prop := ∃ a b, rs[i]? = some (.loop a b) ∧ ch.queue.length + i < a
    (31 < c → run = no .badField 1 0) ∧
    (c ≤ 31 → (count < 1 ∨ 32 < count ∨ count ≠ rs.length) → run = no .badField 2 0) ∧
    (c ≤ 31 → 1 ≤ count → count ≤ 32 → count = rs.length →
      (∀ i r, rs[i]? = some r → ¬RawRecord.Good r → (∀ j < i, ∀ x, rs[j]? = some x → RawRecord.Good x) →
        run = no .badField 3 (i + 1)) ∧
      ((∀ r ∈ rs, RawRecord.Good r) →
        (ch.state = .off ∨ ch.state = .done ∨ ch.state = .faulted ∨ ch.state = .held → run = no .busy 0 0) ∧
        (ch.state = .idle ∨ ch.state = .primed ∨ ch.state = .running ∨ ch.state = .starved →
          (ch.config.map ChConfig.kind = some .wheel → run = no .kindMismatch 0 0) ∧
          (∀ i r, ch.config.map ChConfig.kind = some .speed → rs[i]? = some (.segment r) → r.basis = .angle →
            (∀ j < i, ∀ x, rs[j]? = some (.segment x) → x.basis = .time) → run = no .badField 3 (i + 1)) ∧
          (ch.config.map ChConfig.kind ≠ some .wheel →
            (ch.config.map ChConfig.kind = some .speed → ∀ r, RawRecord.segment r ∈ rs → r.basis = .time) →
            (∀ i, (∀ j < i, ¬nested j ∧ ¬short j) →
              (nested i → run = no .nestedLoop 3 (i + 1)) ∧ (¬nested i → short i → run = no .shortBody 3 (i + 1))) ∧
            ((∀ i, ¬nested i ∧ ¬short i) →
              let used := (p.channels.map fun x => x.queue.length).sum
              (16384 < used + rs.length → run = no .storeFull 0 0) ∧
              (used + rs.length ≤ 16384 → 4096 < ch.queue.length + rs.length → run = no .queueFull 0 0))))))

/-- The stored form of a record (R49, R50, R52): values held to the kind's range, each change counted; the end value of a
RAMP and the secondary of a PWM record only; a loop's `remaining` at r and its broken mark clear. -/
def Sys2Proof.Claims.RecordsStored : Prop :=
  ∀ (k : Kind) (r : RawSegment) (a b : Nat),
    let top : Int := match k with | .level => 12000 | .pwm => 10000 | .pulse => 200000 | .wheel => 1 | .speed => 40000
    storedRecord k (.loop a b) = (.loop a b b false, 0) ∧
    ∃ x : Segment, ∃ n : Nat, storedRecord k (.segment r) = (.segment x, n) ∧
      x.basis = r.basis ∧ x.length = r.length ∧ x.shape = r.shape ∧ x.marker = r.marker ∧ x.endFlag = r.endFlag ∧
      (x.start : Int) = max 0 (min r.startValue top) ∧
      (r.shape = .hold → x.stop = none) ∧
      (∀ v, r.shape = .ramp → r.endValue = some v → ∃ w : Nat, x.stop = some w ∧ (w : Int) = max 0 (min v top)) ∧
      (k ≠ .pwm → x.secondary = none) ∧
      (∀ v, k = .pwm → r.secondary = some v → x.secondary = some (max 10 (min v 200000))) ∧
      n = (if (x.start : Int) = r.startValue then 0 else 1) +
        (if r.shape = .ramp ∧ x.stop.map (fun (w : Nat) => (w : Int)) ≠ r.endValue then 1 else 0) +
        (if k = .pwm ∧ x.secondary ≠ r.secondary then 1 else 0)

/-- SEG_APPEND, its refusals and the form its records are stored in. -/
def Obligations.RecordsAppendedAndStored : Prop := Claims.RecordsAppended ∧ Claims.AppendRefused ∧ Claims.RecordsStored

/-- LOOP_BREAK (R61): the loop record nearest the head is broken with no pass left. -/
def Sys2Proof.Claims.LoopBroken : Prop :=
  ∀ (tag c : Nat) (s : State), s.part.takes (.loopBreak tag c) = true → tag ≠ 0 →
    let p := s.part.taken (.loopBreak tag c)
    let ch := p.channel c
    let no (code : RefusalCode) (i : Nat) : Answer := .refuse { code := code, field := i, position := 0, named := none }
    (31 < c → exec (.loopBreak tag c) s = .next (s.replied p tag (no .badField 1))) ∧
    (c ≤ 31 → ch.state = .off → exec (.loopBreak tag c) s = .next (s.replied p tag (no .notConfigured 0))) ∧
    (c ≤ 31 → ch.state ≠ .off → (∀ q ∈ ch.queue, q.isLoop = false) →
      exec (.loopBreak tag c) s = .next (s.replied p tag (no .noLoop 0))) ∧
    (∀ (front back : List QRec) (slot k r left : Nat) (broken : Bool), c ≤ 31 → ch.state ≠ .off →
      ch.queue = front ++ { slot := slot, content := .loop k r left broken } :: back →
      (∀ q ∈ front, q.isLoop = false) →
      exec (.loopBreak tag c) s =
        .next (s.replied
          (p.setChannel c { ch with queue := front ++ { slot := slot, content := .loop k r 0 true } :: back }) tag
          (.ack (.loopBreak c (front.length + 1) r left))))

/-- A loop record reached in play (R59): while it is unbroken and passes are left it returns to the first record of its
body, `remaining` falling by one unless r is 0; else it and its body are freed and play goes on behind it, starving where
nothing follows. The record that starts raises its marker (R62). -/
def Sys2Proof.Claims.LoopsSettled : Prop :=
  ∀ (c slot slot' lslot k r left : Nat) (broken : Bool) (pl : Play) (x : Segment) (front body back : List QRec)
    (s : State), c < 32 → s.part.channels.length = 32 →
    let p := s.part
    let now := p.clock.ticks
    let ch := p.channel c
    let mark := (ch.config.bind ChConfig.lowWater).getD 0
    let before := 1 + back.length
    ch.state = .running → ch.play = some pl → pl.place = front.length + body.length →
    -- the record in play, a TIME HOLD that is isOver, is the last of the loop's body
    ch.queue = front ++ body ++ ({ slot := slot, content := .segment x } : QRec) ::
      { slot := lslot, content := .loop k r left broken } :: back →
    k = body.length + 1 → x.basis = .time → x.endFlag = false → pl.startTick + x.length ≤ now → 1 ≤ x.length →
    (∀ q ∈ front ++ body ++ back, q.isLoop = false) → p.damage = [] →
    (broken = false → (r = 0 ∨ 0 < left) →
      ∀ (y : Segment), (body ++ [({ slot := slot, content := .segment x } : QRec)]).head? =
          some { slot := slot', content := .segment y } →
        ∃ q, exec (.segmentEnd c) s = .next (s.withPart q) ∧
          (p.setChannel c (({ ch with
            held := ch.base
            queue := front ++ body ++ ({ slot := slot, content := .segment x } : QRec) ::
              { slot := lslot, content := .loop k r (if r = 0 then left else left - 1) broken } :: back }).startedAt now
                front.length 0 y)).Started c 0 before (body.length + 1 + back.length) mark y q) ∧
    ((broken = true ∨ r ≠ 0 ∧ left = 0) →
      (back = [] →
        exec (.segmentEnd c) s =
          .next (s.withPart ((((p.logError .channelUnderrun (.channel c) 0).putChannel c { ch with
            state := .starved, queue := front, play := none, held := ch.base, starvedAt := some now
            startAt := none, resumeAt := none }).raise (.channel c)).renderAgain c))) ∧
      (∀ (z : Segment) (rest : List QRec), back = { slot := slot', content := .segment z } :: rest →
        ∃ q, exec (.segmentEnd c) s = .next (s.withPart q) ∧
          (p.setChannel c (({ ch with held := ch.base, queue := front ++ back }).startedAt now front.length 0 z)).Started c 0
            before rest.length mark z q))

/-- LOOP_BREAK and how play meets a loop record. -/
def Obligations.LoopsBrokenAndSettled : Prop := Claims.LoopBroken ∧ Claims.LoopsSettled

/-- CHANNEL_RUN_START (R25, R55, R60, R62, R64, R65): on its tick the head record starts and raises its marker, a slot error in it
corrected and logged; an empty queue starves the channel at its park value with CHANNEL_UNDERRUN; a record beyond correction
makes it FAULTED; before its tick nothing happens. A render of the tick taken before is taken again. -/
def Sys2Proof.Claims.RunStarted : Prop :=
  ∀ (c at0 : Nat) (s : State), c < 32 → s.part.channels.length = 32 →
    let p := s.part
    let now := p.clock.ticks
    let ch := p.channel c
    let run (x : Channel) : Channel := { x with startAt := none, held := (ch.config.map ChConfig.parkValue).getD 0 }
    ch.state = .running → ch.startAt = some at0 →
    (now < at0 → exec (.channelRunStart c) s = .next s) ∧
    (at0 ≤ now → ch.config.map ChConfig.kind = some .wheel →
      exec (.channelRunStart c) s =
        .next (s.withPart (p.putChannel c ((run ch).wheelRender (p.patternOf ch) (p.engine.acc / 65536))))) ∧
    (at0 ≤ now → ch.config.map ChConfig.kind ≠ some .wheel → ch.queue = [] →
      exec (.channelRunStart c) s =
        .next (s.withPart
          ((((p.logError .channelUnderrun (.channel c) 0).putChannel c
            { run ch with state := .starved, play := none, starvedAt := some now, resumeAt := none }).raise
            (.channel c)).renderAgain c))) ∧
    (∀ (slot : Nat) (r : Segment) (rest : List QRec), at0 ≤ now → ch.config.map ChConfig.kind ≠ some .wheel →
      ch.queue = { slot := slot, content := .segment r } :: rest →
      let mark := (ch.config.bind ChConfig.lowWater).getD 0
      ((∀ d ∈ p.damage, d.1 ≠ slot) →
        ∃ q, exec (.channelRunStart c) s = .next (s.withPart q) ∧
          (p.setChannel c ((run ch).startedAt now 0 0 r)).Started c 0 (rest.length + 1) rest.length mark r q) ∧
      (p.damage.find? (fun d => d.1 = slot) = some (slot, .correctable) →
        ∃ q, exec (.channelRunStart c) s = .next (s.withPart q) ∧
          ((({ p with damage := p.damage.filter fun d => d.1 ≠ slot }).setChannel c
            ((run ch).startedAt now 0 0 r)).logError .storeCorrected (.channel c) slot).Started c 0 (rest.length + 1)
              rest.length mark r q) ∧
      (p.damage.find? (fun d => d.1 = slot) = some (slot, .uncorrectable) →
        exec (.channelRunStart c) s =
          .next (s.withPart
            ((((p.logError .storeUncorrectable (.channel c) slot).putChannel c
              { run ch with state := .faulted, queue := [], play := none, starvedAt := none, resumeAt := none }).raise
              (.channel c)).renderAgain c))))

/-- CHANNEL_RESUME (R54, R62, R64, R65): the tick after the append the head record starts and raises its marker, a slot error in
it corrected and logged, the channel is RUNNING, and the starved time is added to the slip total, which holds at
4,294,967,295; a record beyond correction makes it FAULTED (log entry 24). -/
def Sys2Proof.Claims.ChannelResumed : Prop :=
  ∀ (c at0 since slot : Nat) (r : Segment) (rest : List QRec) (s : State), c < 32 → s.part.channels.length = 32 →
    let p := s.part
    let now := p.clock.ticks
    let ch := p.channel c
    ch.state = .starved → ch.resumeAt = some at0 → ch.starvedAt = some since → ch.play = none →
    ch.queue = { slot := slot, content := .segment r } :: rest →
    let x : Channel := { ch with
      state := .running, slipTotal := min (ch.slipTotal + (now - since)) 4294967295, starvedAt := none, resumeAt := none
      runStart := some now }
    let v := (p.putChannel c x).raise (.channel c)
    let started (u : Part) : Part := u.setChannel c ((v.channel c).startedAt now 0 0 r)
    let mark := (ch.config.bind ChConfig.lowWater).getD 0
    (now < at0 → exec (.channelResume c) s = .next s) ∧
    (at0 ≤ now → (∀ d ∈ p.damage, d.1 ≠ slot) →
      ∃ q, exec (.channelResume c) s = .next (s.withPart q) ∧
        (started v).Started c 0 (rest.length + 1) rest.length mark r q) ∧
    (at0 ≤ now → p.damage.find? (fun d => d.1 = slot) = some (slot, .correctable) →
      (slot, SlotError.uncorrectable) ∉ p.damage →
      ∃ q, exec (.channelResume c) s = .next (s.withPart q) ∧
        ((started { v with damage := p.damage.filter fun d => d.1 ≠ slot }).logError .storeCorrected (.channel c)
          slot).Started c 0 (rest.length + 1) rest.length mark r q) ∧
    (at0 ≤ now → (slot, SlotError.uncorrectable) ∈ p.damage →
      exec (.channelResume c) s =
        .next (s.withPart (((p.logError .storeUncorrectable (.channel c) slot).putChannel c { ch with
          state := .faulted, queue := [], starvedAt := none, startAt := none, resumeAt := none }).raise (.channel c))))

/-- The run start of a channel and its resumption. -/
def Obligations.RunStartedAndResumed : Prop := Claims.RunStarted ∧ Claims.ChannelResumed

/-- SEGMENT_END and ANGLE_SEGMENT_END (R56 to R58, R60, R62 to R65): a record in play that has reached its length ends; an END
record leaves the channel DONE at its end value with its queue freed; with no record after it the channel starves; a segment
after it starts on the same tick and raises its marker, an ANGLE one with the carry, which may end it at once; a slot error
in it is corrected and logged, or beyond correction makes the channel FAULTED; a record short of its length goes on. A render
of the tick taken before is taken again. -/
def Obligations.SegmentsEnd : Prop :=
  ∀ (c slot : Nat) (pl : Play) (r : Segment) (s : State), c < 32 → s.part.channels.length = 32 →
    let p := s.part
    let now := p.clock.ticks
    let ch := p.channel c
    let run := exec (if r.basis = .time then .segmentEnd c else .angleSegmentEnd c) s
    let isOver : Prop := if r.basis = .time then pl.startTick + r.length ≤ now else r.length * 65536 ≤ pl.travel
    let carry := if r.basis = .time then 0 else pl.travel - r.length * 65536
    ch.state = .running → ch.play = some pl → ch.queue[pl.place]? = some { slot := slot, content := .segment r } →
    exec (if r.basis = .time then .angleSegmentEnd c else .segmentEnd c) s = .next s ∧
    (¬isOver → run = .next s) ∧
    (isOver → r.endFlag = true →
      run = .next (s.withPart (((p.putChannel c { ch with
        state := .done, queue := [], play := none, starvedAt := none, startAt := none, resumeAt := none
        held := if r.shape = .ramp then r.stop.getD r.start else r.start }).raise (.channel c)).renderAgain c))) ∧
    (isOver → r.endFlag = false → ch.queue.length = pl.place + 1 →
      run = .next (s.withPart ((((p.logError .channelUnderrun (.channel c) (r.marker.getD 0)).putChannel c { ch with
        state := .starved, queue := ch.queue.take pl.place, play := none, held := ch.base, starvedAt := some now
        startAt := none, resumeAt := none }).raise (.channel c)).renderAgain c))) ∧
    (∀ (slot' : Nat) (r' : Segment), isOver → r.endFlag = false →
      ch.queue[pl.place + 1]? = some { slot := slot', content := .segment r' } →
      let travel := if r'.basis = .angle then carry else 0
      let before := ch.queue.length - (pl.place + 1)
      let mark := (ch.config.bind ChConfig.lowWater).getD 0
      -- the channel with the next record in play
      ∀ x : Channel,
        (¬Retained ch.queue pl.place →
          x = ({ ch with queue := ch.queue.eraseIdx pl.place, held := ch.base }).startedAt now pl.place travel r') →
        (Retained ch.queue pl.place → x = ({ ch with held := ch.base }).startedAt now (pl.place + 1) travel r') →
        ((∀ d ∈ p.damage, d.1 ≠ slot') →
          ∃ q, run = .next (s.withPart q) ∧ (p.setChannel c x).Started c travel before (before - 1) mark r' q) ∧
        (p.damage.find? (fun d => d.1 = slot') = some (slot', .correctable) →
          ∃ q, run = .next (s.withPart q) ∧
            ((({ p with damage := p.damage.filter fun d => d.1 ≠ slot' }).setChannel c x).logError .storeCorrected
              (.channel c) slot').Started c travel before (before - 1) mark r' q) ∧
        (p.damage.find? (fun d => d.1 = slot') = some (slot', .uncorrectable) →
          run = .next (s.withPart ((((p.logError .storeUncorrectable (.channel c) slot').putChannel c { ch with
            state := .faulted, queue := [], play := none, held := ch.base, starvedAt := none, startAt := none
            resumeAt := none }).raise (.channel c)).renderAgain c))))

/-! ### Conditions, event slots, trigger inputs and start groups -/

/-- An occurrence that meets no waiter (R74, R75): every slot whose selection matches counts it, modulo 2^32, with its stamp
and origin, and nothing else changes, but that an ACTIVE entry's own ACTIVE occurrence, counted, begins its UNTIL_EVENT watch
(R140). -/
def Sys2Proof.Claims.OccurrenceCounted : Prop :=
  ∀ (o : Occurrence) (p : Part), p.slots.length = 16 → p.Unwaited o →
    ((∀ e, o = .entry e .active → (p.entry e).state ≠ .active ∨ (p.entry e).endCause.isSome = true) →
      settleAll (p, [.occur o]) = p.counted o) ∧
    ∀ e, o = .entry e .active → (p.entry e).state = .active → (p.entry e).endCause = none →
      settleAll (p, [.occur o]) = (p.counted o).setEntry e { p.entry e with untilWatch := true }

/-- An occurrence that brings a slot's count to a group's ON_EVENT target starts the group on that tick (R72, R82); with no
channel PRIMED for it and no slot watching the group, its count rises, its record shows 0 channels, it is IDLE and its
notice is raised. -/
def Sys2Proof.Claims.EventMeetsGroup : Prop :=
  ∀ (o : Occurrence) (n g : Nat) (c : Condition) (p : Part),
    let target := ((p.slot n).count + 1) % 4294967296
    p.slots.length = 16 → p.groups.length = 8 → n < 16 → g < 8 →
    (∀ k < 16, (p.slot k).source.matchesOcc o = true ↔ k = n) → (∀ k < 16, (p.slot k).source.matchesOcc (.group g) = false) →
    (∀ e, o = .entry e .active → (p.entry e).state ≠ .active) →
    (p.group g).armed = some (c, .event n target) →
    (∀ e < 128, (p.entry e).waiting ≠ some (.event n target) ∧ (p.entry e).untilWatch = false) →
    (∀ h < 8, h ≠ g → ∀ c', (p.group h).armed ≠ some (c', .event n target)) →
    (∀ k < 32, (p.channel k).state ≠ .primed) →
    settleAll (p, [.occur o]) =
      ((p.counted o).setGroup g
        { armed := none, startCount := ((p.group g).startCount + 1) % 4294967296
          lastStart := some { stamp := p.stamp, channels := 0 } }).raise (.group g)

/-- What an occurrence leaves to be done once its slots have counted it (R72, R137, R140): two ARMED entries whose targets it
brings, on whichever slots, are due, each with its target as due point; an ACTIVE entry whose UNTIL_EVENT slot counts it ends
COMPLETED. That all its slots count it before any waiter is taken is log entry 13. -/
def Sys2Proof.Claims.EventMeetsEntries : Prop :=
  ∀ (o : Occurrence) (p : Part), p.slots.length = 16 →
    (∀ e, o ≠ .entry e .active) →
    (∀ g < 8, ∀ n < 16, ∀ c t, (p.slot n).source.matchesOcc o = true → (p.group g).armed ≠ some (c, .event n t)) →
    let hit (n : Nat) : Prop := n < 16 ∧ (p.slot n).source.matchesOcc o = true
    let due (e n t : Nat) : Prop := e < 128 ∧ (p.entry e).state = .armed ∧ (p.entry e).waiting = some (.event n t) ∧
      hit n ∧ t = ((p.slot n).count + 1) % 4294967296
    let quiet (e : Nat) : Prop := (p.entry e).state = .armed →
      ∀ n t, (p.entry e).waiting = some (.event n t) → hit n → t ≠ ((p.slot n).count + 1) % 4294967296
    (∀ e n t, due e n t → (∀ k < 128, k ≠ e → quiet k) → (∀ k < 128, (p.entry k).untilWatch = false) →
      p.occur o = (p.counted o, [.due e (.event n t) t])) ∧
    (∀ e f n m t u, e < f → due e n t → due f m u → (∀ k < 128, k ≠ e → k ≠ f → quiet k) →
      (∀ k < 128, (p.entry k).untilWatch = false) →
      p.occur o = (p.counted o, [.due e (.event n t) t, .due f (.event m u) u])) ∧
    (∀ e d n, e < 128 → hit n → (p.entry e).state = .active → (p.entry e).untilWatch = true →
      (p.entry e).definition = some d → d.duration = .untilEvent n →
      (∀ k < 128, quiet k) → (∀ k < 128, k ≠ e → (p.entry k).untilWatch = false) →
      p.occur o = (p.counted o, [.endUntil e (p.entry e).occurrences]) ∧
      (p.counted o).doTask (.endUntil e (p.entry e).occurrences) = (p.counted o).endActive e .completed)

/-- An occurrence counted on its slots, and the group and the entries it meets. -/
def Obligations.OccurrenceCountedAndMet : Prop := Claims.OccurrenceCounted ∧ Claims.EventMeetsGroup ∧ Claims.EventMeetsEntries

/-- SLOT_CONFIG (R75, R77): its checks in order; the source is written and the count and last-occurrence record are cleared. That
a selection out of its range is named by field 3 is log entry 18. -/
def Sys2Proof.Claims.SlotConfigured : Prop :=
  ∀ (tag n kind b2 b3 : Nat) (s : State), s.part.takes (.slotConfig tag n kind b2 b3) = true → tag ≠ 0 →
    let p := s.part.taken (.slotConfig tag n kind b2 b3)
    let run := exec (.slotConfig tag n kind b2 b3) s
    let no (code : RefusalCode) (i : Nat) : Answer := .refuse { code := code, field := i, position := 0, named := none }
    let good : Prop :=
      match kind with
      | 0 => True
      | 1 => b2 ≤ 7 ∧ b3 ≤ 2
      | 2 => b2 ≤ 15 ∧ b3 ≤ 1
      | 3 => b2 * 256 + b3 ≤ 46079
      | 4 => 1 ≤ b2 ∧ b2 ≤ 15 ∧ (b3 ≤ 31 ∨ b3 = 255)
      | 5 => b2 ≤ 127 ∧ b3 ≤ 1
      | _ => b2 ≤ 7
    let src : Source :=
      match kind with
      | 0 => .none
      | 1 => .trigger b2 (if b3 = 0 then .rise else if b3 = 1 then .fall else .both)
      | 2 => .monitor b2 (decide (b3 = 0))
      | 3 => .angleMark (b2 * 256 + b3)
      | 4 => .segmentMark b2 (if b3 = 255 then none else some b3)
      | 5 => .entry b2 (if b3 = 0 then .active else .released)
      | _ => .group b2
    let waits : Prop :=
      (∃ e ∈ p.entries, (∃ t, e.waiting = some (.event n t)) ∧ (e.state = .armed ∨ e.state = .blocked)) ∨
      (∃ e ∈ p.entries, e.definition.map EntryDef.duration = some (.untilEvent n) ∧
        (e.state = .inserting ∨ e.state = .active)) ∨
      (∃ g ∈ p.groups, ∃ c t, g.armed = some (c, .event n t))
    (15 < n → run = .next (s.replied p tag (no .badField 1))) ∧
    (n ≤ 15 → 6 < kind → run = .next (s.replied p tag (no .badField 2))) ∧
    (n ≤ 15 → kind ≤ 6 → ¬good → run = .next (s.replied p tag (no .badField 3))) ∧
    (n ≤ 15 → kind ≤ 6 → good →
      (waits → run = .next (s.replied p tag (no .busy 0))) ∧
      (¬waits →
        run = .next (s.replied { p with slots := p.slots.set n { source := src, count := 0, last := none } } tag
          (.ack (.slotConfig n src)))))

/-- SLOT_GET (R78). -/
def Sys2Proof.Claims.SlotRead : Prop :=
  ∀ (tag n : Nat) (s : State), s.part.takes (.slotGet tag n) = true → tag ≠ 0 →
    let p := s.part.taken (.slotGet tag n)
    let shown (k : Nat) : SlotSnapshot :=
      { slot := k, source := (p.slot k).source, count := (p.slot k).count, last := (p.slot k).last
        waiters := p.entries.countP (fun e => e.waitsOn k) + p.groups.countP (fun g => g.waitsOn k) }
    exec (.slotGet tag n) s =
      .next (s.replied p tag (
        if n = 255 then .ack (.slots ((List.range 16).map shown))
        else if 15 < n then .refuse { code := .badField, field := 1, position := 0, named := none }
        else .ack (.slots [shown n])))

/-- SLOT_CONFIG and SLOT_GET (R77, R78). -/
def Obligations.SlotConfiguredAndRead : Prop := Claims.SlotConfigured ∧ Claims.SlotRead

/-- TRIGGER_CFG (R80); the order of the checks is log entry 47. -/
def Sys2Proof.Claims.TriggerConfigured : Prop :=
  ∀ (tag i : Nat) (width : Option Nat) (s : State), s.part.takes (.triggerCfg tag i width) = true → tag ≠ 0 →
    let p := s.part.taken (.triggerCfg tag i width)
    let x := p.trigger i
    let w := width.getD x.width
    exec (.triggerCfg tag i width) s =
      .next (
        if 7 < i then s.replied p tag (.refuse { code := .badField, field := 1, position := 0, named := none })
        else if ∃ v ∈ width, 1000 < v then
          s.replied p tag (.refuse { code := .badField, field := 2, position := 0, named := none })
        else s.replied (p.setTrigger i { x with width := w }) tag (.ack (.trigger i w x.filtered)))

/-- The trigger filter (R79, R80): what one sample does to a change in progress, and TRIGGER_ACCEPT, which takes a change
once its width has passed: the filtered level turns and its TRIGGER occurrence is raised, with all that the waiters it meets
bring about (R72), and with none it is counted. That a sample of the old level abandons a change whose lowered width it had
reached is log entry 43. -/
def Sys2Proof.Claims.TriggerFiltered : Prop :=
  (∀ (now : Nat) (level : Bool) (x : TriggerInput),
    x.sample now level =
      { x with
        judged := x.width
        change := if level = x.filtered then none else match x.change with
          | some t => some t
          | none => some now }) ∧
  ∀ (i : Nat) (s : State), i < 8 → s.part.triggers.length = 8 → s.part.slots.length = 16 →
    let p := s.part
    let x := p.trigger i
    let turned := p.setTrigger i { x with filtered := !x.filtered, change := none }
    (∀ t, x.change = some t → t + x.judged ≤ p.clock.ticks →
      exec (.triggerAccept i) s = .next (s.withPart (settleAll (turned, [.occur (.trigger i (!x.filtered))]))) ∧
      (p.Unwaited (.trigger i (!x.filtered)) →
        exec (.triggerAccept i) s = .next (s.withPart (turned.counted (.trigger i (!x.filtered)))))) ∧
    ((∀ t, x.change = some t → p.clock.ticks < t + x.judged) → exec (.triggerAccept i) s = .next s)

/-- TRIGGER_CFG and the trigger filter (R79, R80). -/
def Obligations.TriggerConfiguredAndFiltered : Prop := Claims.TriggerConfigured ∧ Claims.TriggerFiltered

/-- GROUP_ARM (R69, R70, R81, R82): its checks in order; the waiting form of each kind; a condition not yet met leaves the
group ARMED with its notice raised, and one met on the tick of the request starts it before the reply is formed. That a time
above 2^48 − 1 fails the form check is log entry 50. -/
def Sys2Proof.Claims.GroupArmed : Prop :=
  ∀ (tag g : Nat) (c : RawCondition) (s : State), s.part.takes (.groupArm tag g c) = true → tag ≠ 0 →
    let p := s.part.taken (.groupArm tag g c)
    let run := exec (.groupArm tag g c) s
    let no (code : RefusalCode) (i : Nat) : Answer := .refuse { code := code, field := i, position := 0, named := none }
    let badForm : Prop :=
      match c with
      | .now => False
      | .atTime t => 281474976710655 < t
      | .atAngle a f => 46079 < a ∨ ∃ n ∈ f, 4294967295 < n
      | .onEvent n k => 15 < n ∨ k < 1 ∨ 65535 < k
      | .unknown _ => True
    let w : Waiting :=
      match c with
      | .atTime t => .time t
      | .atAngle a f => .angle a f
      | .onEvent n k => .event n (((p.slot n).count + k) % 4294967296)
      | _ => .time p.clock.ticks
    let armed (x : Condition) : Part := (p.setGroup g { p.group g with armed := some (x, w) }).raise (.group g)
    let unset : Prop := ∃ n k, c = .onEvent n k ∧ (p.slot n).source = .none
    (7 < g → run = .next (s.replied p tag (no .badField 1))) ∧
    (g ≤ 7 → badForm → run = .next (s.replied p tag (no .badField 2))) ∧
    (g ≤ 7 → ¬badForm →
      (p.safe.isSome = true → run = .next (s.replied p tag (no .safeHold 0))) ∧
      (p.safe = none → (p.group g).armed.isSome = true → run = .next (s.replied p tag (no .busy 0))) ∧
      (p.safe = none → (p.group g).armed = none →
        (∀ n k, c = .onEvent n k → (p.slot n).source = .none →
          run = .next (s.replied p tag
            (.refuse { code := .notConfigured, field := 2, position := 0, named := some n }))) ∧
        (¬unset → (∀ t, w = .time t → min t 281474976710655 > p.clock.rigTime) →
          run = .next (s.replied (armed (conditionStored c)) tag
            (.ack (.group ((armed (conditionStored c)).groupShown g))))) ∧
        (∀ t, w = .time t → min t 281474976710655 ≤ p.clock.rigTime → p.groups.length = 8 →
          (∀ k < 32, (p.channel k).state ≠ .primed) → p.slots.length = 16 → p.Unwaited (.group g) →
          let q := (((armed (conditionStored c)).setGroup g
            { armed := none, startCount := ((p.group g).startCount + 1) % 4294967296
              lastStart := some { stamp := p.stamp, channels := 0 } }).counted (.group g)).raise (.group g)
          run = .next (s.replied q tag (.ack (.group (q.groupShown g)))))))

/-- GROUP_CANCEL (R83). -/
def Sys2Proof.Claims.GroupCancelled : Prop :=
  ∀ (tag g : Nat) (s : State), s.part.takes (.groupCancel tag g) = true → tag ≠ 0 →
    let p := s.part.taken (.groupCancel tag g)
    let q := (p.setGroup g { p.group g with armed := none }).raise (.group g)
    let shown (r : Part) : Body := .group (r.groupShown g)
    exec (.groupCancel tag g) s =
      .next (
        if 7 < g then s.replied p tag (.refuse { code := .badField, field := 1, position := 0, named := none })
        else if (p.group g).armed.isSome then s.replied q tag (.ack (shown q))
        else s.replied p tag (.ack (shown p)))

/-- GROUP_ARM and GROUP_CANCEL (R81, R83). -/
def Obligations.GroupArmedAndCancelled : Prop := Claims.GroupArmed ∧ Claims.GroupCancelled

/-- A group's start (R25, R55, R60, R62, R63, R65, R82): every channel PRIMED for it becomes RUNNING on the tick, and no other. A
WHEEL channel renders from the angle; with an empty queue a channel starves with CHANNEL_UNDERRUN; a head record beyond
correction makes it FAULTED; else that record is in play from the tick, its marker counted, pending falling to the low-water
mark or below raising the cause. Then the group is counted. That the members start in channel order is log entry 13. -/
def Obligations.GroupStartsMembers : Prop :=
  ∀ (g : Nat) (w : Waiting) (c : Condition) (p : Part),
    let now := p.clock.ticks
    let members := (List.range 32).filter fun k => (p.channel k).state = .primed ∧
      ((p.channel k).config.bind ChConfig.startGroup) = some g
    let wheel (k : Nat) : Bool := decide ((p.channel k).config.map ChConfig.kind = some .wheel)
    let lost (slot : Nat) : Bool := p.damage.any fun d => d.1 = slot
    let started (k : Nat) : Channel := { p.channel k with
      state := .running, runStart := some now, startAt := none
      held := ((p.channel k).config.map ChConfig.parkValue).getD 0 }
    g < 8 → p.channels.length = 32 → p.groups.length = 8 → p.slots.length = 16 →
    (∀ d ∈ p.damage, d.2 = .uncorrectable) →
    (p.group g).armed = some (c, w) → p.Unwaited (.group g) →
    (∀ k ∈ members, wheel k = false → ∀ x rest, (p.channel k).queue = x :: rest → ∃ r, x.content = .segment r ∧
      1 ≤ r.length ∧ ∀ m, r.marker = some m → p.Unwaited (.segmentMark m k)) →
    let q := settleAll (p, [.startGroup g w])
    -- what a member's start raises, logs and counts
    let effects (v : Part) (k : Nat) : Part :=
      let v1 := v.raise (.channel k)
      let n := (p.channel k).queue.length
      if wheel k then v1
      else match (p.channel k).queue with
        | [] => (v1.logError .channelUnderrun (.channel k) 0).raise (.channel k)
        | { slot := slot, content := .segment r } :: _ =>
          if lost slot then (v1.logError .storeUncorrectable (.channel k) slot).raise (.channel k)
          else
            (match r.marker with
              | some m => v1.counted (.segmentMark m k)
              | none => v1).fallen k n (n - 1) (((p.channel k).config.bind ChConfig.lowWater).getD 0)
        | _ => v1
    let after := ((members.foldl effects p).counted (.group g)).raise (.group g)
    (∀ k ∈ members,
      (wheel k = true →
        let x := (started k).wheelRender (p.patternOf (p.channel k)) (p.engine.acc / 65536)
        q.channel k = { x with pin := p.pinOf k x }) ∧
      (wheel k = false → (p.channel k).queue = [] →
        (q.channel k).state = .starved ∧ (q.channel k).starvedAt = some now ∧ (q.channel k).play = none ∧
        (q.channel k).queue = [] ∧ (q.channel k).runStart = some now ∧ (q.channel k).held = (started k).held) ∧
      ∀ slot r rest, wheel k = false → (p.channel k).queue = { slot := slot, content := .segment r } :: rest →
        (lost slot = true → (q.channel k).state = .faulted ∧ (q.channel k).queue = [] ∧
          (q.channel k).held = (started k).held) ∧
        (lost slot = false → (q.channel k).state = .running ∧ (q.channel k).queue = (p.channel k).queue ∧
          (q.channel k).play = some { place := 0, startTick := now, travel := 0 } ∧
          (q.channel k).runStart = some now ∧
          -- a level tick's render taken already, the new record shows on the tick (R55)
          ((p.channel k).config.map ChConfig.kind = some .level ∨ (p.channel k).config.map ChConfig.kind = some .speed →
            now % 10 = 0 → p.marks.level = false → (q.channel k).base = r.start))) ∧
    (∀ k < 32, k ∉ members → q.channel k = p.channel k) ∧
    q.group g = { armed := none, startCount := ((p.group g).startCount + 1) % 4294967296
                  lastStart := some { stamp := p.stamp, channels := members.length } } ∧
    (∀ h, h ≠ g → q.group h = p.group h) ∧
    q = { p with channels := q.channels, groups := q.groups, slots := after.slots, log := after.log, link := after.link }

/-- CONDITION_AT_TIME (R70): a waiting form whose time has come is met, an entry's with the time as its due point; one whose time
has not come changes nothing. -/
def Obligations.TimesMet : Prop :=
  (∀ (e t : Nat) (s : State), e < 128 →
    let p := s.part
    (p.entry e).state = .armed → (p.entry e).waiting = some (.time t) →
    (p.clock.rigTime < min t 281474976710655 → exec (.conditionAtTime (.entry e)) s = .next s) ∧
    (min t 281474976710655 ≤ p.clock.rigTime →
      exec (.conditionAtTime (.entry e)) s = .next (s.withPart (settleAll (p, [.due e (.time t) t]))))) ∧
  ∀ (g t : Nat) (c : Condition) (s : State), g < 8 →
    let p := s.part
    (p.group g).armed = some (c, .time t) →
    (p.clock.rigTime < min t 281474976710655 → exec (.conditionAtTime (.group g)) s = .next s) ∧
    (min t 281474976710655 ≤ p.clock.rigTime →
      exec (.conditionAtTime (.group g)) s = .next (s.withPart (settleAll (p, [.startGroup g (.time t)]))))

/-! ### Monitors and capture -/

/-- MONITOR_CONFIG and MONITOR_READ (R91, R92). -/
def Sys2Proof.Claims.MonitorsConfiguredAndRead : Prop :=
  (∀ (tag m high low : Nat) (s : State), s.part.takes (.monitorConfig tag m high low) = true → tag ≠ 0 →
    let p := s.part.taken (.monitorConfig tag m high low)
    let no (i : Nat) : State := s.replied p tag (.refuse { code := .badField, field := i, position := 0, named := none })
    exec (.monitorConfig tag m high low) s =
      .next (
        if 15 < m then no 1
        else if high < 1 ∨ 60000 < high then no 2
        else if 59999 < low then no 3
        else if high ≤ low then no 2
        else s.replied
          (p.setMonitor m { p.monitor m with highThreshold := high, lowThreshold := low, toSet := true }) tag
          (.ack (.monitorConfig m high low (p.monitor m).high true)))) ∧
  ∀ (tag m : Nat) (s : State), s.part.takes (.monitorRead tag m) = true → tag ≠ 0 →
    let p := s.part.taken (.monitorRead tag m)
    let rewound (x : Monitor) : Monitor := { x with minimum := x.last, maximum := x.last }
    let shown (k : Nat) : MonitorSnapshot :=
      let x := p.monitor k
      { monitor := k, current := x.last, minimum := x.minimum, maximum := x.maximum, highThreshold := x.highThreshold
        lowThreshold := x.lowThreshold, high := x.high, toSet := x.toSet, captureUp := x.captureUp
        captureDown := x.captureDown, sampleTime := min x.sampleTime 281474976710655 }
    exec (.monitorRead tag m) s =
      .next (
        if m = 255 then
          s.replied { p with monitors := p.monitors.map rewound } tag (.ack (.monitors ((List.range 16).map shown)))
        else if 15 < m then
          s.replied p tag (.refuse { code := .badField, field := 1, position := 0, named := none })
        else s.replied (p.setMonitor m (rewound (p.monitor m))) tag (.ack (.monitors [shown m])))

/-- MONITOR_SAMPLE (R72, R88 to R91, R93): without its mark it does nothing; with it every monitor takes its pin, held within
0..60,000. One due to be set takes its state from the high threshold and raises nothing; the others cross with hysteresis,
each crossing raising its occurrence and, where capture is enabled for its direction and not else, offering its record
(`CaptureOffered`). Where no waiter meets a crossing, that is all. The mark and the order of the monitors are log entries 6
and 14. -/
def Sys2Proof.Claims.MonitorsSampled : Prop :=
  ∀ s : State,
    let p := s.part
    let v (m : Nat) : Nat := min (p.pins.monitors.getD m 0).toNat 60000
    let high (m : Nat) : Bool :=
      let x := p.monitor m
      if x.toSet then decide (x.highThreshold ≤ v m)
      else if x.high then !decide (v m ≤ x.lowThreshold) else decide (x.highThreshold ≤ v m)
    let crossed (m : Nat) : Prop := (p.monitor m).toSet = false ∧ high m ≠ (p.monitor m).high
    let enabled (m : Nat) : Bool := if high m then (p.monitor m).captureUp else (p.monitor m).captureDown
    let sampled : Part := { p with
      marks := { p.marks with monitor := false }
      monitors := (List.range 16).map fun m => { p.monitor m with
        last := v m, minimum := min (p.monitor m).minimum (v m), maximum := max (p.monitor m).maximum (v m)
        sampleTime := p.clock.ticks, high := high m, toSet := false } }
    (p.marks.monitor = false → exec .monitorSample s = .next s) ∧
    (p.marks.monitor = true → p.monitors.length = 16 →
      exec .monitorSample s = .next (s.withPart (settleAll (sampled, (List.range 16).flatMap fun m =>
        if crossed m then
          Task.occur (.monitor m (high m)) :: (if enabled m then [.capture m (high m)] else [])
        else []))) ∧
      (p.slots.length = 16 → (∀ m < 16, ∀ up, p.Unwaited (.monitor m up)) →
        let offers := (List.range 16).filter fun m => decide (crossed m) && enabled m
        let offered := offers.foldl (fun u m => settleAll (u, [.capture m (high m)])) p
        ∃ q : Part, exec .monitorSample s = .next (s.withPart q) ∧
          (∀ n < 16, ∀ m up, (p.slot n).source = .monitor m up → m < 16 →
            q.slot n =
              if crossed m ∧ high m = up then
                { p.slot n with count := ((p.slot n).count + 1) % 4294967296, last := some (p.stamp, .monitor m) }
              else p.slot n) ∧
          (∀ n < 16, (∀ m up, (p.slot n).source ≠ .monitor m up) → q.slot n = p.slot n) ∧
          q = { sampled with slots := q.slots, capture := offered.capture, log := offered.log, link := offered.link }))

/-- MONITOR_CONFIG, MONITOR_READ and MONITOR_SAMPLE (R88 to R92). -/
def Obligations.MonitorsReadAndSampled : Prop := Claims.MonitorsConfiguredAndRead ∧ Claims.MonitorsSampled

/-- A crossing's capture record (R93, R94): it joins a ring with room; offered to a full ring it is dropped and counted,
CAPTURE_DROPPED being logged for the first of a run of drops. -/
def Sys2Proof.Claims.CaptureOffered : Prop :=
  ∀ (m : Nat) (up : Bool) (p : Part),
    let r : CaptureRecord := { monitor := m, up := up, stamp := p.stamp, tick := p.clock.ticks }
    let drops := min (p.capture.dropped + 1) 65535
    let full : Part := { p with capture := { p.capture with dropped := drops, dropMark := true } }
    let joined : Part := { p with capture := { p.capture with ring := p.capture.ring ++ [r], dropMark := false } }
    let settled := settleAll (p, [.capture m up])
    let due : Prop := p.capture.batch ≤ p.capture.ring.length + 1 ∨
      ∃ x ∈ (p.capture.ring ++ [r]).head?, x.tick + p.capture.flush * 1000 ≤ p.clock.ticks
    (p.capture.ring.length < 512 → due → (∀ n ∈ p.link.notices, n.source ≠ .capture) →
      settled = joined.raise .capture) ∧
    (p.capture.ring.length < 512 → ¬due ∨ (∃ n ∈ p.link.notices, n.source = .capture) → settled = joined) ∧
    (512 ≤ p.capture.ring.length → p.capture.dropMark = true → settled = full) ∧
    (512 ≤ p.capture.ring.length → p.capture.dropMark = false →
      settled = full.logError .captureDropped (.monitor m) drops)

/-- CAPTURE_CFG and CAPTURE_FLUSH (R95, R97): the fields present are written and the enables set; where the tick's test found
the flush interval reached, the capture cause is raised once, if the oldest record still has that age and no capture notice is
queued. The mark of the tick's test is log entry 6. -/
def Sys2Proof.Claims.CaptureConfiguredAndFlushed : Prop :=
  (∀ (tag : Nat) (batch flush : Option Nat) (n : Nat) (xs : List CaptureSetting) (s : State),
    s.part.takes (.captureCfg tag batch flush n xs) = true → tag ≠ 0 →
    let p := s.part.taken (.captureCfg tag batch flush n xs)
    p.monitors.length = 16 → (∀ b ∈ batch, 1 ≤ b ∧ b ≤ 32) → (∀ f ∈ flush, 1 ≤ f ∧ f ≤ 100) → n = xs.length → n ≤ 16 →
    (∀ x ∈ xs, x.monitor ≤ 15) → (xs.map CaptureSetting.monitor).Nodup →
    ∃ q : Part,
      exec (.captureCfg tag batch flush n xs) s =
        .next (s.replied q tag (.ack (.captureCfg (batch.getD p.capture.batch) (flush.getD p.capture.flush)
          (q.monitors.map fun m => (m.captureUp, m.captureDown)) p.capture.ring.length p.capture.dropped))) ∧
      q = { p with
        capture := { p.capture with batch := batch.getD p.capture.batch, flush := flush.getD p.capture.flush }
        monitors := q.monitors } ∧
      (∀ x ∈ xs, q.monitor x.monitor = { p.monitor x.monitor with captureUp := x.up, captureDown := x.down }) ∧
      ∀ m, m ∉ xs.map CaptureSetting.monitor → q.monitor m = p.monitor m) ∧
  ∀ s : State,
    let p := s.part
    (p.marks.flush = false → exec .captureFlush s = .next s) ∧
    (p.marks.flush = true →
      (∀ r rest, p.capture.ring = r :: rest → r.tick + p.capture.flush * 1000 ≤ p.clock.ticks →
        (∀ n ∈ p.link.notices, n.source ≠ .capture) →
        exec .captureFlush s =
          .next (s.withPart (({ p with marks := { p.marks with flush := false } }).raise .capture))) ∧
      ((∀ r rest, p.capture.ring = r :: rest → p.clock.ticks < r.tick + p.capture.flush * 1000) ∨
        (∃ n ∈ p.link.notices, n.source = .capture) → exec .captureFlush s = .next s))

/-- CAPTURE_CFG of fields that fail one of R97's checks: the first that fails gives the refusal, and nothing is written. That
the list is named by field 3, and a setting by field 4 with its position, is log entry 18. -/
def Sys2Proof.Claims.CaptureCfgRefused : Prop :=
  ∀ (tag : Nat) (batch flush : Option Nat) (n : Nat) (xs : List CaptureSetting) (s : State),
    s.part.takes (.captureCfg tag batch flush n xs) = true → tag ≠ 0 →
    let p := s.part.taken (.captureCfg tag batch flush n xs)
    let run := exec (.captureCfg tag batch flush n xs) s
    let no (i at1 : Nat) : Host.Outcome State Fault Refusal :=
      .next (s.replied p tag (.refuse { code := .badField, field := i, position := at1, named := none }))
    let bad1 : Prop := ∃ b, batch = some b ∧ (b < 1 ∨ 32 < b)
    let bad2 : Prop := ∃ f, flush = some f ∧ (f < 1 ∨ 100 < f)
    let bad3 : Prop := 16 < n ∨ n ≠ xs.length
    let bad4 (i : Nat) : Prop := ∃ x, xs[i]? = some x ∧
      (15 < x.monitor ∨ ∃ j < i, ∃ y, xs[j]? = some y ∧ y.monitor = x.monitor)
    (bad1 → run = no 1 0) ∧ (¬bad1 → bad2 → run = no 2 0) ∧ (¬bad1 → ¬bad2 → bad3 → run = no 3 0) ∧
    ∀ i, ¬bad1 → ¬bad2 → ¬bad3 → bad4 i → (∀ j < i, ¬bad4 j) → run = no 4 (i + 1)

/-- The capture ring, CAPTURE_CFG and CAPTURE_FLUSH (R93 to R97). -/
def Obligations.CaptureKept : Prop := Claims.CaptureOffered ∧ Claims.CaptureConfiguredAndFlushed ∧ Claims.CaptureCfgRefused

/-! ### The fault matrix -/

/-- PATROL_CFG (R117, R121): its checks; each field present is written; a new interval moves the next patrol step; a new
threshold marks WORN every cell at or above it, logging CELL_WORN for each and raising the matrix notice. The order of the
checks is log entry 47, that of several CELL_WORN loggings log entry 46. -/
def Sys2Proof.Claims.PatrolConfigured : Prop :=
  ∀ (tag : Nat) (settle interval wear : Option Nat) (s : State),
    s.part.takes (.patrolCfg tag settle interval wear) = true → tag ≠ 0 →
    let p := s.part.taken (.patrolCfg tag settle interval wear)
    let m := p.matrix
    let run := exec (.patrolCfg tag settle interval wear) s
    let no (i : Nat) : State := s.replied p tag (.refuse { code := .badField, field := i, position := 0, named := none })
    let bad1 : Prop := ∃ n ∈ settle, n < 20 ∨ 2000 < n
    let bad2 : Prop := ∃ n ∈ interval, n < 1 ∨ 100 < n
    let bad3 : Prop := ∃ n ∈ wear, n < 1 ∨ 255 < n
    let newly : List (Nat × CellId) := (List.range 64).flatMap fun l =>
      (allCells.filter fun c => !(p.cell l c).worn && decide (∃ w ∈ wear, w ≤ (p.cell l c).noMake)).map fun c => (l, c)
    (bad1 → run = .next (no 1)) ∧ (¬bad1 → bad2 → run = .next (no 2)) ∧
    (¬bad1 → ¬bad2 → bad3 → run = .next (no 3)) ∧
    (¬bad1 → ¬bad2 → ¬bad3 → p.MatrixShaped →
      ∃ q : Part,
        run = .next (s.replied q tag
          (.ack (.patrolCfg (settle.getD m.settle) (interval.getD m.patrolInterval) (wear.getD m.wearThreshold)))) ∧
        (∀ l < 64, ∀ c, q.cell l c =
          { p.cell l c with worn := (p.cell l c).worn || decide (∃ w ∈ wear, w ≤ (p.cell l c).noMake) }) ∧
        (∀ l < 64, q.line l = { p.line l with cells := (q.line l).cells }) ∧
        q.matrix = { m with
          lines := q.matrix.lines
          settle := settle.getD m.settle
          wearThreshold := wear.getD m.wearThreshold
          patrolInterval := interval.getD m.patrolInterval
          patrolNext := match interval with
            | some n =>
              if m.firstPass = true then
                (if m.patrolLast + n * 1000 < p.clock.ticks then p.clock.ticks + 1 else m.patrolLast + n * 1000)
              else m.patrolNext
            | none => m.patrolNext } ∧
        q.log = (newly.foldl (fun v k => v.logError .cellWorn (.cell k.1 k.2) (p.cell k.1 k.2).noMake) p).log ∧
        (newly ≠ [] → p.link.levels.matrix ≠ 7 → ∃ n ∈ q.link.notices, n.source = .matrix) ∧
        (newly = [] → q = { p with matrix := q.matrix }) ∧
        q.entries = p.entries ∧ q.claims = p.claims ∧ q.channels = p.channels ∧ q.engine = p.engine)

/-- CELL_RESTORE (R122): the health of the named cells is cleared; the matrix notice is raised if a WORN mark was. The order of
the checks is log entry 47. -/
def Sys2Proof.Claims.CellsRestored : Prop :=
  ∀ (tag line cell : Nat) (s : State), s.part.takes (.cellRestore tag line cell) = true → tag ≠ 0 →
    let p := s.part.taken (.cellRestore tag line cell)
    let run := exec (.cellRestore tag line cell) s
    let no (code : RefusalCode) (i : Nat) : State :=
      s.replied p tag (.refuse { code := code, field := i, position := 0, named := none })
    let named (c : CellId) : Prop := cell = 7 ∨ cellIndex c = cell
    (63 < line → run = .next (no .badField 1)) ∧
    (line ≤ 63 → 7 < cell → run = .next (no .badField 2)) ∧
    (line ≤ 63 → cell ≤ 7 → ∀ e, (p.line line).state = .held e → run = .next (no .busy 0)) ∧
    (line ≤ 63 → cell ≤ 7 → (∀ e, (p.line line).state ≠ .held e) → p.MatrixShaped →
      ∃ q : Part,
        run = .next (s.replied q tag
          (.ack (.cellHealth line (allCells.map fun c => ((q.cell line c).noMake, (q.cell line c).worn))))) ∧
        (∀ c, named c → q.cell line c = { p.cell line c with noMake := 0, worn := false }) ∧
        (∀ c, ¬named c → q.cell line c = p.cell line c) ∧
        (∀ l, l ≠ line → q.line l = p.line l) ∧
        q.line line = { p.line line with cells := (q.line line).cells } ∧
        q = { p with
          matrix := { p.matrix with lines := q.matrix.lines }
          link := if allCells.any (fun c => (decide (cell = 7) || decide (cellIndex c = cell)) && (p.cell line c).worn) then
            (p.raise .matrix).link else p.link })

/-- PATROL_CFG and CELL_RESTORE (R121, R122). -/
def Obligations.MatrixConfigured : Prop := Claims.PatrolConfigured ∧ Claims.CellsRestored

/-- MATRIX_GET (R123). -/
def Sys2Proof.Claims.MatrixRead : Prop :=
  ∀ (tag : Nat) (line : Option Nat) (s : State), s.part.takes (.matrixGet tag line) = true → tag ≠ 0 →
    let p := s.part.taken (.matrixGet tag line)
    let m := p.matrix
    exec (.matrixGet tag line) s =
      .next (match line with
        | none => s.replied p tag (.ack (.matrixSummary p.matrixShown))
        | some l =>
          if 63 < l then
            s.replied p tag (.refuse { code := .badField, field := 1, position := 0, named := none })
          else
            s.replied p tag (.ack (.lineDetail
              { line := l, state := (p.line l).state, lastOpen := min (p.line l).lastOpen 281474976710655
                sense := m.lineSense.getD l 0, cells := (p.line l).cells })))

/-- MATRIX_CLEAR (R120): nothing outside LOCKOUT; its refusals in order; else every ISOLATED line's series cell is commanded
CLOSED and the restore runs as one verified closing step. That STILL_WELDED carries its line apart from the field is log
entry 18. -/
def Sys2Proof.Claims.MatrixCleared : Prop :=
  ∀ (tag : Nat) (s : State), s.part.takes (.matrixClear tag) = true → tag ≠ 0 →
    let p := s.part.taken (.matrixClear tag)
    let run := exec (.matrixClear tag) s
    let no (code : RefusalCode) (n : Option Nat) : State :=
      s.replied p tag (.refuse { code := code, field := 0, position := 0, named := n })
    let held : Prop := ∃ l < 64, ∃ e, (p.line l).state = .held e
    (p.matrix.state ≠ .lockout → run = .next (s.replied p tag (.ack (.matrixClear p.matrix.state [])))) ∧
    (p.matrix.state = .lockout →
      (p.matrix.restore.isSome = true ∨ held → run = .next (no .busy none)) ∧
      (p.matrix.restore = none → ¬held →
        (∀ l < 64, (p.line l).state = .isolated false → (∀ k < l, (p.line k).state ≠ .isolated false) →
          run = .next (no .stillWelded (some l))) ∧
        ((∀ l < 64, (p.line l).state ≠ .isolated false) →
          let lines := (List.range 64).filter fun l => (p.line l).state = .isolated true
          ∃ q : Part,
            run = .next (s.replied q tag (.ack (.matrixClear .lockout lines))) ∧
            q = { p with matrix := { p.matrix with
              lines := q.matrix.lines
              restore := some
                { lines := lines
                  step := { closing := true, verified := true, targets := lines.map fun l => (l, .series), attempt := 1,
                            readAt := some (p.clock.ticks + p.matrix.settle) } } } } ∧
            ∀ l, q.line l = if l ∈ lines then (p.line l).closed .series else p.line l)))

/-- MATRIX_GET and MATRIX_CLEAR (R120, R123). -/
def Obligations.MatrixReadAndCleared : Prop := Claims.MatrixRead ∧ Claims.MatrixCleared

/-- CURRENT_READING (R103, R141): every sense takes its path's current, held at 10,000, with the tick; an ACTIVE ELECTRICAL
entry has a run on exactly its paths above its limit, kept from the run it had there or begun now. The mark of the cadence is
log entry 6. -/
def Sys2Proof.Claims.CurrentsRead : Prop :=
  ∀ s : State,
    let p := s.part
    (p.marks.current = false → exec .currentReading s = .next s) ∧
    (p.marks.current = true → p.entries.length = 128 →
      ∃ q : Part,
        exec .currentReading s = .next (s.withPart q) ∧
        q = { p with
          marks := { p.marks with current := false }
          entries := q.entries
          matrix := { p.matrix with
            lineSense := p.pins.lineCurrents.map fun i => min i 10000
            busSense := p.pins.busCurrents.map fun i => min i 10000
            senseTick := p.clock.ticks } } ∧
        ∀ e < 128,
          q.entry e = { p.entry e with runs := (q.entry e).runs } ∧
          ((p.entry e).state ≠ .active ∨ (p.entry e).electrical? = none → q.entry e = p.entry e) ∧
          ∀ d, (p.entry e).state = .active → (p.entry e).electrical? = some d → ∀ n t,
            (n, t) ∈ (q.entry e).runs ↔
              n ∈ d.paths ∧
              d.tripLimit.getD 3000 <
                (if n < 64 then q.matrix.lineSense.getD n 0 else q.matrix.busSense.getD (n - 64) 0) ∧
              t = (((p.entry e).runs.find? fun r => r.1 = n).map Prod.snd).getD p.clock.ticks)

/-- TRIP (R141): an ACTIVE entry one of whose runs has lasted its trip time at the last reading trips on the first such path:
sense number and current are recorded, its verified release begins with cause TRIPPED, and TRIP is logged with the sense
number; with no such run nothing changes. Of several paths the first trips (log entry 27). -/
def Sys2Proof.Claims.EntryTripped : Prop :=
  ∀ (e : Nat) (s : State), e < 128 →
    let p := s.part
    let x := p.entry e
    (x.state ≠ .active → exec (.trip e) s = .next s) ∧
    ∀ d, x.state = .active → x.electrical? = some d →
      let high (n : Nat) : Prop := ∃ t, (n, t) ∈ x.runs ∧ t + d.tripTime.getD 1000 ≤ p.matrix.senseTick
      ((∀ n ∈ d.paths, ¬high n) → exec (.trip e) s = .next s) ∧
      ∀ before n after, d.paths = before ++ n :: after → (∀ k ∈ before, ¬high k) → high n → x.endCause = none →
        let current := if n < 64 then p.matrix.lineSense.getD n 0 else p.matrix.busSense.getD (n - 64) 0
        let p1 := p.setEntry e { x with
          last := x.last.map fun r => { r with tripSense := some n, tripCurrent := some current } }
        (∃ l ∈ d.lines, (p.line l).state = .held e ∧
          ((p.cell l .series).commanded = false ∨ ∃ c ∈ d.faultCell, (p.cell l c).commanded = true)) →
        ∃ q : Part, exec (.trip e) s = .next (s.withPart (q.logError .trip (.entry e) n)) ∧
          p1.ReleaseBegun e d .tripped q

/-- CURRENT_READING and TRIP (R103, R141). -/
def Obligations.CurrentsReadAndTripped : Prop := Claims.CurrentsRead ∧ Claims.EntryTripped

/-- HELD_CLOSE_GIVEN (R106, R109): a held-back close is given once one settle interval has passed since the line's last open,
and not in SAFE or LOCKOUT; the attempt it belongs to is read back one settle interval after its last command. That this is
the interval in force at the last command, where PATROL_CFG has changed it since the first, is log entry 36. -/
def Sys2Proof.Claims.HeldCloseGiven : Prop :=
  ∀ (l : Nat) (s : State), l < 64 →
    let p := s.part
    let now := p.clock.ticks
    ((p.line l).heldClose = none → exec (.heldCloseGiven l) s = .next s) ∧
    ∀ c, (p.line l).heldClose = some c →
      (now < (p.line l).lastOpen + p.matrix.settle ∨ p.Barred → exec (.heldCloseGiven l) s = .next s) ∧
      ((p.line l).lastOpen + p.matrix.settle ≤ now → ¬p.Barred →
        let q := p.setLine l ((p.line l).closed c)
        ((∀ e, (p.line l).state = .held e → ∀ x, (p.entry e).seq = some x → x.step.readAt.isSome = true) →
          exec (.heldCloseGiven l) s = .next (s.withPart q)) ∧
        ∀ e x, (p.line l).state = .held e → (p.entry e).seq = some x → x.step.readAt = none →
          let waits : Bool := x.step.targets.any fun t => decide (t.1 ≠ l) && (p.line t.1).heldClose.isSome
          exec (.heldCloseGiven l) s =
            .next (s.withPart (q.setEntry e { p.entry e with
              seq := some { x with step := { x.step with
                readAt := if waits then none else some (now + p.matrix.settle) } } })))

/-- CHATTER_TOGGLE (R109, R115, R142): on its appointed tick an ACTIVE entry's chatter turns off for the off time, or on with
one more cycle made, for the on time unless that was the last; on every line of the entry its one cell is toggled. -/
def Sys2Proof.Claims.ChatterToggled : Prop :=
  ∀ (e : Nat) (s : State), e < 128 →
    let p := s.part
    let x := p.entry e
    let now := p.clock.ticks
    (x.state ≠ .active ∨ x.chatter = none → exec (.chatterToggle e) s = .next s) ∧
    ∀ d c r t, x.state = .active → x.electrical? = some d → d.chatter = some c → x.chatter = some r → r.nextAt = some t →
      (now < t → exec (.chatterToggle e) s = .next s) ∧
      (t ≤ now → p.matrix.lines.length = 64 →
        let r' : ChatterRun :=
          if r.on then { on := false, nextAt := some (t + c.offTime), made := r.made }
          else { on := true, made := r.made + 1
                 nextAt := if c.cycles ≠ 0 ∧ c.cycles ≤ r.made + 1 then none else some (t + c.onTime) }
        ∃ q : Part, exec (.chatterToggle e) s = .next (s.withPart q) ∧
          q.entry e = { x with chatter := some r' } ∧ (∀ k, k ≠ e → q.entry k = p.entry k) ∧
          q = { p with entries := q.entries, matrix := { p.matrix with lines := q.matrix.lines } } ∧
          ∀ l < 64, q.line l =
            if l ∈ d.lines then
              (match d.faultCell with
              | some k => if r.on then (p.line l).opened now k
                else (p.line l).closing (p.safe.isSome || decide (p.matrix.state = .lockout)) now p.matrix.settle k
              | none => if r.on then (p.line l).closed .series else (p.line l).opened now .series)
            else p.line l)

/-- HELD_CLOSE_GIVEN and CHATTER_TOGGLE (R109, R115, R142). -/
def Obligations.HeldClosesAndChatter : Prop := Claims.HeldCloseGiven ∧ Claims.ChatterToggled

/-- STEP_READBACK of an entry, before its tick and where it completes the step (R106, R110, R112, R138): before its tick nothing
changes; where an insertion's last step reads as commanded the entry becomes ACTIVE with the tick's stamp and its ENTRY
occurrence is counted; where a fault cell's closing follows, it begins on the tick; each cell that read right only at a second
or third attempt logs CELL_RETRY_OK. -/
def Sys2Proof.Claims.StepReadBack : Prop :=
  ∀ (e : Nat) (d : Electrical) (x : Seq) (s : State), e < 128 →
    let p := s.part
    let y := p.entry e
    let now := p.clock.ticks
    let run := exec (.stepReadback (.entry e)) s
    y.electrical? = some d → y.seq = some x → x.step.verified = true →
    ((∀ t, x.step.readAt = some t → now < t) → run = .next s) ∧
    (∀ t, x.step.readAt = some t → t ≤ now → p.MatrixShaped → x.step.targets.Nodup → (∀ k ∈ x.step.targets, k.1 < 64) →
      (∀ k ∈ x.step.targets, p.contact k.1 k.2 = x.step.closing) → x.disarmed = false →
      (x.phase = .inserting [] → y.state = .inserting → y.endCause = none → p.slots.length = 16 →
        p.Unwaited (.entry e .active) →
        ∃ r q : Part, run = .next (s.withPart q) ∧ p.Reads x.step true r ∧
          q.entry e =
            { y with
              state := .active, seq := none, activeTick := now, travel := 0, runs := [], untilWatch := true
              chatter := d.chatter.map fun c => { on := true, nextAt := some (now + c.onTime), made := 0 }
              last := y.last.map fun l => { l with start := some p.stamp } } ∧
          (∀ k, k ≠ e → q.entry k = p.entry k) ∧
          q = { r with entries := q.entries, slots := (p.counted (.entry e .active)).slots
                       link := (r.raise (.entry e)).link }) ∧
      ∀ c rest, c ≠ .series → x.phase = .inserting (.closeFault c :: rest) →
        ∃ r q : Part, run = .next (s.withPart q) ∧ p.Reads x.step true r ∧
          (∀ l, q.line l =
            if l ∈ p.heldLines e d then
              (r.line l).closing (p.safe.isSome || decide (p.matrix.state = .lockout)) now p.matrix.settle c
            else r.line l) ∧
          q.entry e = { y with
            seq := some
              { phase := .inserting rest, fast := false, disarmed := false, broken := [], followed := some now
                step := { closing := true, verified := true, targets := (p.heldLines e d).map fun l => (l, c), attempt := 1
                          readAt := if (p.heldLines e d).any fun l => (q.line l).heldClose.isSome then none
                            else some (now + p.matrix.settle) } } } ∧
          (∀ k, k ≠ e → q.entry k = p.entry k) ∧
          q = { r with entries := q.entries, matrix := { r.matrix with lines := q.matrix.lines } })

/-- STEP_READBACK of an entry with cells that read wrong at a first or second attempt (R106): each counts a no-make and is
commanded again, and no other, and the next readback follows one settle interval later. Here a closing step's wrong cells
are series cells, or fault cells that R109 neither bars nor holds back. -/
def Sys2Proof.Claims.StepRetried : Prop :=
  ∀ (e : Nat) (d : Electrical) (x : Seq) (t : Nat) (s : State), e < 128 →
    let p := s.part
    let y := p.entry e
    let now := p.clock.ticks
    let wrong := p.readWrong x.step.closing x.step.targets
    y.electrical? = some d → y.seq = some x → x.step.verified = true → x.step.readAt = some t → t ≤ now →
    p.MatrixShaped → x.step.targets.Nodup → (∀ k ∈ x.step.targets, k.1 < 64) →
    wrong ≠ [] → x.step.attempt < 3 → x.fast = false →
    (x.step.closing = true → ∀ k ∈ wrong, k.2 = .series ∨ ¬p.Barred ∧ (p.line k.1).lastOpen + p.matrix.settle ≤ now) →
    ∃ r q : Part, exec (.stepReadback (.entry e)) s = .next (s.withPart q) ∧ p.Reads x.step false r ∧
      q.entry e = { y with seq := some { x with
        followed := none
        step := { x.step with
          targets := wrong, attempt := x.step.attempt + 1, readAt := some (now + p.matrix.settle) } } } ∧
      (∀ k, k ≠ e → q.entry k = p.entry k) ∧
      (∀ l < 64, ∀ c, q.cell l c =
        if (l, c) ∈ wrong then { r.cell l c with commanded := x.step.closing } else r.cell l c) ∧
      (∀ l < 64, q.line l = { r.line l with
        cells := (q.line l).cells
        lastOpen := if x.step.closing = false ∧ l ∈ wrong.map Prod.fst then now else (p.line l).lastOpen
        heldClose := if l ∈ wrong.map Prod.fst then none else (p.line l).heldClose }) ∧
      q = { r with entries := q.entries, matrix := { r.matrix with lines := q.matrix.lines } }

/-- STEP_READBACK that ends a step which goes on to a release (R106, R107, R112 to R114, R143): an insertion step that fails
with a no-make at its third attempt ends the occurrence with cause CELL_FAULT, and a step met by a disarm keeps the cause
recorded; the verified release begins on the tick. -/
def Sys2Proof.Claims.InsertionStepFailed : Prop :=
  ∀ (e : Nat) (d : Electrical) (x : Seq) (t : Nat) (rest : List InsertStep) (s : State), e < 128 →
    let p := s.part
    let y := p.entry e
    let wrong := p.readWrong x.step.closing x.step.targets
    y.electrical? = some d → y.seq = some x → x.step.verified = true → x.step.readAt = some t → t ≤ p.clock.ticks →
    p.MatrixShaped → x.step.targets.Nodup → (∀ k ∈ x.step.targets, k.1 < 64) →
    x.phase = .inserting rest → y.state = .inserting →
    (y.endCause = none → x.disarmed = false → x.step.closing = true → 3 ≤ x.step.attempt → wrong ≠ [] →
      ∃ r q : Part, exec (.stepReadback (.entry e)) s = .next (s.withPart q) ∧ p.Reads x.step true r ∧
        r.ReleaseBegun e d .cellFault q) ∧
    (∀ cause, y.endCause = some cause → x.disarmed = true → wrong = [] →
      ∃ r q : Part, exec (.stepReadback (.entry e)) s = .next (s.withPart q) ∧ p.Reads x.step true r ∧
        r.ReleaseBegun e d cause q)

/-- STEP_READBACK of an opening step with cells that still read closed, at its third attempt or with the release become a fast
one (R106, R107, R112, R113, R116, R119): each is a weld with detail STEP, which locks the matrix out. An insertion is ended
by the lockout; a release leaves the welded lines and goes on, as a fast release, to its closing step, or ends. That of several
welds all are logged before LOCKOUT is entered and the lines isolated, in the order of the step's cells, is log entry 37. -/
def Sys2Proof.Claims.StepFindsWeld : Prop :=
  ∀ (e : Nat) (d : Electrical) (x : Seq) (t : Nat) (s : State), e < 128 →
    let p := s.part
    let y := p.entry e
    let run := exec (.stepReadback (.entry e)) s
    let wrong := p.readWrong x.step.closing x.step.targets
    y.electrical? = some d → y.seq = some x → x.step.verified = true → x.step.readAt = some t → t ≤ p.clock.ticks →
    p.MatrixShaped → p.entries.length = 128 → x.step.targets.Nodup → (∀ k ∈ x.step.targets, k.1 < 64) →
    x.step.closing = false → wrong ≠ [] → 3 ≤ x.step.attempt ∨ x.fast = true →
    (∀ rest, x.phase = .inserting rest → y.state = .inserting → p.matrix.state ≠ .lockout →
      ∃ r q : Part, run = .next (s.withPart q) ∧ p.Reads x.step true r ∧ q = settleAll (r.weldsFound .step wrong) ∧
        p.LockedOut wrong q) ∧
    (x.phase = .opening →
      ∃ r q : Part, run = .next (s.withPart q) ∧ p.Reads x.step true r ∧
        (let found := r.weldsFound .step wrong
         let after := found.1.releaseClosing e true x.broken
         q = settleAll (after.1, found.2 ++ after.2)) ∧
        p.LockedOut wrong q)

/-- STEP_READBACK of a release (R106, R107, R110, R113): the opening step read open begins the closing step, or ends the
release where no series cell is commanded OPEN; the closing step, read closed or at its third attempt, ends it, the lines
whose series cell failed to close becoming BROKEN. -/
def Sys2Proof.Claims.ReleaseStepsEnd : Prop :=
  ∀ (e : Nat) (d : Electrical) (x : Seq) (t : Nat) (s : State), e < 128 →
    let p := s.part
    let y := p.entry e
    let now := p.clock.ticks
    let run := exec (.stepReadback (.entry e)) s
    let wrong := p.readWrong x.step.closing x.step.targets
    y.electrical? = some d → y.seq = some x → x.step.verified = true → x.step.readAt = some t → t ≤ now →
    p.MatrixShaped → x.step.targets.Nodup → (∀ k ∈ x.step.targets, k.1 < 64) → x.fast = false →
    (x.phase = .opening → x.step.closing = false → wrong = [] →
      (p.releaseCloses e d ≠ [] →
        ∃ r q : Part, run = .next (s.withPart q) ∧ p.Reads x.step true r ∧
          q.entry e = { y with
            seq := some
              { phase := .closing, fast := false, disarmed := false, broken := x.broken, followed := none
                step := { closing := true, verified := true, targets := p.releaseCloses e d, attempt := 1
                          readAt := some (now + p.matrix.settle) } } } ∧
          (∀ k, k ≠ e → q.entry k = p.entry k) ∧
          (∀ l, q.line l = if (l, CellId.series) ∈ p.releaseCloses e d then (r.line l).closed .series else r.line l) ∧
          q = { r with entries := q.entries, matrix := { r.matrix with lines := q.matrix.lines } }) ∧
      (p.releaseCloses e d = [] →
        ∃ r q : Part, run = .next (s.withPart q) ∧ p.Reads x.step true r ∧ r.ReleaseEnded e d x.broken q)) ∧
    (x.phase = .closing → x.step.closing = true → wrong = [] ∨ 3 ≤ x.step.attempt →
      ∃ r q : Part, run = .next (s.withPart q) ∧ p.Reads x.step true r ∧
        r.ReleaseEnded e d (x.broken ++ wrong.map Prod.fst) q)

/-- STEP_READBACK of a restore (R105, R106, R120, R124). Series cells that read OPEN at a first or second attempt count a no-make
and are commanded CLOSED again, no other cell is, and the next readback follows one settle interval later. Read CLOSED, or at
the third attempt, the restore ends: each cell still OPEN logs CELL_NO_MAKE, and its line becomes BROKEN; each other line still
clear becomes PASS; a line whose clear mark patrol has cleared meanwhile stays ISOLATED, its series cell commanded OPEN again.
With no line left ISOLATED the matrix leaves LOCKOUT. The matrix notice is raised for each line that changes state, for the
matrix's own change, and for the end of the restore. -/
def Sys2Proof.Claims.RestoreReadBack : Prop :=
  ∀ (r : Restore) (t : Nat) (s : State),
    let p := s.part
    let now := p.clock.ticks
    let step : Step := { r.step with closing := true }
    let wrong := p.readWrong true step.targets
    let run := exec (.stepReadback .restore) s
    p.matrix.restore = some r → r.step.readAt = some t →
    (now < t → run = .next s) ∧
    (t ≤ now → p.MatrixShaped → step.targets.Nodup → (∀ k ∈ step.targets, k.1 < 64 ∧ k.2 = .series) → r.lines.Nodup →
      (∀ l ∈ r.lines, l < 64) →
      (wrong ≠ [] → r.step.attempt < 3 →
        ∃ v q : Part, run = .next (s.withPart q) ∧ p.Reads step false v ∧
          (∀ l < 64, q.line l = if (l, CellId.series) ∈ wrong then (v.line l).closed .series else v.line l) ∧
          q = { v with matrix := { v.matrix with
            lines := q.matrix.lines
            restore := some { r with
              step := { closing := true, verified := true, targets := wrong, attempt := r.step.attempt + 1
                        readAt := some (now + p.matrix.settle) } } } }) ∧
      (wrong = [] ∨ 3 ≤ r.step.attempt →
        ∃ v q : Part, run = .next (s.withPart q) ∧ p.Reads step true v ∧
          (∀ l < 64, q.line l =
            if l ∈ r.lines then
              match (p.line l).state with
              | .isolated true =>
                { v.line l with state := if (l, CellId.series) ∈ wrong then .broken else .pass }
              | .isolated false => (v.line l).opened now .series
              | _ => v.line l
            else v.line l) ∧
          (let stays : Prop := ∃ l < 64, ∃ clear, (q.line l).state = .isolated clear
           let unlocked : MatrixState := if p.matrix.firstPass then .ready else .readying
           let changes : Nat := (r.lines.filter fun l => (p.line l).state = .isolated true).length
           (stays → q.matrix.state = p.matrix.state ∧
             q.link = ((List.range (changes + 1)).foldl (fun u _ => u.raise .matrix) v).link) ∧
           (¬stays → q.matrix.state = unlocked ∧
             q.link = ((List.range (if p.matrix.state = unlocked then changes + 1 else changes + 2)).foldl
               (fun u _ => u.raise .matrix) v).link)) ∧
          q = { v with link := q.link, matrix := { v.matrix with
            lines := q.matrix.lines, state := q.matrix.state, restore := none } }))

/-- STEP_READBACK of an entry and of a restore (R106, R107, R110, R112, R113, R119, R120). The order of the loggings of one
readback (`Part.Reads`) is log entry 46, and of several welds of one readback log entry 37. -/
def Obligations.VerifiedStepsReadBack : Prop := Claims.StepReadBack ∧ Claims.StepRetried ∧ Claims.InsertionStepFailed ∧ Claims.StepFindsWeld ∧ Claims.ReleaseStepsEnd ∧ Claims.RestoreReadBack

/-- A weld found at a readback (R105, R107, R116, R119, R163): it is logged as CELL_WELDED with where it was found, and then the
matrix is in LOCKOUT; its line is ISOLATED with all seven cells commanded OPEN and a readback one settle interval later; on
entering LOCKOUT every INSERTING or ACTIVE ELECTRICAL entry is RELEASING, its cause LOCKOUT unless it had one. -/
def Obligations.WeldLocksOut : Prop :=
  ∀ (l : Nat) (c : CellId) (p : Part), p.MatrixShaped → p.entries.length = 128 → l < 64 →
    let q := (p.lockOut [(l, c)]).1
    (∀ place : WeldPlace, p.weldsFound place [(l, c)] =
      (p.logError .cellWelded (.cell l c)
        (match place with | .step => 1 | .fast => 2 | .isolate => 3 | .patrol => 4)).lockOut [(l, c)]) ∧
    q.matrix.state = .lockout ∧
    (q.line l).state = .isolated false ∧ (∀ k, (q.cell l k).commanded = false) ∧ (q.line l).lastOpen = p.clock.ticks ∧
    (q.line l).isolation = some { readAt := p.clock.ticks + p.matrix.settle, logged := c } ∧ q.log = p.log ∧
    (p.matrix.state = .lockout → q.entries = p.entries ∧ ∀ k, k ≠ l → q.line k = p.line k) ∧
    (p.matrix.state ≠ .lockout → ∀ e < 128, (p.entry e).electrical?.isSome = true →
      (p.entry e).state = .inserting ∨ (p.entry e).state = .active →
        (q.entry e).state = .releasing ∧ (q.entry e).endCause = some ((p.entry e).endCause.getD .lockout)) ∧
    (∀ e < 128, (p.entry e).state ≠ .inserting → (p.entry e).state ≠ .active → (p.entry e).state ≠ .releasing →
      q.entry e = p.entry e) ∧
    ∀ k b, (q.cell k b).commanded = true → b ≠ .series → (p.cell k b).commanded = true

/-- FAST_RELEASE_READBACK (R113, R116): each step of a fast release is read once; with every cell open, the series cells
commanded OPEN on the entry's lines are closed, to be read once in their turn; the closing step's readback ends the release,
the lines whose series cell reads open becoming BROKEN. A fault cell still closed at the opening step is a weld with detail
FAST, which locks the matrix out (R119), and the release goes on with the lines that are left. That of several welds all are
logged before LOCKOUT is entered and the lines isolated, in the order of the step's cells, is log entry 37. -/
def Sys2Proof.Claims.FastReleaseReadBack : Prop :=
  ∀ (e : Nat) (d : Electrical) (x : Seq) (s : State), e < 128 →
    let p := s.part
    let now := p.clock.ticks
    let run := exec (.fastReleaseReadback e) s
    let wrong := p.readWrong x.step.closing x.step.targets
    (p.entry e).electrical? = some d → (p.entry e).seq = some x → x.step.verified = false →
    ((∀ t, x.step.readAt = some t → now < t) → run = .next s) ∧
    (∀ t, x.step.readAt = some t → t ≤ now → p.MatrixShaped → x.fast = true → x.step.attempt = 1 →
      x.step.targets.Nodup → (∀ k ∈ x.step.targets, k.1 < 64) →
      (x.phase = .opening → x.step.closing = false → wrong = [] →
        (p.releaseCloses e d ≠ [] →
          ∃ r q : Part, run = .next (s.withPart q) ∧ p.Reads x.step true r ∧
            q.entry e = { p.entry e with
              seq := some
                { phase := .closing, fast := true, disarmed := false, broken := x.broken, followed := none
                  step := { closing := true, verified := false, targets := p.releaseCloses e d, attempt := 1,
                            readAt := some (now + p.matrix.settle) } } } ∧
            (∀ k, k ≠ e → q.entry k = p.entry k) ∧
            (∀ l, q.line l = if (l, CellId.series) ∈ p.releaseCloses e d then (r.line l).closed .series else r.line l) ∧
            q = { r with entries := q.entries, matrix := { r.matrix with lines := q.matrix.lines } }) ∧
        (p.releaseCloses e d = [] →
          ∃ r q : Part, run = .next (s.withPart q) ∧ p.Reads x.step true r ∧ r.ReleaseEnded e d x.broken q)) ∧
      (x.phase = .opening → x.step.closing = false → wrong ≠ [] → p.entries.length = 128 →
        ∃ r q : Part, run = .next (s.withPart q) ∧ p.Reads x.step true r ∧
          (let found := r.weldsFound .fast wrong
           let after := found.1.releaseClosing e true x.broken
           q = settleAll (after.1, found.2 ++ after.2)) ∧
          p.LockedOut wrong q) ∧
      (x.phase = .closing → x.step.closing = true →
        ∃ r q : Part, run = .next (s.withPart q) ∧ p.Reads x.step true r ∧
          r.ReleaseEnded e d (x.broken ++ wrong.map Prod.fst) q))

/-- ISOLATION_READBACK (R104, R105, R119): one settle interval after a line was isolated its seven cells are read; each commanded
OPEN that reads closed counts a no-make, and each of them but the one whose weld is logged already is logged as CELL_WELDED
with detail 3, ISOLATE, in cell order (log entry 46). A line still ISOLATED stays so. On a line that a restore has given back a cell still
closed is a weld found anew: the matrix is in LOCKOUT and the line ISOLATED again. What is done of a readback that a restore
has overtaken (a cell commanded CLOSED is passed over, a weld clears the clear mark, the line is isolated anew) is log entry
38. -/
def Sys2Proof.Claims.IsolationReadBack : Prop :=
  ∀ (l : Nat) (s : State), l < 64 →
    let p := s.part
    let run := exec (.isolationReadback l) s
    ((p.line l).isolation = none → run = .next s) ∧
    ∀ i, (p.line l).isolation = some i →
      (p.clock.ticks < i.readAt → run = .next s) ∧
      (i.readAt ≤ p.clock.ticks → p.MatrixShaped →
        let stuck (c : CellId) : Bool := p.contact l c && !(p.cell l c).commanded
        let welds := allCells.filter fun c => stuck c && decide (c ≠ i.logged)
        let logged := welds.foldl (fun v c => v.logError .cellWelded (.cell l c) 3) p
        let n (c : CellId) : Nat := if stuck c then min ((p.cell l c).noMake + 1) 255 else (p.cell l c).noMake
        ∃ r q : Part, run = .next (s.withPart q) ∧
          (∀ c, r.cell l c =
            { commanded := (p.cell l c).commanded, sensed := some (p.contact l c), noMake := n c
              worn := (p.cell l c).worn || (stuck c && decide (p.matrix.wearThreshold ≤ n c)) }) ∧
          r.line l = { p.line l with cells := (r.line l).cells, isolation := none } ∧
          (∀ k, k ≠ l → r.line k = p.line k) ∧
          r = { p with matrix := { p.matrix with lines := r.matrix.lines }, log := r.log, link := r.link } ∧
          r.log.fatal = logged.log.fatal ∧ r.log.corrected = p.log.corrected ∧
          ((∀ c, stuck c = true → (p.cell l c).worn = true ∨ n c < p.matrix.wearThreshold) →
            r.log = logged.log ∧ r.link = logged.link) ∧
          (∀ clear, (p.line l).state = .isolated clear →
            (welds = [] ∨ clear = false → q = r) ∧
            (welds ≠ [] → clear = true → q = (r.setLine l { r.line l with state := .isolated false }).raise .matrix)) ∧
          ((∀ clear, (p.line l).state ≠ .isolated clear) →
            ((∀ c, stuck c = false) → q = r) ∧
            ∀ c back, allCells.filter stuck = c :: back → q = settleAll (r.lockOut [(l, c)]) ∧ p.LockedOut [(l, c)] q))

/-- FAST_RELEASE_READBACK and ISOLATION_READBACK (R116, R119). The order of the loggings of one readback is log entry 46, of
several welds of one fast readback log entry 37, and a readback that a restore has overtaken log entry 38. -/
def Obligations.SingleReadbacks : Prop := Claims.FastReleaseReadBack ∧ Claims.IsolationReadBack

/-- PATROL_CHECK (R105, R117 to R119): on its tick the line at the patrol position is checked, unless HELD, and the position and
the next tick move on; the first pass ends behind line 63. With every fault cell of the line open, a PASS line whose series
cell reads open becomes BROKEN and is logged, and a BROKEN line whose series cell reads closed becomes PASS. A fault cell
that reads closed on a PASS or BROKEN line is a weld with detail PATROL, of several the first in cell order alone being logged
(log entry 20), and locks the matrix out; on an ISOLATED line it clears the clear mark, which all of them open set. -/
def Obligations.PatrolChecked : Prop :=
  ∀ s : State,
    let p := s.part
    let m := p.matrix
    let l := m.patrolPosition
    let first := m.firstPass || decide (l = 63)
    let moved (q : Part) (st : MatrixState) : Matrix :=
      { q.matrix with
        state := st, firstPass := first, patrolLast := m.patrolNext
        patrolPosition := if l = 63 then 0 else l + 1
        patrolNext := m.patrolNext + if first then m.patrolInterval * 1000 else 1000 }
    let passed : MatrixState := if m.firstPass = false ∧ l = 63 ∧ m.state = .readying then .ready else m.state
    let noticed (was now' : MatrixState) (v : Part) : Part := if was = now' then v else v.raise .matrix
    let closed := faultCells.filter fun c => p.contact l c
    (p.clock.ticks < m.patrolNext → exec .patrolCheck s = .next s) ∧
    (m.patrolNext ≤ p.clock.ticks → l < 64 → p.MatrixShaped →
      ∃ r q : Part, exec .patrolCheck s = .next (s.withPart q) ∧
        r = { p with matrix := { m with lines := r.matrix.lines } } ∧ (∀ k, k ≠ l → r.line k = p.line k) ∧
        r.line l = { p.line l with cells := (r.line l).cells } ∧
        (∀ c, r.cell l c = { p.cell l c with sensed := some (p.contact l c) }) ∧
        (∀ e, (p.line l).state = .held e → q = noticed m.state passed { p with matrix := moved p passed }) ∧
        (∀ clear, (p.line l).state = .isolated clear →
          let v := if clear = closed.isEmpty then r
            else (r.setLine l { r.line l with state := .isolated closed.isEmpty }).raise .matrix
          q = noticed m.state passed { v with matrix := moved v passed }) ∧
        ((p.line l).state = .pass ∨ (p.line l).state = .broken →
          (closed = [] →
            let v :=
              if (p.line l).state = .pass ∧ p.contact l .series = false then
                ((r.setLine l { r.line l with state := .broken }).raise .matrix).logError .lineBroken (.line l)
                  (p.cell l .series).noMake
              else if (p.line l).state = .broken ∧ p.contact l .series = true then
                (r.setLine l { r.line l with state := .pass }).raise .matrix
              else r
            q = noticed m.state passed { v with matrix := moved v passed }) ∧
          ∀ c back, closed = c :: back →
            let found := r.weldsFound .patrol [(l, c)]
            q = settleAll ({ found.1 with matrix := moved found.1 .lockout }, found.2) ∧ p.LockedOut [(l, c)] q))

/-- No command newly commands a fault cell CLOSED while the part is in SAFE or the matrix in LOCKOUT (R109). -/
def Obligations.FaultCellsStayOpen : Prop :=
  ∀ (c : Instr) (s t : State), s.part.Barred → exec c s = .next t →
    ∀ (l : Nat) (k : CellId), k ≠ .series → (t.part.cell l k).commanded = true → (s.part.cell l k).commanded = true

/-! ### The fault schedule -/

/-- ENTRY_DEFINE (R129, R130): a definition whose fields pass, for an entry not busy, and for SIGNAL a channel not OFF whose
kind accepts the fault, is written whole, the entry LOADED with nothing else in it; an entry number above 127, a busy entry, a
channel OFF and a kind that does not accept the fault are refused, in that order. The codes of the kinds are log entry 19; how
a refusal counts fields and names a channel is log entry 18; that a bus, a resistance and an isolate flag that the kind ignores
are stored absent or clear is log entry 39; and that an OFFSET value is unchecked for an OFF or a WHEEL channel is log entry
45. -/
def Sys2Proof.Claims.EntryDefined : Prop :=
  ∀ (tag : Nat) (r : RawEntry) (s : State), s.part.takes (.entryDefine tag r) = true → tag ≠ 0 →
    let p := s.part.taken (.entryDefine tag r)
    let run := exec (.entryDefine tag r) s
    let st := (p.entry r.entry).state
    let busy : Prop := st = .armed ∨ st = .blocked ∨ st = .inserting ∨ st = .active ∨ st = .releasing
    let no (code : RefusalCode) (i : Nat) (n : Option Nat) : State :=
      s.replied p tag (.refuse { code := code, field := i, position := 0, named := n })
    let defined (cls : EntryClass) : Part :=
      (p.setEntry r.entry { Entry.empty with
        state := .loaded
        definition := some
          { cls := cls, condition := conditionStored r.condition, latestStart := r.latestStart
            duration := durationStored r.duration, repeatCount := r.repeatCount, spacing := r.spacing } }).raise
        (.entry r.entry)
    (127 < r.entry → run = .next (no .badField 1 none)) ∧
    (r.entry ≤ 127 → GoodCommon r →
      (∀ x k, r.cls = .electrical x → GoodElectrical p.matrix.settle x → parseElecKind x.kind = some k →
        (busy → run = .next (no .busy 0 none)) ∧
        (¬busy → run = .next (s.replied
          (defined (.electrical
            { kind := k
              lines := x.lines.take x.lineCount
              bus := if 3 ≤ x.kind then some x.bus else none
              resistance := if 4 ≤ x.kind then some x.resistance else none
              isolate := decide (x.kind = 1 ∨ x.kind = 2 ∨ x.kind = 4 ∨ x.kind = 5) && x.isolate
              tripLimit := x.tripLimit, tripTime := x.tripTime, chatter := x.chatter }))
          tag (.ack (.entryState r.entry .loaded))))) ∧
      ∀ x, r.cls = .signal x → GoodSignal (p.channel x.channel).kind x →
        let accepted : Prop := ∃ k, (p.channel x.channel).kind = some k ∧
          (x.kind = 0 ∨ x.kind = 1 ∧ k ≠ .wheel ∨ 2 ≤ x.kind ∧ k = .wheel)
        (busy → run = .next (no .busy 0 none)) ∧
        (¬busy → (p.channel x.channel).state = .off → run = .next (no .notConfigured 3 (some x.channel))) ∧
        (¬busy → (p.channel x.channel).state ≠ .off → ¬accepted → run = .next (no .kindMismatch 0 none)) ∧
        (¬busy → (p.channel x.channel).state ≠ .off → accepted →
          run = .next (s.replied
            (defined (.signal x.channel
              (match x.kind with
                | 1 => .offset x.value
                | 2 => .drop x.position x.count
                | 3 => .shift x.value
                | _ => .stuck)))
            tag (.ack (.entryState r.entry .loaded)))))

/-- ENTRY_DEFINE of fields that fail one of R129's checks: the first that fails gives BAD_FIELD with its index, and nothing
changes. The rows stand in the order of R127, R128 and R129; the numbers of the fields are log entry 18 and the codes of the
kinds log entry 19; an OFFSET value for an OFF or a WHEEL channel is log entry 45; that a time above 2^48 − 1 is out of range is
log entry 50. -/
def Sys2Proof.Claims.DefinitionRefused : Prop :=
  ∀ (tag : Nat) (r : RawEntry) (s : State), s.part.takes (.entryDefine tag r) = true → tag ≠ 0 →
    let p := s.part.taken (.entryDefine tag r)
    let run := exec (.entryDefine tag r) s
    let no (i : Nat) : Host.Outcome State Fault Refusal :=
      .next (s.replied p tag (.refuse { code := .badField, field := i, position := 0, named := none }))
    -- the condition's fields, then the common fields, behind a class whose fields end at `last`
    let common (last : Nat) : List (Prop × Nat) :=
      let next := last + 2 + (match r.condition with
        | .atTime _ => 1
        | .atAngle _ _ => 2
        | .onEvent _ _ => 2
        | _ => 0)
      [ (∃ k, r.condition = .unknown k, last + 1),
        (match r.condition with
          | .atTime t => 281474976710655 < t
          | .atAngle a _ => 46079 < a
          | .onEvent n _ => 15 < n
          | _ => False, last + 2),
        (match r.condition with
          | .atAngle _ f => ∃ n, f = some n ∧ 4294967295 < n
          | .onEvent _ k => k < 1 ∨ 65535 < k
          | _ => False, last + 3),
        (∃ n, r.latestStart = some n ∧ 4294967295 < n, next),
        (∃ k, r.duration = .unknown k, next + 1),
        (match r.duration with
          | .time n => n < 1 ∨ 4294967295 < n
          | .angle n => n < 1 ∨ 11796480 < n
          | .untilEvent n => 15 < n
          | _ => False, next + 2),
        (∃ n, r.repeatCount = some n ∧ 65535 < n, next + 3),
        (∃ n, r.spacing = some n ∧
          (match r.condition with
            | .atAngle _ _ => 65535 < n
            | .onEvent _ _ => n < 1 ∨ 65535 < n
            | _ => 4294967295 < n), next + 4) ]
    let rows : List (Prop × Nat) :=
      match r.cls with
      | .electrical x =>
        let lines := x.lines.take x.lineCount
        let trips (lo hi : Nat) (v : Option Nat) : Prop := x.kind ≠ 0 ∧ ∃ n, v = some n ∧ (n < lo ∨ hi < n)
        let timed (bad : Chatter → Prop) : Prop := ∃ c, x.chatter = some c ∧ bad c
        [ (5 < x.kind, 3),
          (x.lineCount < 1 ∨ 8 < x.lineCount ∨ (∃ l ∈ lines, 64 ≤ l) ∨ ¬lines.Nodup ∨ x.kind = 3 ∧ x.lineCount < 2, 4),
          (3 ≤ x.kind ∧ 3 < x.bus, 5), (4 ≤ x.kind ∧ 15 < x.resistance, 6),
          (trips 100 8000 x.tripLimit, 8), (trips 50 100000 x.tripTime, 9),
          (timed fun c => 3 ≤ x.kind ∨ 1000000 < c.onTime, 10), (timed fun c => 1000000 < c.offTime, 11),
          (timed fun c => c.onTime < 2 * p.matrix.settle, 10), (timed fun c => c.offTime < 2 * p.matrix.settle, 11) ] ++
        common 12
      | .signal x =>
        [ (31 < x.channel, 3), (3 < x.kind, 4),
          (x.kind = 1 ∧ ∃ k, (p.channel x.channel).config.map ChConfig.kind = some k ∧ k ≠ .wheel ∧
            (match k with | .level => 12000 | .pwm => 10000 | .pulse => 200000 | .wheel => 1 | .speed => 40000) <
              x.value.natAbs, 5),
          (x.kind = 2 ∧ 119 < x.position, 5), (x.kind = 2 ∧ (x.count < 1 ∨ 120 < x.count), 6),
          (x.kind = 3 ∧ 46079 < x.value.natAbs, 5) ] ++
        common (match x.kind with | 0 => 4 | 2 => 6 | _ => 5)
      | .unknown _ => [(True, 2)]
    (127 < r.entry → run = no 1) ∧
    ∀ before row after, r.entry ≤ 127 → rows = before ++ row :: after → row.1 → (∀ b ∈ before, ¬b.1) → run = no row.2

/-- ENTRY_DELETE (R133) and ENTRY_GET (R150). That ENTRY_DELETE's ACK holds the entry and EMPTY is the model's choice (log entry
17); that a NOW form and a due point are kept as ticks and reported as rig time is log entry 10. -/
def Sys2Proof.Claims.EntryDeletedAndRead : Prop :=
  (∀ (tag e : Nat) (s : State), s.part.takes (.entryDelete tag e) = true → tag ≠ 0 →
    let p := s.part.taken (.entryDelete tag e)
    let st := (p.entry e).state
    let q := p.setEntry e Entry.empty
    exec (.entryDelete tag e) s =
      .next (
        if 127 < e then s.replied p tag (.refuse { code := .badField, field := 1, position := 0, named := none })
        else if st = .inserting ∨ st = .active ∨ st = .releasing then
          s.replied p tag (.refuse { code := .busy, field := 0, position := 0, named := none })
        else s.replied (if st = .empty then q else q.raise (.entry e)) tag (.ack (.entryState e .empty)))) ∧
  ∀ (tag e : Nat) (s : State), s.part.takes (.entryGet tag e) = true → tag ≠ 0 →
    let p := s.part.taken (.entryGet tag e)
    (e ≤ 127 →
      exec (.entryGet tag e) s =
        .next (s.replied p tag (.ack (.entry (p.entryShown e))))) ∧
    (127 < e → e ≠ 255 →
      exec (.entryGet tag e) s =
        .next (s.replied p tag (.refuse { code := .badField, field := 1, position := 0, named := none }))) ∧
    (e = 255 → (∀ k < 128, (p.entry k).state ≠ .blocked) →
      exec (.entryGet tag e) s =
        .next (s.replied p tag (.ack (.entryAll
          ((List.range 128).map fun k =>
            { entry := k, electrical := (p.entry k).definition.map fun d => d.electrical?.isSome
              state := (p.entry k).state, repeatsRemaining := (p.entry k).repeatsRemaining })
          p.claims []))))

/-- ENTRY_DEFINE, ENTRY_DELETE and ENTRY_GET (R129, R133, R150). -/
def Obligations.EntryWrittenAndRead : Prop := Claims.EntryDefined ∧ Claims.DefinitionRefused ∧ Claims.EntryDeletedAndRead

/-- ENTRY_ARM (R69, R70, R131): its refusals in order; an entry that passes is ARMED with its waiting form and its repeats from
the definition, and, where the form is NOW or a time already reached, it is due on the tick of the request, before the reply
is formed, with that tick or time as its due point. That a refusal carries the line or
slot it names apart from the field, which is 0, is log entry 18; which of two unset slots is named is log entry 39. -/
def Sys2Proof.Claims.EntryArmed : Prop :=
  ∀ (tag e : Nat) (s : State), s.part.takes (.entryArm tag e) = true → tag ≠ 0 →
    let p := s.part.taken (.entryArm tag e)
    let x := p.entry e
    let run := exec (.entryArm tag e) s
    let no (code : RefusalCode) (i : Nat) (n : Option Nat) : State :=
      s.replied p tag (.refuse { code := code, field := i, position := 0, named := n })
    let busy : Prop :=
      x.state = .armed ∨ x.state = .blocked ∨ x.state = .inserting ∨ x.state = .active ∨ x.state = .releasing
    (127 < e → run = .next (no .badField 1 none)) ∧
    (e ≤ 127 → x.state = .empty → run = .next (no .notConfigured 0 none)) ∧
    (e ≤ 127 → busy → run = .next (no .busy 0 none)) ∧
    (e ≤ 127 → x.state ≠ .empty → ¬busy → p.safe.isSome = true → run = .next (no .safeHold 0 none)) ∧
    (e ≤ 127 → x.state ≠ .empty → ¬busy → p.safe = none →
      (∀ d, x.electrical? = some d →
        (p.matrix.state = .readying → run = .next (no .notReady 0 none)) ∧
        (p.matrix.state = .lockout → run = .next (no .locked 0 none)) ∧
        (p.matrix.state = .ready → ∀ l ∈ d.lines,
          let unusable (k : Nat) : Prop := (p.line k).state = .broken ∨ ∃ b, (p.line k).state = .isolated b
          let worn (k : Nat) : Prop := ∃ c ∈ d.neededCells, (p.cell k c).worn = true
          (unusable l → (∀ k ∈ d.lines, k < l → ¬unusable k) → run = .next (no .lineUnusable 0 (some l))) ∧
          ((∀ k ∈ d.lines, ¬unusable k) → worn l → (∀ k ∈ d.lines, k < l → ¬worn k) →
            run = .next (no .cellWorn 0 (some l))))) ∧
      ∀ d, x.definition = some d →
        (∀ k, x.electrical? = some k → p.matrix.state = .ready ∧ ∀ l ∈ k.lines,
          (p.line l).state ≠ .broken ∧ (∀ b, (p.line l).state ≠ .isolated b) ∧
            ∀ c ∈ k.neededCells, (p.cell l c).worn = false) →
        (∀ n k, d.condition = .onEvent n k → (p.slot n).source = .none →
          run = .next (no .notConfigured 0 (some n))) ∧
        ((∀ n k, d.condition = .onEvent n k → (p.slot n).source ≠ .none) →
          (∀ n, d.duration = .untilEvent n → (p.slot n).source = .none →
            run = .next (no .notConfigured 0 (some n))) ∧
          ((∀ n, d.duration = .untilEvent n → (p.slot n).source ≠ .none) →
            let w : Waiting :=
              match d.condition with
              | .now => .time p.clock.ticks
              | .atTime t => .time t
              | .atAngle a f => .angle a f
              | .onEvent n k => .event n (((p.slot n).count + k) % 4294967296)
            let q := (p.setEntry e { x with
              state := .armed, waiting := some w, occurrences := 0, repeatsRemaining := d.repeatCount.getD 0
              endCause := none, duePoint := none, deadline := none }).raise (.entry e)
            let answered (v : Part) : Prop := run = .next (s.replied v tag (.ack (.entry (v.entryShown e))))
            ((∀ t, w = .time t → p.clock.rigTime < min t 281474976710655) → answered q) ∧
            ∀ t, w = .time t → min t 281474976710655 ≤ p.clock.rigTime → answered (settleAll (q, [.due e w t])))))

/-- ENTRY_DISARM by the entry's state (R114, R132): ARMED becomes LOADED; INSERTING marks the step under way (log entry 44) and
records the cause; ACTIVE ELECTRICAL begins its verified release with cause DISARMED, and ACTIVE SIGNAL ends on the tick with
that cause; a state with nothing to disarm stays. -/
def Sys2Proof.Claims.EntryDisarmed : Prop :=
  ∀ (tag e : Nat) (s : State), s.part.takes (.entryDisarm tag e) = true → tag ≠ 0 →
    let p := s.part.taken (.entryDisarm tag e)
    let x := p.entry e
    let run := exec (.entryDisarm tag e) s
    let no (code : RefusalCode) (i : Nat) : State :=
      s.replied p tag (.refuse { code := code, field := i, position := 0, named := none })
    let ok (q : Part) : Host.Outcome State Fault Refusal := .next (s.replied q tag (.ack (.entry (q.entryShown e))))
    (127 < e → run = .next (no .badField 1)) ∧
    (e ≤ 127 →
      (x.state = .empty → run = .next (no .notConfigured 0)) ∧
      (x.state = .loaded ∨ x.state = .releasing ∨ x.state = .done ∨ x.state = .aborted → run = ok p) ∧
      (x.state = .armed →
        run = ok ((p.setEntry e { x with state := .loaded, waiting := none }).raise (.entry e))) ∧
      (x.state = .inserting →
        run = ok (p.setEntry e { x with
          endCause := some (x.endCause.getD .disarmed), seq := x.seq.map fun y => { y with disarmed := true } })) ∧
      (x.state = .blocked → x.endCause = none → x.definition.isSome = true →
        run = ok ((p.setEntry e { x with
          state := .loaded, waiting := none, occurrences := min (x.occurrences + 1) 65535, blockedSince := none
          deadline := none
          last := x.last.map fun r => { r with endTime := some p.clock.rigTime, endCause := some .disarmed }
          runs := [], chatter := none, untilWatch := false, seq := none }).raise (.entry e))) ∧
      (∀ d, x.state = .active → x.electrical? = some d → x.endCause = none →
        (∃ l ∈ d.lines, (p.line l).state = .held e ∧
          ((p.cell l .series).commanded = false ∨ ∃ c ∈ d.faultCell, (p.cell l c).commanded = true)) →
        ∃ q : Part, run = ok q ∧ p.ReleaseBegun e d .disarmed q) ∧
      (∀ c f, x.state = .active → x.signal? = some (c, f) → x.endCause = none →
        ∃ q : Part, run = ok q ∧ p.SignalEnded e c .disarmed q))

/-- ENTRY_ARM and ENTRY_DISARM (R131, R132). -/
def Obligations.EntryArmedAndDisarmed : Prop := Claims.EntryArmed ∧ Claims.EntryDisarmed

/-- How an ended occurrence settles its entry (R144, R145): COMPLETED and MISSED to a repeat, LOADED in place of ARMED while
SAFE, or with none left to DONE; DISARMED to LOADED; every other cause to ABORTED. A repeat's waiting form comes from the
due point and the spacing; one not met on the tick leaves the entry ARMED. That the repeats left fall by one in SAFE too is log
entry 23. -/
def Obligations.OccurrenceSettled : Prop :=
  ∀ (e : Nat) (cause : EndCause) (d : EntryDef) (p : Part),
    let x := p.entry e
    let due := x.duePoint.getD 0
    let w : Waiting :=
      match d.condition with
      | .now => .time (due + d.spacing.getD 0)
      | .atTime _ => .time (due + d.spacing.getD 0)
      | .atAngle a _ => .angle a (some ((due + d.spacing.getD 0) % 4294967296))
      | .onEvent n _ => .event n ((due + d.spacing.getD 1) % 4294967296)
    let repeating : Prop := (cause = .completed ∨ cause = .missed) ∧ 0 < x.repeatsRemaining
    let st : EntryState :=
      match cause with
      | .completed => if x.repeatsRemaining = 0 then .done else if p.safe.isSome then .loaded else .armed
      | .missed => if x.repeatsRemaining = 0 then .done else if p.safe.isSome then .loaded else .armed
      | .disarmed => .loaded
      | _ => .aborted
    x.endCause = some cause → x.definition = some d →
    (repeating → p.safe = none →
      (∀ t, w = .time t → p.clock.rigTime < min t 281474976710655) ∧
      ∀ n k, w = .event n k → 2147483648 ≤ ((p.slot n).count + (4294967296 - k)) % 4294967296) →
    ∃ q : Part, settleAll (p, [.finish e]) = q ∧
      q.entry e =
        { x with
          state := st
          waiting := if st = .armed then some w else none
          occurrences := min (x.occurrences + 1) 65535
          repeatsRemaining := match cause with
            | .completed => x.repeatsRemaining - 1
            | .missed => x.repeatsRemaining - 1
            | .disarmed => x.repeatsRemaining
            | _ => 0
          blockedSince := none, deadline := none, endCause := none
          last := x.last.map fun r => { r with endTime := some p.clock.rigTime, endCause := some cause }
          runs := [], chatter := none, untilWatch := false, seq := none } ∧
      (∀ k, k ≠ e → q.entry k = p.entry k) ∧
      q.log = (if cause = .missed then (p.logError .entryMissed (.entry e) (min (x.occurrences + 1) 65535)).log else p.log) ∧
      q = { p with entries := q.entries, log := q.log, link := q.link }

/-- ENTRY_MISSED (R135): a BLOCKED entry whose deadline lies behind the tick ends with cause MISSED and is settled by it. -/
def Sys2Proof.Claims.EntryMissedTaken : Prop :=
  ∀ (e : Nat) (s : State), e < 128 →
    let p := s.part
    let x := p.entry e
    (x.state ≠ .blocked ∨ (∀ t, x.deadline = some t → p.clock.ticks ≤ t) → exec (.entryMissed e) s = .next s) ∧
    ∀ t, x.state = .blocked → x.deadline = some t → t < p.clock.ticks → x.endCause = none →
      exec (.entryMissed e) s =
        .next (s.withPart (settleAll (p.setEntry e { x with endCause := some .missed }, [.finish e])))

/-- DURATION_TIME_END and DURATION_ANGLE_END (R140): once its time has elapsed, or its angle been travelled, an ACTIVE entry
ends with cause COMPLETED; before that nothing changes. -/
def Sys2Proof.Claims.DurationsEnd : Prop :=
  ∀ (e n : Nat) (d : EntryDef) (s : State), e < 128 →
    let p := s.part
    let x := p.entry e
    x.definition = some d →
    (d.duration = .time n →
      (x.state ≠ .active ∨ p.clock.ticks < x.activeTick + n → exec (.durationTimeEnd e) s = .next s) ∧
      (x.state = .active → x.activeTick + n ≤ p.clock.ticks → x.endCause = none →
        ∃ q : Part, exec (.durationTimeEnd e) s = .next (s.withPart q) ∧ p.CompletedEnd e q)) ∧
    (d.duration = .angle n →
      (x.state ≠ .active ∨ x.travel < n * 65536 → exec (.durationAngleEnd e) s = .next s) ∧
      (x.state = .active → n * 65536 ≤ x.travel → x.endCause = none →
        ∃ q : Part, exec (.durationAngleEnd e) s = .next (s.withPart q) ∧ p.CompletedEnd e q))

/-- ENTRY_MISSED, DURATION_TIME_END and DURATION_ANGLE_END (R135, R140). -/
def Obligations.EntryMissedOrEnded : Prop := Claims.EntryMissedTaken ∧ Claims.DurationsEnd

/-- The order of the work that one event brings about on its tick (R70, R137): entries that become due are taken in entry-number
order, whichever event of the work made them due and in whichever order; before the lowest of them, an entry below it whose
AT_TIME has come; and all of them once no other work is left. That the other work comes first is log entry 13. -/
def Sys2Proof.Claims.DuesInEntryOrder : Prop :=
  ∀ (n : Nat) (ts : List Task) (p : Part),
    let next (t : Task) (rest : List Task) : Prop :=
      runTasks (n + 1) ts p = runTasks n ((p.doTask t).2 ++ rest) (p.doTask t).1
    let isDue (t : Task) : Prop := ∃ e w point, t = .due e w point
    (∀ front t back, ts = front ++ t :: back → (∀ x ∈ front, isDue x) → ¬isDue t → next t (front ++ back)) ∧
    ∀ front e w point back, ts = front ++ .due e w point :: back → (∀ x ∈ ts, isDue x) →
      (∀ k v b, Task.due k v b ∈ front → e < k) → (∀ k v b, Task.due k v b ∈ back → e ≤ k) →
      (p.NoneBefore e → next (.due e w point) (front ++ back)) ∧
      ∀ k t, k < e → p.NoneBefore k → (p.entry k).state = .armed → (p.entry k).waiting = some (.time t) →
        min t 281474976710655 ≤ p.clock.rigTime → next (.due k (.time t) t) ts

/-- An ARMED entry whose deadline lies behind the tick on which it becomes due is MISSED at once, and ENTRY_MISSED is logged
(R134, R135, R144); here one with no repeats left, and no entry of lower number due on the tick. That a SIGNAL entry behind its
deadline is MISSED where its channel cannot take the fault too is log entry 49. -/
def Sys2Proof.Claims.MissedWhenDue : Prop :=
  ∀ (e point : Nat) (w : Waiting) (d : EntryDef) (p : Part), e < 128 → p.entries.length = 128 → p.NoneBefore e →
    let x := p.entry e
    x.state = .armed → x.waiting = some w → x.definition = some d → x.repeatsRemaining = 0 →
    ∀ t, (p.dueEntry e point d).deadline = some t → t < p.clock.ticks →
      settleAll (p, [.due e w point]) =
        ((p.logError .entryMissed (.entry e) (min (x.occurrences + 1) 65535)).setEntry e
          ((p.dueEntry e point d).ended .done none 0 p.clock.rigTime .missed)).raise (.entry e)

/-- A SIGNAL entry becomes due with its deadline, if it has one, not behind the tick (R134, R136, R139, R149): with its channel
OFF or HELD, or of a kind that does not accept the fault, it ends with NO_TARGET; with the channel claimed by another it is
BLOCKED from this tick; else it is granted its channel. No entry of lower number is due on the tick (R137). -/
def Sys2Proof.Claims.SignalDue : Prop :=
  ∀ (e c point : Nat) (w : Waiting) (f : SigFault) (d : EntryDef) (p : Part), e < 128 → c < 32 →
    p.entries.length = 128 → p.channels.length = 32 → p.slots.length = 16 → p.claims.channels.length = 32 →
    p.NoneBefore e →
    let x := p.entry e
    let ch := p.channel c
    let began := p.dueEntry e point d
    x.state = .armed → x.waiting = some w → x.definition = some d → d.cls = .signal c f →
    (∀ t, began.deadline = some t → p.clock.ticks ≤ t) →
    let target : Prop := ch.state ≠ .off ∧ ch.state ≠ .held ∧ ∃ k, ch.kind = some k ∧ k.accepts f = true
    let q := settleAll (p, [.due e w point])
    (¬target → q = (p.setEntry e (began.ended .aborted none 0 p.clock.rigTime .noTarget)).raise (.entry e)) ∧
    (target →
      (∀ h, h ≠ e → p.claims.channels.getD c none = some h →
        q = (p.setEntry e { began with state := .blocked, blockedSince := some p.clock.ticks }).raise (.entry e)) ∧
      (p.claims.channels.getD c none = none ∨ p.claims.channels.getD c none = some e → p.Unwaited (.entry e .active) →
        p.SignalGranted e c f began q))

/-- An ELECTRICAL entry becomes due with its deadline, if it has one, not behind the tick (R111, R134 to R138): with a claim held
by another, or the short budget full, it is BLOCKED; with its claims free the matrix answers LOCKED in LOCKOUT, ending it
with cause LOCKOUT, or UNUSABLE where a line is not PASS or a cell it needs is WORN, ending it with cause CELL_FAULT; else it is
granted and its insertion accepted. No entry of lower number is due on the tick (R137). -/
def Sys2Proof.Claims.ElectricalDue : Prop :=
  ∀ (e point : Nat) (w : Waiting) (def' : EntryDef) (d : Electrical) (p : Part), e < 128 → p.entries.length = 128 →
    p.MatrixShaped → p.claims.lines.length = 64 → p.claims.buses.length = 4 → (∀ l ∈ d.lines, l < 64) →
    p.NoneBefore e →
    let x := p.entry e
    let began := p.dueEntry e point def'
    x.state = .armed → x.waiting = some w → x.definition = some def' → def'.cls = .electrical d →
    (∀ t, began.deadline = some t → p.clock.ticks ≤ t) →
    let ends (cause : EndCause) : Part :=
      (p.setEntry e (began.ended .aborted none 0 p.clock.rigTime cause)).raise (.entry e)
    let q := settleAll (p, [.due e w point])
    (¬p.ClaimsFree e d →
      q = (p.setEntry e { began with state := .blocked, blockedSince := some p.clock.ticks }).raise (.entry e)) ∧
    (p.ClaimsFree e d → p.matrix.state = .lockout → q = ends .lockout) ∧
    (p.ClaimsFree e d → p.matrix.state ≠ .lockout → ¬p.LinesReady d → q = ends .cellFault) ∧
    (p.ClaimsFree e d → p.matrix.state ≠ .lockout → p.LinesReady d → p.Granted e d began q)

/-- The arbiter's pass (R136, R137, R185): a give-back frees the entry's claims and judges every BLOCKED entry, in the order of
`blocked_since` and then of entry number, ahead of its RELEASED occurrence (log entry 12). A BLOCKED ELECTRICAL entry stays
while a claim is held; it ends with cause CELL_FAULT where a line just given back is BROKEN or ISOLATED (log entry 41), LOCKOUT
in LOCKOUT otherwise, CELL_FAULT where a line is not PASS or a cell WORN; else it is granted. A BLOCKED SIGNAL entry ends with
NO_TARGET where its channel cannot take the fault, stays while the channel is claimed, and else is granted it. -/
def Sys2Proof.Claims.ArbiterPasses : Prop :=
  (∀ p : Part,
    (∀ e t, (e, t) ∈ p.blockedSet ↔ e < 128 ∧ (p.entry e).state = .blocked ∧ (p.entry e).blockedSince = some t) ∧
    p.blockedSet.Pairwise fun a b => a.2 < b.2 ∨ a.2 = b.2 ∧ a.1 < b.1) ∧
  (∀ (e : Nat) (c : EntryClass) (p : Part),
    let given (holders : List (Option Nat)) := holders.map fun h => if h = some e then none else h
    p.giveBack e c =
      ({ p with claims :=
          { lines := given p.claims.lines, buses := given p.claims.buses, channels := given p.claims.channels
            budget := match c with
              | .electrical d =>
                if d.kind = .shortGnd ∨ d.kind = .shortBat then p.claims.budget - d.lines.length else p.claims.budget
              | .signal _ _ => p.claims.budget } },
        (p.blockedSet.map fun b => Task.judge b.1
          (match c with | .electrical d => d.lines | .signal _ _ => [])) ++
          [.occur (.entry e .released), .finish e])) ∧
  (∀ (e c : Nat) (back : List Nat) (f : SigFault) (p : Part), e < 128 → c < 32 → p.entries.length = 128 →
    p.channels.length = 32 → p.slots.length = 16 → p.claims.channels.length = 32 →
    let x := p.entry e
    let ch := p.channel c
    x.state = .blocked → x.signal? = some (c, f) → x.endCause = none →
    let target : Prop := ch.state ≠ .off ∧ ch.state ≠ .held ∧ ∃ k, ch.kind = some k ∧ k.accepts f = true
    let q := settleAll (p, [.judge e back])
    (¬target → q = (p.setEntry e (x.ended .aborted none 0 p.clock.rigTime .noTarget)).raise (.entry e)) ∧
    (target →
      (∀ h, h ≠ e → p.claims.channels.getD c none = some h → q = p) ∧
      (p.claims.channels.getD c none = none ∨ p.claims.channels.getD c none = some e → p.Unwaited (.entry e .active) →
        p.SignalGranted e c f x q))) ∧
  ∀ (e : Nat) (back : List Nat) (def' : EntryDef) (d : Electrical) (p : Part), e < 128 → p.entries.length = 128 →
    p.MatrixShaped → p.claims.lines.length = 64 → p.claims.buses.length = 4 → (∀ l ∈ d.lines, l < 64) →
    let x := p.entry e
    x.definition = some def' → def'.cls = .electrical d → x.endCause = none →
    let ends (cause : EndCause) : Part :=
      (p.setEntry e (x.ended .aborted none 0 p.clock.rigTime cause)).raise (.entry e)
    let unfit : Prop :=
      ∃ l ∈ d.lines, l ∈ back ∧ ((p.line l).state = .broken ∨ ∃ clear, (p.line l).state = .isolated clear)
    let q := settleAll (p, [.judge e back])
    (x.state ≠ .blocked → q = p) ∧
    (x.state = .blocked → (¬p.ClaimsFree e d → q = p) ∧
      (p.ClaimsFree e d →
        (unfit → q = ends .cellFault) ∧
        (¬unfit → p.matrix.state = .lockout → q = ends .lockout) ∧
        (¬unfit → p.matrix.state ≠ .lockout → ¬p.LinesReady d → q = ends .cellFault) ∧
        (p.matrix.state ≠ .lockout → p.LinesReady d → p.Granted e d x q)))

/-- The order of the entries due on a tick, how a due entry is granted, blocked, missed or turned away, and the arbiter's pass
(R111, R134 to R139, R149). -/
def Obligations.SignalGranted : Prop := Claims.DuesInEntryOrder ∧ Claims.MissedWhenDue ∧ Claims.SignalDue ∧ Claims.ElectricalDue ∧ Claims.ArbiterPasses

/-! ### The tick and the resets -/

/-- The changes of the input pins and the bit errors that a tick brings (3.6.1, R101, R103; that they come as its operands, and
into which slot a bit error comes, is log entry 7): a trigger, monitor, current or contact pin takes its level and no other
changes; a bit error comes only into a slot that holds a record, and a second one leaves it beyond correction. -/
def Sys2Proof.Claims.PinsChanged : Prop :=
  ∀ p : Part,
    let changed (x : PinChange) (pins : Pins) : Prop := p.pinChange x = { p with pins := pins }
    (∀ i h, i < p.pins.triggers.length → ∃ ls, changed (.trigger i h) { p.pins with triggers := ls } ∧
      ∀ k, ls.getD k false = if k = i then h else p.pins.triggers.getD k false) ∧
    (∀ m v, m < p.pins.monitors.length → ∃ ls, changed (.monitor m v) { p.pins with monitors := ls } ∧
      ∀ k, ls.getD k 0 = if k = m then v else p.pins.monitors.getD k 0) ∧
    (∀ l v, l < p.pins.lineCurrents.length → ∃ ls, changed (.lineCurrent l v) { p.pins with lineCurrents := ls } ∧
      ∀ k, ls.getD k 0 = if k = l then v else p.pins.lineCurrents.getD k 0) ∧
    (∀ b v, b < p.pins.busCurrents.length → ∃ ls, changed (.busCurrent b v) { p.pins with busCurrents := ls } ∧
      ∀ k, ls.getD k 0 = if k = b then v else p.pins.busCurrents.getD k 0) ∧
    (∀ l c closed, l < p.pins.contacts.length → (p.pins.contacts.getD l []).length = 7 →
      ∃ ls, changed (.contact l c closed) { p.pins with contacts := ls } ∧
        ∀ k b, (p.pinChange (.contact l c closed)).contact k b = if k = l ∧ b = c then closed else p.contact k b) ∧
    ∀ slot e,
      let q := p.pinChange (.slotError slot e)
      ((∀ ch ∈ p.channels, ∀ r ∈ ch.queue, r.slot ≠ slot) → q = p) ∧
      ((∃ ch ∈ p.channels, ∃ r ∈ ch.queue, r.slot = slot) →
        q = { p with damage := q.damage } ∧
        ((∀ d ∈ p.damage, d.1 ≠ slot) → q.damage = p.damage ++ [(slot, e)]) ∧
        ((∃ d ∈ p.damage, d.1 = slot) →
          ∀ n f, (n, f) ∈ q.damage ↔ if n = slot then f = .uncorrectable else (n, f) ∈ p.damage))

/-- MICROSECOND_TICK and RIG_TIME_HOLD (R1, R2, R3, R8, R38, R40, R79, R95): rig time rises by 1 to 2^48 − 1, where it holds; the
cadences' marks fall due; the pins take their changes (`PinsChanged`); the WHEEL channels and the PULSE channels with no
period take their modifiers; every trigger input is sampled; in FIXED and TRACK the accumulator moves by the increment, its
cycle count rising past the top, and the motion is handed on (`MotionTaken`); the tick's renders follow; and the capture
ring is tested once, its batch raising the cause and its flush interval marked for CAPTURE_FLUSH. The marks, the pin changes,
the tick count's modulus and RIG_TIME_HOLD, and the modifiers are log entries 6, 7, 10 and 35. -/
def Sys2Proof.Claims.TickItself : Prop :=
  ∀ (changes : List PinChange) (s : State),
    let p := s.part
    let e := p.engine
    let ring := p.capture.ring
    let queued : Prop := ∃ n ∈ p.link.notices, n.source = .capture
    let ticks := (p.clock.ticks + 1) % 18446744073709551616
    let outside := changes.foldl (fun v x => v.pinChange x) p
    let turned : Engine :=
      if e.mode = .follow ∨ e.increment = 0 then e
      else if e.acc + e.increment < 3019898880 then { e with acc := e.acc + e.increment }
      else { e with acc := e.acc + e.increment - 3019898880, cycle := (e.cycle + 1) % 4294967296 }
    -- the tick before the engine moves
    let begun : Part := { p with
      clock := { rigTime := min (p.clock.rigTime + 1) 281474976710655, ticks := ticks }
      marks := { milli := decide (ticks % 1000 = 0), level := decide (ticks % 10 = 0), monitor := decide (ticks % 5 = 0)
                 current := decide (ticks % 10 = 0), flush := false }
      pins := outside.pins
      damage := outside.damage
      triggers := p.triggers.mapIdx fun i x => { x with
        judged := x.width
        change := if outside.pins.triggers.getD i false = x.filtered then none else some (x.change.getD ticks) }
      channels := p.channels.map fun ch =>
        let takes (last : Nat × Nat) : Channel :=
          { ch with modifier := takenModifier ch.modifier last, applied := takenModifier ch.modifier last }
        if ch.config.map ChConfig.kind = some .wheel ∧ ch.state ≠ .off then takes (ch.output, 0)
        else if ch.config.map ChConfig.kind = some .pulse ∧ ch.state ≠ .off ∧ ch.period = none then takes (0, 0)
        else ch }
    let moved : Part :=
      if e.mode = .follow ∨ e.increment = 0 then begun
      else begun.takeMove (turned, { forward := true, amount := e.increment, angleBefore := e.acc / 65536
                                     angleAfter := turned.acc / 65536, cycleBefore := e.cycle, cycleAfter := turned.cycle })
    (p.clock.rigTime < 281474976710654 → exec (.rigTimeHold changes) s = .next s) ∧
    (281474976710654 ≤ p.clock.rigTime → exec (.rigTimeHold changes) s = exec (.microsecondTick changes) s) ∧
    exec (.microsecondTick changes) s = .next (s.withPart moved.renderLooks.renderWheels.refreshPins.ringTest) ∧
    ∃ q : Part, exec (.microsecondTick changes) s = .next (s.withPart q) ∧
      q.clock = begun.clock ∧ q.marks = { begun.marks with flush := q.marks.flush } ∧
      (q.marks.flush = true ↔ ¬queued ∧ ring.length < p.capture.batch ∧ p.link.levels.capture ≠ 7 ∧
        ∃ r, ring.head? = some r ∧ r.tick + p.capture.flush * 1000 ≤ ticks) ∧
      ((∃ n ∈ q.link.notices, n.source = .capture) ↔
        queued ∨ ring ≠ [] ∧ p.capture.batch ≤ ring.length ∧ p.link.levels.capture ≠ 7) ∧
      q.capture = p.capture ∧ q.engine = turned ∧ q.pins = begun.pins ∧ q.triggers = begun.triggers ∧
      q.guard = p.guard ∧ q.safe = p.safe ∧ q.patterns = p.patterns ∧ q.monitors = p.monitors

/-- A motion handed to the engine's neighbours (R2, R3, R57, R71, R75, R140): every record of ANGLE basis in play and every
ANGLE duration, begun before the tick and short of its length, takes the motion into its travel, forward adding, backward
subtracting down to 0; every slot whose marked angle is passed counts it; then the waiters are taken, and last the channels
whose ANGLE record is in play and the WHEEL channels render. The order of several marks is log entry 13. -/
def Sys2Proof.Claims.MotionTaken : Prop :=
  ∀ (x : Engine) (m : Move) (p : Part), p.slots.length = 16 →
    let now := p.clock.ticks
    let travelled (n : Nat) : Nat := if m.forward then n + m.amount else n - m.amount
    let counted : List EventSlot := p.slots.map fun y =>
      match y.source with
      | .angleMark a =>
        if m.passes a then
          { y with
            count := (y.count + 1) % 4294967296
            last := some ({ time := p.clock.rigTime, angle := x.acc / 65536, cycle := x.cycle }, .angle a) }
        else y
      | _ => y
    let q := ({ p with engine := x }).addTravel m
    (∀ c, q.channel c = { p.channel c with play := (q.channel c).play }) ∧
    (∀ c pl slot r, (p.channel c).play = some pl →
      (p.channel c).queue[pl.place]? = some { slot := slot, content := .segment r } →
      (q.channel c).play = some
        (if (p.channel c).state = .running ∧ r.basis = .angle ∧ pl.startTick < now ∧ pl.travel < r.length * 65536 then
          { pl with travel := travelled pl.travel } else pl)) ∧
    (∀ e, q.entry e = { p.entry e with travel := (q.entry e).travel }) ∧
    (∀ e d, (p.entry e).definition = some d →
      ((∀ n, d.duration ≠ .angle n) → (q.entry e).travel = (p.entry e).travel) ∧
      ∀ n, d.duration = .angle n → (q.entry e).travel =
        if (p.entry e).state = .active ∧ (p.entry e).activeTick < now ∧ (p.entry e).travel < n * 65536 then
          travelled (p.entry e).travel else (p.entry e).travel) ∧
    q = { p with engine := x, channels := q.channels, entries := q.entries } ∧
    (q.passings m).1 = { q with slots := counted } ∧
    p.takeMove (x, m) = (settleAll (q.passings m)).renderTravels.renderWheels

/-- The waiters a motion meets (R69, R71, R72): an angle waiting form is met where the motion passes its angle on a cycle at or
after its floor, its due point that cycle; the entries met are due, and the groups met start. -/
def Sys2Proof.Claims.MotionMeets : Prop :=
  ∀ (m : Move) (p : Part), p.slots.length = 16 →
    (∀ n < 16, ∀ a, (p.slot n).source ≠ .angleMark a) →
    let floors (w : Waiting) : Prop := ∀ a n, w = .angle a (some n) → n < 4294967296
    (∀ e w, (p.entry e).waiting = some w → floors w) → (∀ g c w, (p.group g).armed = some (c, w) → floors w) →
    (p.passings m).1 = p ∧
    (p.passings m).2 =
      ((List.range 128).filterMap fun e => (p.entry e).waiting.bind fun w =>
        match w with
        | .angle a floor =>
          if (p.entry e).state = .armed ∧ m.passes a = true ∧
              (∀ n ∈ floor, (m.passCycle a + (4294967296 - n)) % 4294967296 < 2147483648) then
            some (Task.due e w (m.passCycle a)) else none
        | _ => none) ++
      ((List.range 8).filterMap fun g => (p.group g).armed.bind fun h =>
        match h.2 with
        | .angle a floor =>
          if m.passes a = true ∧ (∀ n ∈ floor, (m.passCycle a + (4294967296 - n)) % 4294967296 < 2147483648) then
            some (Task.startGroup g h.2) else none
        | _ => none)

/-- The microsecond tick, and what an engine motion brings about. -/
def Obligations.TickTaken : Prop := Claims.PinsChanged ∧ Claims.TickItself ∧ Claims.MotionTaken ∧ Claims.MotionMeets

/-- The reset values of every block but the cells' health, the reset cause and the pins (R21, R46, R67, R87, R99, R100, R125,
R152, R161, R170, R177, R180, R183). The values the manual does not give are log entry 33. -/
def Sys2Proof.Claims.ResetsTaken : Prop :=
  ∀ s : State,
    let old := s.part
    let Whole (cause : ResetCause) (health : Nat → CellId → Nat × Bool) (q : Part) : Prop :=
      q.clock = { rigTime := 0, ticks := 0 } ∧ q.pins = old.pins ∧ q.safe = none ∧
      q.marks = { milli := false, level := false, monitor := false, current := false, flush := false } ∧
      q.engine =
        { mode := .fixed, trackChannel := none, internal := 0, speed := 0, target := 0, rampRate := 1000, increment := 0
          motion := .stopped, acc := 0, cycle := 0, counts := 360, offset := 0, tolerance := 64, step := 4194304
          indexError := 0, indexCount := 0, indexTime := 0, sinceIndex := 0, missingMark := false, windowNet := 0
          windowCounts := 0 } ∧
      (q.channels.length = 32 ∧ ∀ c, q.channel c =
        { state := .off, config := none, frequency := none, queue := [], play := none, base := 0, output := 0, held := 0
          dac := 0, pin := 0, period := none, slipTotal := 0, starvedAt := none, startAt := none, resumeAt := none
          runStart := none, modifier := none, applied := none }) ∧
      q.damage = [] ∧ (∀ n, q.pattern n = none) ∧
      (q.slots.length = 16 ∧ ∀ n, q.slot n = { source := .none, count := 0, last := none }) ∧
      (q.groups.length = 8 ∧ ∀ g, q.group g = { armed := none, startCount := 0, lastStart := none }) ∧
      q.triggers = (old.pins.triggers.map fun high => { filtered := high, width := 0, judged := 0, change := none }) ∧
      q.monitors = (old.pins.monitors.map fun v =>
        { highThreshold := 3000, lowThreshold := 2000, high := decide (3000 ≤ min v.toNat 60000), toSet := false
          last := min v.toNat 60000, minimum := min v.toNat 60000, maximum := min v.toNat 60000, sampleTime := 0
          captureUp := false, captureDown := false }) ∧
      q.capture = { ring := [], dropped := 0, dropMark := false, batch := 16, flush := 5 } ∧
      q.matrix =
        { lines := q.matrix.lines, terminations := [.none, .none, .none, .none]
          lineSense := old.pins.lineCurrents.map fun i => min i 10000
          busSense := old.pins.busCurrents.map fun i => min i 10000
          senseTick := 0, state := .readying, firstPass := false, restore := none, settle := 100, patrolInterval := 1
          wearThreshold := 16, patrolPosition := 0, patrolNext := 1000, patrolLast := 0 } ∧
      (q.matrix.lines.length = 64 ∧ ∀ l < 64,
        q.line l = { cells := (q.line l).cells, state := .pass, lastOpen := 0, heldClose := none, isolation := none } ∧
        ∀ k, q.cell l k = { commanded := decide (k = .series), sensed := none, noMake := (health l k).1
                            worn := (health l k).2 }) ∧
      (q.entries.length = 128 ∧ ∀ e, q.entry e =
        { state := .empty, definition := none, waiting := none, occurrences := 0, repeatsRemaining := 0, duePoint := none
          blockedSince := none, deadline := none, endCause := none, last := none, activeTick := 0, travel := 0
          untilWatch := false, runs := [], chatter := none, seq := none }) ∧
      q.claims = { lines := List.replicate 64 none, buses := List.replicate 4 none, channels := List.replicate 32 none
                   budget := 0 } ∧
      q.guard = { period := none, safeRate := 5000, lastValue := none, windowStart := 0, deadline := 0, expiresAt := 0
                  expiryCount := 0 } ∧
      (∀ k, q.log.of k = { count := 0, first := none, later := [] }) ∧
      q.link =
        { receiver := .hunt, inbound := [], replies := []
          notices := [{ source := .part, repeats := 1, age := 0 }]
          levels :=
            { part := 0, guard := 0, corrected := 6, recoverable := 2, fatal := 0, matrix := 1
              entries := List.replicate 128 3, channels := List.replicate 32 4, groups := List.replicate 8 4
              capture := 5, engine := 6, link := 6 }
          transmitter := none, resetPending := false
          counters := { framesReceived := 0, checkErrors := 0, framingErrors := 0, truncations := 0, overruns := 0
                        huntBytes := 0, repliesSent := 0, noticesSent := 0 }
          resetCause := cause }
    (∃ q : Part, exec .powerOn s = .next (s.withPart q) ∧ Whole .powerOn (fun _ _ => (0, false)) q) ∧
    (∃ q : Part, exec .supplyDip s = .next (s.withPart q) ∧ Whole .supplyDip (fun _ _ => (0, false)) q) ∧
    ∀ (t : Transmission) (tag time : Nat), old.MatrixShaped → old.link.transmitter = some t →
      t.frame = .reply { tag := tag, answer := .ack (.linkReset time) } → t.endTick ≤ old.clock.ticks →
      ∃ q : Part, exec .transmitEnd s = .next (s.withPart q) ∧
        Whole .link (fun l k => ((old.cell l k).noMake, (old.cell l k).worn)) q

/-- The state after reset meets every invariant, and no event waits on it. -/
def Sys2Proof.Claims.ResetIsSound : Prop :=
  State.reset.part.LinkSound ∧ State.reset.part.StoreSound ∧ State.reset.part.RingAndBudgetSound ∧
  State.reset.part.LogSound ∧ State.reset.part.EntriesSound ∧ exec .powerOn State.reset = .next State.reset

/-- What the three resets leave, and that the state after reset meets every invariant. -/
def Obligations.ResetLeavesAPart : Prop := Claims.ResetsTaken ∧ Claims.ResetIsSound

/-! ### Invariants -/

/-- The link's queues keep within their sizes and no source ever has two notices queued, whatever command is taken (R173,
R175, R176). -/
def Obligations.LinkStaysSound : Prop :=
  ∀ s t : State, s.part.LinkSound → step s = .next t → t.part.LinkSound

/-- Every held record keeps a slot of its own and no queue exceeds 4,096 records, whatever command is taken (R47). -/
def Obligations.StoreStaysSound : Prop :=
  ∀ s t : State, s.part.StoreSound → step s = .next t → t.part.StoreSound

/-- The capture ring, the short budget, the error log and the entries keep their shape, whatever command is taken (R93, R126,
R127, R136, R164). -/
def Obligations.RecordsStaySound : Prop :=
  ∀ s t : State, s.part.RingAndBudgetSound → s.part.LogSound → s.part.EntriesSound → step s = .next t →
    t.part.RingAndBudgetSound ∧ t.part.LogSound ∧ t.part.EntriesSound

end
end

