-- ==== Sys2Proof/Laws/State.lean ====
section
/-! SUPPORT. What each table update of the part leaves in each field, and what is read back after it. -/

namespace Sys2Proof.Machine

open Sys2Proof

/-! ### `setChannel` -/

@[simp] theorem setChannel_clock (c : Nat) (x : Channel) (p : Part) : (p.setChannel c x).clock = p.clock := rfl
@[simp] theorem setChannel_marks (c : Nat) (x : Channel) (p : Part) : (p.setChannel c x).marks = p.marks := rfl
@[simp] theorem setChannel_pins (c : Nat) (x : Channel) (p : Part) : (p.setChannel c x).pins = p.pins := rfl
@[simp] theorem setChannel_engine (c : Nat) (x : Channel) (p : Part) : (p.setChannel c x).engine = p.engine := rfl
@[simp] theorem setChannel_patterns (c : Nat) (x : Channel) (p : Part) : (p.setChannel c x).patterns = p.patterns := rfl
@[simp] theorem setChannel_damage (c : Nat) (x : Channel) (p : Part) : (p.setChannel c x).damage = p.damage := rfl
@[simp] theorem setChannel_slots (c : Nat) (x : Channel) (p : Part) : (p.setChannel c x).slots = p.slots := rfl
@[simp] theorem setChannel_triggers (c : Nat) (x : Channel) (p : Part) : (p.setChannel c x).triggers = p.triggers := rfl
@[simp] theorem setChannel_groups (c : Nat) (x : Channel) (p : Part) : (p.setChannel c x).groups = p.groups := rfl
@[simp] theorem setChannel_monitors (c : Nat) (x : Channel) (p : Part) : (p.setChannel c x).monitors = p.monitors := rfl
@[simp] theorem setChannel_capture (c : Nat) (x : Channel) (p : Part) : (p.setChannel c x).capture = p.capture := rfl
@[simp] theorem setChannel_matrix (c : Nat) (x : Channel) (p : Part) : (p.setChannel c x).matrix = p.matrix := rfl
@[simp] theorem setChannel_entries (c : Nat) (x : Channel) (p : Part) : (p.setChannel c x).entries = p.entries := rfl
@[simp] theorem setChannel_claims (c : Nat) (x : Channel) (p : Part) : (p.setChannel c x).claims = p.claims := rfl
@[simp] theorem setChannel_guard (c : Nat) (x : Channel) (p : Part) : (p.setChannel c x).guard = p.guard := rfl
@[simp] theorem setChannel_safe (c : Nat) (x : Channel) (p : Part) : (p.setChannel c x).safe = p.safe := rfl
@[simp] theorem setChannel_log (c : Nat) (x : Channel) (p : Part) : (p.setChannel c x).log = p.log := rfl
@[simp] theorem setChannel_link (c : Nat) (x : Channel) (p : Part) : (p.setChannel c x).link = p.link := rfl
@[simp] theorem setChannel_freeIndex (c : Nat) (x : Channel) (p : Part) : (p.setChannel c x).freeIndex = p.freeIndex := rfl

@[simp] theorem setChannel_channels (c : Nat) (x : Channel) (p : Part) : (p.setChannel c x).channels = p.channels.set c x := rfl
theorem channel_setChannel (c : Nat) (x : Channel) (p : Part) (h : c < p.channels.length) : (p.setChannel c x).channel c = x := by
  simp [Part.channel, Part.setChannel, List.getD_eq_getElem?_getD, h]
theorem channel_setChannel_ne {c k : Nat} (h : k ≠ c) (x : Channel) (p : Part) : (p.setChannel c x).channel k = p.channel k := by
  simp [Part.channel, Part.setChannel, List.getD_eq_getElem?_getD, Ne.symm h]
theorem setChannel_setChannel (c : Nat) (x y : Channel) (p : Part) :
    (p.setChannel c x).setChannel c y = p.setChannel c y := by
  simp [Part.setChannel]

/-! ### `setEntry` -/

@[simp] theorem setEntry_clock (e : Nat) (x : Entry) (p : Part) : (p.setEntry e x).clock = p.clock := rfl
@[simp] theorem setEntry_marks (e : Nat) (x : Entry) (p : Part) : (p.setEntry e x).marks = p.marks := rfl
@[simp] theorem setEntry_pins (e : Nat) (x : Entry) (p : Part) : (p.setEntry e x).pins = p.pins := rfl
@[simp] theorem setEntry_engine (e : Nat) (x : Entry) (p : Part) : (p.setEntry e x).engine = p.engine := rfl
@[simp] theorem setEntry_patterns (e : Nat) (x : Entry) (p : Part) : (p.setEntry e x).patterns = p.patterns := rfl
@[simp] theorem setEntry_channels (e : Nat) (x : Entry) (p : Part) : (p.setEntry e x).channels = p.channels := rfl
@[simp] theorem setEntry_damage (e : Nat) (x : Entry) (p : Part) : (p.setEntry e x).damage = p.damage := rfl
@[simp] theorem setEntry_slots (e : Nat) (x : Entry) (p : Part) : (p.setEntry e x).slots = p.slots := rfl
@[simp] theorem setEntry_triggers (e : Nat) (x : Entry) (p : Part) : (p.setEntry e x).triggers = p.triggers := rfl
@[simp] theorem setEntry_groups (e : Nat) (x : Entry) (p : Part) : (p.setEntry e x).groups = p.groups := rfl
@[simp] theorem setEntry_monitors (e : Nat) (x : Entry) (p : Part) : (p.setEntry e x).monitors = p.monitors := rfl
@[simp] theorem setEntry_capture (e : Nat) (x : Entry) (p : Part) : (p.setEntry e x).capture = p.capture := rfl
@[simp] theorem setEntry_matrix (e : Nat) (x : Entry) (p : Part) : (p.setEntry e x).matrix = p.matrix := rfl
@[simp] theorem setEntry_claims (e : Nat) (x : Entry) (p : Part) : (p.setEntry e x).claims = p.claims := rfl
@[simp] theorem setEntry_guard (e : Nat) (x : Entry) (p : Part) : (p.setEntry e x).guard = p.guard := rfl
@[simp] theorem setEntry_safe (e : Nat) (x : Entry) (p : Part) : (p.setEntry e x).safe = p.safe := rfl
@[simp] theorem setEntry_log (e : Nat) (x : Entry) (p : Part) : (p.setEntry e x).log = p.log := rfl
@[simp] theorem setEntry_link (e : Nat) (x : Entry) (p : Part) : (p.setEntry e x).link = p.link := rfl
@[simp] theorem setEntry_freeIndex (e : Nat) (x : Entry) (p : Part) : (p.setEntry e x).freeIndex = p.freeIndex := rfl

@[simp] theorem setEntry_entries (e : Nat) (x : Entry) (p : Part) : (p.setEntry e x).entries = p.entries.set e x := rfl
theorem entry_setEntry (e : Nat) (x : Entry) (p : Part) (h : e < p.entries.length) : (p.setEntry e x).entry e = x := by
  simp [Part.entry, Part.setEntry, List.getD_eq_getElem?_getD, h]
theorem entry_setEntry_ne {e k : Nat} (h : k ≠ e) (x : Entry) (p : Part) : (p.setEntry e x).entry k = p.entry k := by
  simp [Part.entry, Part.setEntry, List.getD_eq_getElem?_getD, Ne.symm h]
theorem setEntry_setEntry (e : Nat) (x y : Entry) (p : Part) :
    (p.setEntry e x).setEntry e y = p.setEntry e y := by
  simp [Part.setEntry]

/-! ### `setSlot` -/

@[simp] theorem setSlot_clock (n : Nat) (x : EventSlot) (p : Part) : (p.setSlot n x).clock = p.clock := rfl
@[simp] theorem setSlot_marks (n : Nat) (x : EventSlot) (p : Part) : (p.setSlot n x).marks = p.marks := rfl
@[simp] theorem setSlot_pins (n : Nat) (x : EventSlot) (p : Part) : (p.setSlot n x).pins = p.pins := rfl
@[simp] theorem setSlot_engine (n : Nat) (x : EventSlot) (p : Part) : (p.setSlot n x).engine = p.engine := rfl
@[simp] theorem setSlot_patterns (n : Nat) (x : EventSlot) (p : Part) : (p.setSlot n x).patterns = p.patterns := rfl
@[simp] theorem setSlot_channels (n : Nat) (x : EventSlot) (p : Part) : (p.setSlot n x).channels = p.channels := rfl
@[simp] theorem setSlot_damage (n : Nat) (x : EventSlot) (p : Part) : (p.setSlot n x).damage = p.damage := rfl
@[simp] theorem setSlot_triggers (n : Nat) (x : EventSlot) (p : Part) : (p.setSlot n x).triggers = p.triggers := rfl
@[simp] theorem setSlot_groups (n : Nat) (x : EventSlot) (p : Part) : (p.setSlot n x).groups = p.groups := rfl
@[simp] theorem setSlot_monitors (n : Nat) (x : EventSlot) (p : Part) : (p.setSlot n x).monitors = p.monitors := rfl
@[simp] theorem setSlot_capture (n : Nat) (x : EventSlot) (p : Part) : (p.setSlot n x).capture = p.capture := rfl
@[simp] theorem setSlot_matrix (n : Nat) (x : EventSlot) (p : Part) : (p.setSlot n x).matrix = p.matrix := rfl
@[simp] theorem setSlot_entries (n : Nat) (x : EventSlot) (p : Part) : (p.setSlot n x).entries = p.entries := rfl
@[simp] theorem setSlot_claims (n : Nat) (x : EventSlot) (p : Part) : (p.setSlot n x).claims = p.claims := rfl
@[simp] theorem setSlot_guard (n : Nat) (x : EventSlot) (p : Part) : (p.setSlot n x).guard = p.guard := rfl
@[simp] theorem setSlot_safe (n : Nat) (x : EventSlot) (p : Part) : (p.setSlot n x).safe = p.safe := rfl
@[simp] theorem setSlot_log (n : Nat) (x : EventSlot) (p : Part) : (p.setSlot n x).log = p.log := rfl
@[simp] theorem setSlot_link (n : Nat) (x : EventSlot) (p : Part) : (p.setSlot n x).link = p.link := rfl
@[simp] theorem setSlot_freeIndex (n : Nat) (x : EventSlot) (p : Part) : (p.setSlot n x).freeIndex = p.freeIndex := rfl

@[simp] theorem setSlot_slots (n : Nat) (x : EventSlot) (p : Part) : (p.setSlot n x).slots = p.slots.set n x := rfl
theorem slot_setSlot (n : Nat) (x : EventSlot) (p : Part) (h : n < p.slots.length) : (p.setSlot n x).slot n = x := by
  simp [Part.slot, Part.setSlot, List.getD_eq_getElem?_getD, h]
theorem slot_setSlot_ne {n k : Nat} (h : k ≠ n) (x : EventSlot) (p : Part) : (p.setSlot n x).slot k = p.slot k := by
  simp [Part.slot, Part.setSlot, List.getD_eq_getElem?_getD, Ne.symm h]
theorem setSlot_setSlot (n : Nat) (x y : EventSlot) (p : Part) :
    (p.setSlot n x).setSlot n y = p.setSlot n y := by
  simp [Part.setSlot]

/-! ### `setGroup` -/

@[simp] theorem setGroup_clock (g : Nat) (x : Group) (p : Part) : (p.setGroup g x).clock = p.clock := rfl
@[simp] theorem setGroup_marks (g : Nat) (x : Group) (p : Part) : (p.setGroup g x).marks = p.marks := rfl
@[simp] theorem setGroup_pins (g : Nat) (x : Group) (p : Part) : (p.setGroup g x).pins = p.pins := rfl
@[simp] theorem setGroup_engine (g : Nat) (x : Group) (p : Part) : (p.setGroup g x).engine = p.engine := rfl
@[simp] theorem setGroup_patterns (g : Nat) (x : Group) (p : Part) : (p.setGroup g x).patterns = p.patterns := rfl
@[simp] theorem setGroup_channels (g : Nat) (x : Group) (p : Part) : (p.setGroup g x).channels = p.channels := rfl
@[simp] theorem setGroup_damage (g : Nat) (x : Group) (p : Part) : (p.setGroup g x).damage = p.damage := rfl
@[simp] theorem setGroup_slots (g : Nat) (x : Group) (p : Part) : (p.setGroup g x).slots = p.slots := rfl
@[simp] theorem setGroup_triggers (g : Nat) (x : Group) (p : Part) : (p.setGroup g x).triggers = p.triggers := rfl
@[simp] theorem setGroup_monitors (g : Nat) (x : Group) (p : Part) : (p.setGroup g x).monitors = p.monitors := rfl
@[simp] theorem setGroup_capture (g : Nat) (x : Group) (p : Part) : (p.setGroup g x).capture = p.capture := rfl
@[simp] theorem setGroup_matrix (g : Nat) (x : Group) (p : Part) : (p.setGroup g x).matrix = p.matrix := rfl
@[simp] theorem setGroup_entries (g : Nat) (x : Group) (p : Part) : (p.setGroup g x).entries = p.entries := rfl
@[simp] theorem setGroup_claims (g : Nat) (x : Group) (p : Part) : (p.setGroup g x).claims = p.claims := rfl
@[simp] theorem setGroup_guard (g : Nat) (x : Group) (p : Part) : (p.setGroup g x).guard = p.guard := rfl
@[simp] theorem setGroup_safe (g : Nat) (x : Group) (p : Part) : (p.setGroup g x).safe = p.safe := rfl
@[simp] theorem setGroup_log (g : Nat) (x : Group) (p : Part) : (p.setGroup g x).log = p.log := rfl
@[simp] theorem setGroup_link (g : Nat) (x : Group) (p : Part) : (p.setGroup g x).link = p.link := rfl
@[simp] theorem setGroup_freeIndex (g : Nat) (x : Group) (p : Part) : (p.setGroup g x).freeIndex = p.freeIndex := rfl

@[simp] theorem setGroup_groups (g : Nat) (x : Group) (p : Part) : (p.setGroup g x).groups = p.groups.set g x := rfl
theorem group_setGroup (g : Nat) (x : Group) (p : Part) (h : g < p.groups.length) : (p.setGroup g x).group g = x := by
  simp [Part.group, Part.setGroup, List.getD_eq_getElem?_getD, h]
theorem group_setGroup_ne {g k : Nat} (h : k ≠ g) (x : Group) (p : Part) : (p.setGroup g x).group k = p.group k := by
  simp [Part.group, Part.setGroup, List.getD_eq_getElem?_getD, Ne.symm h]
theorem setGroup_setGroup (g : Nat) (x y : Group) (p : Part) :
    (p.setGroup g x).setGroup g y = p.setGroup g y := by
  simp [Part.setGroup]

/-! ### `setTrigger` -/

@[simp] theorem setTrigger_clock (i : Nat) (x : TriggerInput) (p : Part) : (p.setTrigger i x).clock = p.clock := rfl
@[simp] theorem setTrigger_marks (i : Nat) (x : TriggerInput) (p : Part) : (p.setTrigger i x).marks = p.marks := rfl
@[simp] theorem setTrigger_pins (i : Nat) (x : TriggerInput) (p : Part) : (p.setTrigger i x).pins = p.pins := rfl
@[simp] theorem setTrigger_engine (i : Nat) (x : TriggerInput) (p : Part) : (p.setTrigger i x).engine = p.engine := rfl
@[simp] theorem setTrigger_patterns (i : Nat) (x : TriggerInput) (p : Part) : (p.setTrigger i x).patterns = p.patterns := rfl
@[simp] theorem setTrigger_channels (i : Nat) (x : TriggerInput) (p : Part) : (p.setTrigger i x).channels = p.channels := rfl
@[simp] theorem setTrigger_damage (i : Nat) (x : TriggerInput) (p : Part) : (p.setTrigger i x).damage = p.damage := rfl
@[simp] theorem setTrigger_slots (i : Nat) (x : TriggerInput) (p : Part) : (p.setTrigger i x).slots = p.slots := rfl
@[simp] theorem setTrigger_groups (i : Nat) (x : TriggerInput) (p : Part) : (p.setTrigger i x).groups = p.groups := rfl
@[simp] theorem setTrigger_monitors (i : Nat) (x : TriggerInput) (p : Part) : (p.setTrigger i x).monitors = p.monitors := rfl
@[simp] theorem setTrigger_capture (i : Nat) (x : TriggerInput) (p : Part) : (p.setTrigger i x).capture = p.capture := rfl
@[simp] theorem setTrigger_matrix (i : Nat) (x : TriggerInput) (p : Part) : (p.setTrigger i x).matrix = p.matrix := rfl
@[simp] theorem setTrigger_entries (i : Nat) (x : TriggerInput) (p : Part) : (p.setTrigger i x).entries = p.entries := rfl
@[simp] theorem setTrigger_claims (i : Nat) (x : TriggerInput) (p : Part) : (p.setTrigger i x).claims = p.claims := rfl
@[simp] theorem setTrigger_guard (i : Nat) (x : TriggerInput) (p : Part) : (p.setTrigger i x).guard = p.guard := rfl
@[simp] theorem setTrigger_safe (i : Nat) (x : TriggerInput) (p : Part) : (p.setTrigger i x).safe = p.safe := rfl
@[simp] theorem setTrigger_log (i : Nat) (x : TriggerInput) (p : Part) : (p.setTrigger i x).log = p.log := rfl
@[simp] theorem setTrigger_link (i : Nat) (x : TriggerInput) (p : Part) : (p.setTrigger i x).link = p.link := rfl
@[simp] theorem setTrigger_freeIndex (i : Nat) (x : TriggerInput) (p : Part) : (p.setTrigger i x).freeIndex = p.freeIndex := rfl

@[simp] theorem setTrigger_triggers (i : Nat) (x : TriggerInput) (p : Part) : (p.setTrigger i x).triggers = p.triggers.set i x := rfl
theorem trigger_setTrigger (i : Nat) (x : TriggerInput) (p : Part) (h : i < p.triggers.length) : (p.setTrigger i x).trigger i = x := by
  simp [Part.trigger, Part.setTrigger, List.getD_eq_getElem?_getD, h]
theorem trigger_setTrigger_ne {i k : Nat} (h : k ≠ i) (x : TriggerInput) (p : Part) : (p.setTrigger i x).trigger k = p.trigger k := by
  simp [Part.trigger, Part.setTrigger, List.getD_eq_getElem?_getD, Ne.symm h]
theorem setTrigger_setTrigger (i : Nat) (x y : TriggerInput) (p : Part) :
    (p.setTrigger i x).setTrigger i y = p.setTrigger i y := by
  simp [Part.setTrigger]

/-! ### `setMonitor` -/

@[simp] theorem setMonitor_clock (m : Nat) (x : Monitor) (p : Part) : (p.setMonitor m x).clock = p.clock := rfl
@[simp] theorem setMonitor_marks (m : Nat) (x : Monitor) (p : Part) : (p.setMonitor m x).marks = p.marks := rfl
@[simp] theorem setMonitor_pins (m : Nat) (x : Monitor) (p : Part) : (p.setMonitor m x).pins = p.pins := rfl
@[simp] theorem setMonitor_engine (m : Nat) (x : Monitor) (p : Part) : (p.setMonitor m x).engine = p.engine := rfl
@[simp] theorem setMonitor_patterns (m : Nat) (x : Monitor) (p : Part) : (p.setMonitor m x).patterns = p.patterns := rfl
@[simp] theorem setMonitor_channels (m : Nat) (x : Monitor) (p : Part) : (p.setMonitor m x).channels = p.channels := rfl
@[simp] theorem setMonitor_damage (m : Nat) (x : Monitor) (p : Part) : (p.setMonitor m x).damage = p.damage := rfl
@[simp] theorem setMonitor_slots (m : Nat) (x : Monitor) (p : Part) : (p.setMonitor m x).slots = p.slots := rfl
@[simp] theorem setMonitor_triggers (m : Nat) (x : Monitor) (p : Part) : (p.setMonitor m x).triggers = p.triggers := rfl
@[simp] theorem setMonitor_groups (m : Nat) (x : Monitor) (p : Part) : (p.setMonitor m x).groups = p.groups := rfl
@[simp] theorem setMonitor_capture (m : Nat) (x : Monitor) (p : Part) : (p.setMonitor m x).capture = p.capture := rfl
@[simp] theorem setMonitor_matrix (m : Nat) (x : Monitor) (p : Part) : (p.setMonitor m x).matrix = p.matrix := rfl
@[simp] theorem setMonitor_entries (m : Nat) (x : Monitor) (p : Part) : (p.setMonitor m x).entries = p.entries := rfl
@[simp] theorem setMonitor_claims (m : Nat) (x : Monitor) (p : Part) : (p.setMonitor m x).claims = p.claims := rfl
@[simp] theorem setMonitor_guard (m : Nat) (x : Monitor) (p : Part) : (p.setMonitor m x).guard = p.guard := rfl
@[simp] theorem setMonitor_safe (m : Nat) (x : Monitor) (p : Part) : (p.setMonitor m x).safe = p.safe := rfl
@[simp] theorem setMonitor_log (m : Nat) (x : Monitor) (p : Part) : (p.setMonitor m x).log = p.log := rfl
@[simp] theorem setMonitor_link (m : Nat) (x : Monitor) (p : Part) : (p.setMonitor m x).link = p.link := rfl
@[simp] theorem setMonitor_freeIndex (m : Nat) (x : Monitor) (p : Part) : (p.setMonitor m x).freeIndex = p.freeIndex := rfl

@[simp] theorem setMonitor_monitors (m : Nat) (x : Monitor) (p : Part) : (p.setMonitor m x).monitors = p.monitors.set m x := rfl
theorem monitor_setMonitor (m : Nat) (x : Monitor) (p : Part) (h : m < p.monitors.length) : (p.setMonitor m x).monitor m = x := by
  simp [Part.monitor, Part.setMonitor, List.getD_eq_getElem?_getD, h]
theorem monitor_setMonitor_ne {m k : Nat} (h : k ≠ m) (x : Monitor) (p : Part) : (p.setMonitor m x).monitor k = p.monitor k := by
  simp [Part.monitor, Part.setMonitor, List.getD_eq_getElem?_getD, Ne.symm h]
theorem setMonitor_setMonitor (m : Nat) (x y : Monitor) (p : Part) :
    (p.setMonitor m x).setMonitor m y = p.setMonitor m y := by
  simp [Part.setMonitor]

/-! ### `setLine` -/

@[simp] theorem setLine_clock (l : Nat) (x : Line) (p : Part) : (p.setLine l x).clock = p.clock := rfl
@[simp] theorem setLine_marks (l : Nat) (x : Line) (p : Part) : (p.setLine l x).marks = p.marks := rfl
@[simp] theorem setLine_pins (l : Nat) (x : Line) (p : Part) : (p.setLine l x).pins = p.pins := rfl
@[simp] theorem setLine_engine (l : Nat) (x : Line) (p : Part) : (p.setLine l x).engine = p.engine := rfl
@[simp] theorem setLine_patterns (l : Nat) (x : Line) (p : Part) : (p.setLine l x).patterns = p.patterns := rfl
@[simp] theorem setLine_channels (l : Nat) (x : Line) (p : Part) : (p.setLine l x).channels = p.channels := rfl
@[simp] theorem setLine_damage (l : Nat) (x : Line) (p : Part) : (p.setLine l x).damage = p.damage := rfl
@[simp] theorem setLine_slots (l : Nat) (x : Line) (p : Part) : (p.setLine l x).slots = p.slots := rfl
@[simp] theorem setLine_triggers (l : Nat) (x : Line) (p : Part) : (p.setLine l x).triggers = p.triggers := rfl
@[simp] theorem setLine_groups (l : Nat) (x : Line) (p : Part) : (p.setLine l x).groups = p.groups := rfl
@[simp] theorem setLine_monitors (l : Nat) (x : Line) (p : Part) : (p.setLine l x).monitors = p.monitors := rfl
@[simp] theorem setLine_capture (l : Nat) (x : Line) (p : Part) : (p.setLine l x).capture = p.capture := rfl
@[simp] theorem setLine_entries (l : Nat) (x : Line) (p : Part) : (p.setLine l x).entries = p.entries := rfl
@[simp] theorem setLine_claims (l : Nat) (x : Line) (p : Part) : (p.setLine l x).claims = p.claims := rfl
@[simp] theorem setLine_guard (l : Nat) (x : Line) (p : Part) : (p.setLine l x).guard = p.guard := rfl
@[simp] theorem setLine_safe (l : Nat) (x : Line) (p : Part) : (p.setLine l x).safe = p.safe := rfl
@[simp] theorem setLine_log (l : Nat) (x : Line) (p : Part) : (p.setLine l x).log = p.log := rfl
@[simp] theorem setLine_link (l : Nat) (x : Line) (p : Part) : (p.setLine l x).link = p.link := rfl
@[simp] theorem setLine_freeIndex (l : Nat) (x : Line) (p : Part) : (p.setLine l x).freeIndex = p.freeIndex := rfl

@[simp] theorem setLine_matrix_terminations (l : Nat) (x : Line) (p : Part) : (p.setLine l x).matrix.terminations = p.matrix.terminations := rfl
@[simp] theorem setLine_matrix_lineSense (l : Nat) (x : Line) (p : Part) : (p.setLine l x).matrix.lineSense = p.matrix.lineSense := rfl
@[simp] theorem setLine_matrix_busSense (l : Nat) (x : Line) (p : Part) : (p.setLine l x).matrix.busSense = p.matrix.busSense := rfl
@[simp] theorem setLine_matrix_senseTick (l : Nat) (x : Line) (p : Part) : (p.setLine l x).matrix.senseTick = p.matrix.senseTick := rfl
@[simp] theorem setLine_matrix_state (l : Nat) (x : Line) (p : Part) : (p.setLine l x).matrix.state = p.matrix.state := rfl
@[simp] theorem setLine_matrix_firstPass (l : Nat) (x : Line) (p : Part) : (p.setLine l x).matrix.firstPass = p.matrix.firstPass := rfl
@[simp] theorem setLine_matrix_restore (l : Nat) (x : Line) (p : Part) : (p.setLine l x).matrix.restore = p.matrix.restore := rfl
@[simp] theorem setLine_matrix_settle (l : Nat) (x : Line) (p : Part) : (p.setLine l x).matrix.settle = p.matrix.settle := rfl
@[simp] theorem setLine_matrix_patrolInterval (l : Nat) (x : Line) (p : Part) : (p.setLine l x).matrix.patrolInterval = p.matrix.patrolInterval := rfl
@[simp] theorem setLine_matrix_wearThreshold (l : Nat) (x : Line) (p : Part) : (p.setLine l x).matrix.wearThreshold = p.matrix.wearThreshold := rfl
@[simp] theorem setLine_matrix_patrolPosition (l : Nat) (x : Line) (p : Part) : (p.setLine l x).matrix.patrolPosition = p.matrix.patrolPosition := rfl
@[simp] theorem setLine_matrix_patrolNext (l : Nat) (x : Line) (p : Part) : (p.setLine l x).matrix.patrolNext = p.matrix.patrolNext := rfl
@[simp] theorem setLine_matrix_patrolLast (l : Nat) (x : Line) (p : Part) : (p.setLine l x).matrix.patrolLast = p.matrix.patrolLast := rfl
@[simp] theorem setLine_lines (l : Nat) (x : Line) (p : Part) : (p.setLine l x).matrix.lines = p.matrix.lines.set l x := rfl
theorem line_setLine (l : Nat) (x : Line) (p : Part) (h : l < p.matrix.lines.length) : (p.setLine l x).line l = x := by
  simp [Part.line, Part.setLine, List.getD_eq_getElem?_getD, h]
theorem line_setLine_ne {l k : Nat} (h : k ≠ l) (x : Line) (p : Part) : (p.setLine l x).line k = p.line k := by
  simp [Part.line, Part.setLine, List.getD_eq_getElem?_getD, Ne.symm h]
theorem setLine_setLine (l : Nat) (x y : Line) (p : Part) : (p.setLine l x).setLine l y = p.setLine l y := by
  simp [Part.setLine]

theorem cellIndex_lt (c : CellId) : cellIndex c < 7 := by cases c <;> decide
theorem cellIndex_inj {c k : CellId} (h : cellIndex c = cellIndex k) : c = k := by
  cases c <;> cases k <;> first | rfl | exact absurd h (by decide)
theorem cell_setCell (c : CellId) (x : Cell) (l : Line) (h : l.cells.length = 7) : (l.setCell c x).cell c = x := by
  simp [Line.cell, Line.setCell, List.getD_eq_getElem?_getD, h, cellIndex_lt c]
theorem cell_setCell_ne {c k : CellId} (h : k ≠ c) (x : Cell) (l : Line) : (l.setCell c x).cell k = l.cell k := by
  have : ¬cellIndex c = cellIndex k := fun e => h (cellIndex_inj e.symm)
  simp [Line.cell, Line.setCell, List.getD_eq_getElem?_getD, this]
@[simp] theorem setCell_state (c : CellId) (x : Cell) (l : Line) : (l.setCell c x).state = l.state := rfl
@[simp] theorem setCell_lastOpen (c : CellId) (x : Cell) (l : Line) : (l.setCell c x).lastOpen = l.lastOpen := rfl
@[simp] theorem setCell_heldClose (c : CellId) (x : Cell) (l : Line) : (l.setCell c x).heldClose = l.heldClose := rfl
@[simp] theorem setCell_isolation (c : CellId) (x : Cell) (l : Line) : (l.setCell c x).isolation = l.isolation := rfl
@[simp] theorem setCell_length (c : CellId) (x : Cell) (l : Line) : (l.setCell c x).cells.length = l.cells.length := by
  simp [Line.setCell]

/-! ### `reply` and `raise` -/

@[simp] theorem reply_clock (tag : Nat) (a : Answer) (p : Part) : (p.reply tag a).clock = p.clock := rfl
@[simp] theorem raise_clock (src : NoticeSource) (p : Part) : (p.raise src).clock = p.clock := by
  unfold Part.raise; split <;> [rfl; (split <;> rfl)]
@[simp] theorem reply_marks (tag : Nat) (a : Answer) (p : Part) : (p.reply tag a).marks = p.marks := rfl
@[simp] theorem raise_marks (src : NoticeSource) (p : Part) : (p.raise src).marks = p.marks := by
  unfold Part.raise; split <;> [rfl; (split <;> rfl)]
@[simp] theorem reply_pins (tag : Nat) (a : Answer) (p : Part) : (p.reply tag a).pins = p.pins := rfl
@[simp] theorem raise_pins (src : NoticeSource) (p : Part) : (p.raise src).pins = p.pins := by
  unfold Part.raise; split <;> [rfl; (split <;> rfl)]
@[simp] theorem reply_engine (tag : Nat) (a : Answer) (p : Part) : (p.reply tag a).engine = p.engine := rfl
@[simp] theorem raise_engine (src : NoticeSource) (p : Part) : (p.raise src).engine = p.engine := by
  unfold Part.raise; split <;> [rfl; (split <;> rfl)]
@[simp] theorem reply_patterns (tag : Nat) (a : Answer) (p : Part) : (p.reply tag a).patterns = p.patterns := rfl
@[simp] theorem raise_patterns (src : NoticeSource) (p : Part) : (p.raise src).patterns = p.patterns := by
  unfold Part.raise; split <;> [rfl; (split <;> rfl)]
@[simp] theorem reply_channels (tag : Nat) (a : Answer) (p : Part) : (p.reply tag a).channels = p.channels := rfl
@[simp] theorem raise_channels (src : NoticeSource) (p : Part) : (p.raise src).channels = p.channels := by
  unfold Part.raise; split <;> [rfl; (split <;> rfl)]
@[simp] theorem reply_damage (tag : Nat) (a : Answer) (p : Part) : (p.reply tag a).damage = p.damage := rfl
@[simp] theorem raise_damage (src : NoticeSource) (p : Part) : (p.raise src).damage = p.damage := by
  unfold Part.raise; split <;> [rfl; (split <;> rfl)]
@[simp] theorem reply_slots (tag : Nat) (a : Answer) (p : Part) : (p.reply tag a).slots = p.slots := rfl
@[simp] theorem raise_slots (src : NoticeSource) (p : Part) : (p.raise src).slots = p.slots := by
  unfold Part.raise; split <;> [rfl; (split <;> rfl)]
@[simp] theorem reply_triggers (tag : Nat) (a : Answer) (p : Part) : (p.reply tag a).triggers = p.triggers := rfl
@[simp] theorem raise_triggers (src : NoticeSource) (p : Part) : (p.raise src).triggers = p.triggers := by
  unfold Part.raise; split <;> [rfl; (split <;> rfl)]
@[simp] theorem reply_groups (tag : Nat) (a : Answer) (p : Part) : (p.reply tag a).groups = p.groups := rfl
@[simp] theorem raise_groups (src : NoticeSource) (p : Part) : (p.raise src).groups = p.groups := by
  unfold Part.raise; split <;> [rfl; (split <;> rfl)]
@[simp] theorem reply_monitors (tag : Nat) (a : Answer) (p : Part) : (p.reply tag a).monitors = p.monitors := rfl
@[simp] theorem raise_monitors (src : NoticeSource) (p : Part) : (p.raise src).monitors = p.monitors := by
  unfold Part.raise; split <;> [rfl; (split <;> rfl)]
@[simp] theorem reply_capture (tag : Nat) (a : Answer) (p : Part) : (p.reply tag a).capture = p.capture := rfl
@[simp] theorem raise_capture (src : NoticeSource) (p : Part) : (p.raise src).capture = p.capture := by
  unfold Part.raise; split <;> [rfl; (split <;> rfl)]
@[simp] theorem reply_matrix (tag : Nat) (a : Answer) (p : Part) : (p.reply tag a).matrix = p.matrix := rfl
@[simp] theorem raise_matrix (src : NoticeSource) (p : Part) : (p.raise src).matrix = p.matrix := by
  unfold Part.raise; split <;> [rfl; (split <;> rfl)]
@[simp] theorem reply_entries (tag : Nat) (a : Answer) (p : Part) : (p.reply tag a).entries = p.entries := rfl
@[simp] theorem raise_entries (src : NoticeSource) (p : Part) : (p.raise src).entries = p.entries := by
  unfold Part.raise; split <;> [rfl; (split <;> rfl)]
@[simp] theorem reply_claims (tag : Nat) (a : Answer) (p : Part) : (p.reply tag a).claims = p.claims := rfl
@[simp] theorem raise_claims (src : NoticeSource) (p : Part) : (p.raise src).claims = p.claims := by
  unfold Part.raise; split <;> [rfl; (split <;> rfl)]
@[simp] theorem reply_guard (tag : Nat) (a : Answer) (p : Part) : (p.reply tag a).guard = p.guard := rfl
@[simp] theorem raise_guard (src : NoticeSource) (p : Part) : (p.raise src).guard = p.guard := by
  unfold Part.raise; split <;> [rfl; (split <;> rfl)]
@[simp] theorem reply_safe (tag : Nat) (a : Answer) (p : Part) : (p.reply tag a).safe = p.safe := rfl
@[simp] theorem raise_safe (src : NoticeSource) (p : Part) : (p.raise src).safe = p.safe := by
  unfold Part.raise; split <;> [rfl; (split <;> rfl)]
@[simp] theorem reply_log (tag : Nat) (a : Answer) (p : Part) : (p.reply tag a).log = p.log := rfl
@[simp] theorem raise_log (src : NoticeSource) (p : Part) : (p.raise src).log = p.log := by
  unfold Part.raise; split <;> [rfl; (split <;> rfl)]
@[simp] theorem reply_freeIndex (tag : Nat) (a : Answer) (p : Part) : (p.reply tag a).freeIndex = p.freeIndex := rfl
@[simp] theorem raise_freeIndex (src : NoticeSource) (p : Part) : (p.raise src).freeIndex = p.freeIndex := by
  unfold Part.raise; split <;> [rfl; (split <;> rfl)]
@[simp] theorem raise_link_receiver (src : NoticeSource) (p : Part) : (p.raise src).link.receiver = p.link.receiver := by
  unfold Part.raise; split <;> [rfl; (split <;> rfl)]
@[simp] theorem raise_link_inbound (src : NoticeSource) (p : Part) : (p.raise src).link.inbound = p.link.inbound := by
  unfold Part.raise; split <;> [rfl; (split <;> rfl)]
@[simp] theorem raise_link_replies (src : NoticeSource) (p : Part) : (p.raise src).link.replies = p.link.replies := by
  unfold Part.raise; split <;> [rfl; (split <;> rfl)]
@[simp] theorem raise_link_levels (src : NoticeSource) (p : Part) : (p.raise src).link.levels = p.link.levels := by
  unfold Part.raise; split <;> [rfl; (split <;> rfl)]
@[simp] theorem raise_link_transmitter (src : NoticeSource) (p : Part) : (p.raise src).link.transmitter = p.link.transmitter := by
  unfold Part.raise; split <;> [rfl; (split <;> rfl)]
@[simp] theorem raise_link_resetPending (src : NoticeSource) (p : Part) : (p.raise src).link.resetPending = p.link.resetPending := by
  unfold Part.raise; split <;> [rfl; (split <;> rfl)]
@[simp] theorem raise_link_counters (src : NoticeSource) (p : Part) : (p.raise src).link.counters = p.link.counters := by
  unfold Part.raise; split <;> [rfl; (split <;> rfl)]
@[simp] theorem raise_link_resetCause (src : NoticeSource) (p : Part) : (p.raise src).link.resetCause = p.link.resetCause := by
  unfold Part.raise; split <;> [rfl; (split <;> rfl)]

/-! ### `State` -/

@[simp] theorem withPart_part (s : State) (p : Part) : (s.withPart p).part = p := rfl
@[simp] theorem withPart_pending (s : State) (p : Part) : (s.withPart p).pending = s.pending := rfl
@[simp] theorem replied_pending (s : State) (p : Part) (tag : Nat) (a : Answer) : (s.replied p tag a).pending = s.pending := rfl
@[simp] theorem replied_replies (s : State) (p : Part) (tag : Nat) (a : Answer) :
    (s.replied p tag a).part.link.replies = p.link.replies ++ [{ tag := tag, answer := a }] := rfl
@[simp] theorem replied_clock (s : State) (p : Part) (tag : Nat) (a : Answer) : (s.replied p tag a).part.clock = p.clock := rfl
@[simp] theorem replied_marks (s : State) (p : Part) (tag : Nat) (a : Answer) : (s.replied p tag a).part.marks = p.marks := rfl
@[simp] theorem replied_pins (s : State) (p : Part) (tag : Nat) (a : Answer) : (s.replied p tag a).part.pins = p.pins := rfl
@[simp] theorem replied_engine (s : State) (p : Part) (tag : Nat) (a : Answer) : (s.replied p tag a).part.engine = p.engine := rfl
@[simp] theorem replied_patterns (s : State) (p : Part) (tag : Nat) (a : Answer) : (s.replied p tag a).part.patterns = p.patterns := rfl
@[simp] theorem replied_channels (s : State) (p : Part) (tag : Nat) (a : Answer) : (s.replied p tag a).part.channels = p.channels := rfl
@[simp] theorem replied_damage (s : State) (p : Part) (tag : Nat) (a : Answer) : (s.replied p tag a).part.damage = p.damage := rfl
@[simp] theorem replied_slots (s : State) (p : Part) (tag : Nat) (a : Answer) : (s.replied p tag a).part.slots = p.slots := rfl
@[simp] theorem replied_triggers (s : State) (p : Part) (tag : Nat) (a : Answer) : (s.replied p tag a).part.triggers = p.triggers := rfl
@[simp] theorem replied_groups (s : State) (p : Part) (tag : Nat) (a : Answer) : (s.replied p tag a).part.groups = p.groups := rfl
@[simp] theorem replied_monitors (s : State) (p : Part) (tag : Nat) (a : Answer) : (s.replied p tag a).part.monitors = p.monitors := rfl
@[simp] theorem replied_capture (s : State) (p : Part) (tag : Nat) (a : Answer) : (s.replied p tag a).part.capture = p.capture := rfl
@[simp] theorem replied_matrix (s : State) (p : Part) (tag : Nat) (a : Answer) : (s.replied p tag a).part.matrix = p.matrix := rfl
@[simp] theorem replied_entries (s : State) (p : Part) (tag : Nat) (a : Answer) : (s.replied p tag a).part.entries = p.entries := rfl
@[simp] theorem replied_claims (s : State) (p : Part) (tag : Nat) (a : Answer) : (s.replied p tag a).part.claims = p.claims := rfl
@[simp] theorem replied_guard (s : State) (p : Part) (tag : Nat) (a : Answer) : (s.replied p tag a).part.guard = p.guard := rfl
@[simp] theorem replied_safe (s : State) (p : Part) (tag : Nat) (a : Answer) : (s.replied p tag a).part.safe = p.safe := rfl
@[simp] theorem replied_log (s : State) (p : Part) (tag : Nat) (a : Answer) : (s.replied p tag a).part.log = p.log := rfl
@[simp] theorem replied_freeIndex (s : State) (p : Part) (tag : Nat) (a : Answer) : (s.replied p tag a).part.freeIndex = p.freeIndex := rfl

end Sys2Proof.Machine
end

