-- ==== Sys2Proof/Laws/Ops.lean ====
section
/-! SUPPORT. What each shared operation can do, said once: the interpreter's take, a request, a judgement by checks, an event of
a unit, a cause, a logging, the cascade piece by piece, and the body of a frame. -/

namespace Sys2Proof.Machine

open Sys2Proof

/-! ### Requests -/

theorem takeFrame_of_takes {c : Instr} {p : Part} (h : p.takes c = true) : p.takeFrame c = some (p.taken c) := by
  unfold Part.takes at h
  obtain ⟨q, hq⟩ := Option.isSome_iff_exists.mp h
  simp [Part.taken, hq]

/-- A request that is taken is judged once and answered once. -/
theorem request_of_takes {c : Instr} {s : State} (h : s.part.takes c = true) (tag : Nat) (act : Part → Verdict) :
    request c tag act s = .next (s.withPart ((s.part.taken c).judgeRequest tag act)) := by
  simp [request, takeFrame_of_takes h, acted, State.withPart]

/-- A request that is not taken changes nothing. -/
theorem request_of_not_takes {c : Instr} {s : State} (h : s.part.takes c = false) (tag : Nat) (act : Part → Verdict) :
    request c tag act s = .next s := by
  have : s.part.takeFrame c = none := by simpa [Part.takes] using h
  simp [request, this, acted]

/-- Every request answers a next state with the queue of waiting commands as it was. -/
theorem request_next (c : Instr) (tag : Nat) (act : Part → Verdict) (s : State) :
    ∃ p, request c tag act s = .next (s.withPart p) := by
  cases h : s.part.takes c with
  | true => exact ⟨_, request_of_takes h tag act⟩
  | false => exact ⟨s.part, request_of_not_takes h tag act⟩

theorem judge_refuse {tag : Nat} (ht : tag ≠ 0) {act : Part → Verdict} {p : Part} {r : Refused}
    (h : act p = .refuse r) : p.judgeRequest tag act = p.reply tag (.refuse r) := by
  simp [Part.judgeRequest, Part.answered, ht, h]

theorem judge_ack {tag : Nat} (ht : tag ≠ 0) {act : Part → Verdict} {p q : Part} {b : Body} (h : act p = .ack b q) :
    p.judgeRequest tag act = q.reply tag (.ack b) := by
  simp [Part.judgeRequest, Part.answered, ht, h]

/-- A taken request whose block refuses it. -/
theorem request_refused {c : Instr} {s : State} (h : s.part.takes c = true) {tag : Nat} (ht : tag ≠ 0)
    {act : Part → Verdict} {r : Refused} (hv : act (s.part.taken c) = .refuse r) :
    request c tag act s = .next (s.replied (s.part.taken c) tag (.refuse r)) := by
  rw [request_of_takes h, judge_refuse ht hv]; rfl

/-- A taken request whose block accepts it. -/
theorem request_acked {c : Instr} {s : State} (h : s.part.takes c = true) {tag : Nat} (ht : tag ≠ 0)
    {act : Part → Verdict} {b : Body} {q : Part} (hv : act (s.part.taken c) = .ack b q) :
    request c tag act s = .next (s.replied q tag (.ack b)) := by
  rw [request_of_takes h, judge_ack ht hv]; rfl

/-- A judgement by checks none of which fails accepts. -/
@[simp] theorem checked_nil (a : Verdict) : checked [] a = a := rfl

/-- A judgement by checks refuses by the first, or goes on to the rest. -/
@[simp] theorem checked_cons (b : Bool) (r : Refused) (cs : List (Bool × Refused)) (a : Verdict) :
    checked ((b, r) :: cs) a = if b then .refuse r else checked cs a := by
  cases b <;> simp [checked, firstFailure]

/-! ### Events of units -/

theorem onUnit_of_lt {n units : Nat} (h : n < units) (act : Part → Part) (s : State) :
    onUnit n units act s = .next (s.withPart (act s.part)) := by
  simp [onUnit, h, acted, State.withPart]

theorem onUnit_of_le {n units : Nat} (h : units ≤ n) (act : Part → Part) (s : State) :
    onUnit n units act s = .fault .noSuchUnit := by
  simp [onUnit, Nat.not_lt.mpr h]

/-! ### Loggings -/

@[simp] theorem logError_clock (code : ErrCode) (sub : Subject) (d : Int) (p : Part) :
    (p.logError code sub d).clock = p.clock := by simp [Part.logError]
@[simp] theorem logError_pins (code : ErrCode) (sub : Subject) (d : Int) (p : Part) :
    (p.logError code sub d).pins = p.pins := by simp [Part.logError]
@[simp] theorem logError_engine (code : ErrCode) (sub : Subject) (d : Int) (p : Part) :
    (p.logError code sub d).engine = p.engine := by simp [Part.logError]
@[simp] theorem logError_channels (code : ErrCode) (sub : Subject) (d : Int) (p : Part) :
    (p.logError code sub d).channels = p.channels := by simp [Part.logError]
@[simp] theorem logError_slots (code : ErrCode) (sub : Subject) (d : Int) (p : Part) :
    (p.logError code sub d).slots = p.slots := by simp [Part.logError]
@[simp] theorem logError_groups (code : ErrCode) (sub : Subject) (d : Int) (p : Part) :
    (p.logError code sub d).groups = p.groups := by simp [Part.logError]
@[simp] theorem logError_triggers (code : ErrCode) (sub : Subject) (d : Int) (p : Part) :
    (p.logError code sub d).triggers = p.triggers := by simp [Part.logError]
@[simp] theorem logError_monitors (code : ErrCode) (sub : Subject) (d : Int) (p : Part) :
    (p.logError code sub d).monitors = p.monitors := by simp [Part.logError]
@[simp] theorem logError_capture (code : ErrCode) (sub : Subject) (d : Int) (p : Part) :
    (p.logError code sub d).capture = p.capture := by simp [Part.logError]
@[simp] theorem logError_matrix (code : ErrCode) (sub : Subject) (d : Int) (p : Part) :
    (p.logError code sub d).matrix = p.matrix := by simp [Part.logError]
@[simp] theorem logError_entries (code : ErrCode) (sub : Subject) (d : Int) (p : Part) :
    (p.logError code sub d).entries = p.entries := by simp [Part.logError]
@[simp] theorem logError_claims (code : ErrCode) (sub : Subject) (d : Int) (p : Part) :
    (p.logError code sub d).claims = p.claims := by simp [Part.logError]
@[simp] theorem logError_guard (code : ErrCode) (sub : Subject) (d : Int) (p : Part) :
    (p.logError code sub d).guard = p.guard := by simp [Part.logError]
@[simp] theorem logError_safe (code : ErrCode) (sub : Subject) (d : Int) (p : Part) :
    (p.logError code sub d).safe = p.safe := by simp [Part.logError]
theorem logError_log (code : ErrCode) (sub : Subject) (d : Int) (p : Part) :
    (p.logError code sub d).log =
      p.log.write ((p.log.of code.cls).add { code := code, subject := sub, detail := d, stamp := p.stamp }) code.cls := by
  simp [Part.logError]
@[simp] theorem log_of_write (l : ErrorLog) (r : ClassRecord) (c : ErrClass) : (l.write r c).of c = r := by cases c <;> rfl
theorem log_of_write_ne {c k : ErrClass} (h : k ≠ c) (l : ErrorLog) (r : ClassRecord) : (l.write r c).of k = l.of k := by
  cases c <;> cases k <;> first | rfl | exact absurd rfl h

/-! ### Causes -/

theorem raise_of_off {src : NoticeSource} {p : Part} (h : p.link.levels.of src = 7) : p.raise src = p := by
  simp [Part.raise, h]

theorem raise_of_queued {src : NoticeSource} {p : Part} (h : p.link.levels.of src ≠ 7) (hq : p.queued src = true) :
    p.raise src = { p with link := { p.link with notices := addCause src p.link.notices } } := by
  simp [Part.raise, h, hq]

theorem raise_of_new {src : NoticeSource} {p : Part} (h : p.link.levels.of src ≠ 7) (hq : p.queued src = false) :
    p.raise src = { p with link := { p.link with
      notices := p.link.notices ++ [{ source := src, repeats := 1, age := p.clock.rigTime }] } } := by
  simp [Part.raise, h, hq]

/-! ### The cascade -/

@[simp] theorem runTasks_nil (n : Nat) (p : Part) : runTasks n [] p = p := by cases n <;> rfl

/-- A piece of work at the head that is no due is done next, and what it leaves comes before the rest. -/
theorem runTasks_cons {t : Task} (h : t.dueEntry = none) (n : Nat) (ts : List Task) (p : Part) :
    runTasks (n + 1) (t :: ts) p = runTasks n ((p.doTask t).2 ++ ts) (p.doTask t).1 := by
  simp [runTasks, Part.nextTask, firstWork, h]

/-- A due with no other work beside it, and no entry below it whose time has come, is taken next. -/
theorem runTasks_due {e : Nat} {p : Part} (h : p.lowerDue e = none) (n : Nat) (w : Waiting) (point : Nat) :
    runTasks (n + 1) [.due e w point] p = runTasks n (p.due e w point).2 (p.due e w point).1 := by
  simp [runTasks, Part.nextTask, firstWork, lowestDue, Task.dueEntry, h, Part.doTask]

@[simp] theorem settleAll_nil (p : Part) : settleAll (p, []) = p := by simp [settleAll]

/-- A property that every piece of work keeps is kept by a whole cascade. -/
theorem runTasks_keeps {P : Part → Prop} (h : ∀ t p, P p → P (p.doTask t).1) (n : Nat) (ts : List Task) (p : Part)
    (hp : P p) : P (runTasks n ts p) := by
  induction n generalizing ts p with
  | zero => exact hp
  | succ n ih =>
    unfold runTasks
    split
    · exact hp
    · exact ih _ _ (h _ p hp)

/-- The same of `settleAll`. -/
theorem settleAll_keeps {P : Part → Prop} (h : ∀ t p, P p → P (p.doTask t).1) (r : Part × List Task) (hp : P r.1) :
    P (settleAll r) := runTasks_keeps h _ _ _ hp

/-- Where no ARMED entry waits for a time that has come, no due is put before another. -/
theorem lowerDue_of_none {e : Nat} {p : Part} (h : ∀ k < e, p.entryTimeMet k = none) : p.lowerDue e = none := by
  unfold Part.lowerDue
  rw [List.findSome?_eq_none_iff]
  intro k hk
  simp [h k (List.mem_range.mp hk)]

/-! ### Occurrences and motions -/

theorem countOn_eq (o : Occurrence) (s : Nat) (p : Part) :
    p.countOn o s = { p with slots := (p.countOn o s).slots } := rfl

/-- Counting on any slots writes the slots alone. -/
theorem countAll_eq (o : Occurrence) (ss : List Nat) (p : Part) :
    ss.foldl (fun q s => q.countOn o s) p =
      { p with slots := (ss.foldl (fun q s => q.countOn o s) p).slots } := by
  induction ss generalizing p with
  | nil => rfl
  | cons s ss ih =>
    simp only [List.foldl_cons]
    rw [ih]
    rfl

/-- The watch of R140 writes one entry alone. -/
theorem watchFrom_eq (o : Occurrence) (p : Part) : p.watchFrom o = { p with entries := (p.watchFrom o).entries } := by
  unfold Part.watchFrom
  split
  · split <;> rfl
  · rfl

/-- All an occurrence does of itself: slots count it, and its own entry's watch begins; the rest is left as work. -/
theorem occur_eq (o : Occurrence) (p : Part) :
    (p.occur o).1 = { p with slots := (p.occur o).1.slots, entries := (p.occur o).1.entries } := by
  unfold Part.occur
  simp only
  rw [watchFrom_eq, countAll_eq]

/-- Counting marked angles writes the slots alone. -/
theorem countMarks_eq (ss : List Nat) (p : Part) :
    ss.foldl (fun q s => q.countMark s) p = { p with slots := (ss.foldl (fun q s => q.countMark s) p).slots } := by
  induction ss generalizing p with
  | nil => rfl
  | cons s ss ih =>
    have h : p.countMark s = { p with slots := (p.countMark s).slots } := by
      unfold Part.countMark
      split <;> rfl
    simp only [List.foldl_cons]
    rw [ih, h]

/-- All a motion does of itself to the slots: it counts the marks it passes; the rest is left as work. -/
theorem passings_eq (m : Move) (p : Part) : (p.passings m).1 = { p with slots := (p.passings m).1.slots } :=
  countMarks_eq _ p

/-- A motion's travel writes the channels and the entries alone. -/
theorem addTravel_eq (m : Move) (p : Part) :
    p.addTravel m = { p with channels := (p.addTravel m).channels, entries := (p.addTravel m).entries } := rfl

/-! ### Play before a render -/

/-- A channel in no state that plays has no play to take. -/
theorem play_of_still {c : Nat} {p : Part} (hr : (p.channel c).state ≠ .running) (hs : (p.channel c).state ≠ .starved) :
    p.play c = p := by
  unfold Part.play Part.playDue
  split
  · exact absurd ‹_› hr
  · exact absurd ‹_› hs
  · simp

/-- Where no channel is picked, nothing is played. -/
theorem playWhere_of_none {test : Channel → Bool} {p : Part} (h : ∀ c, test (p.channel c) = false) : p.playWhere test = p := by
  simp [Part.playWhere, h]

/-- A property that every piece of work keeps is kept by the play of any channels. -/
theorem playWhere_keeps {P : Part → Prop} (h : ∀ t p, P p → P (p.doTask t).1) (test : Channel → Bool) (p : Part)
    (h0 : P p) : P (p.playWhere test) := settleAll_keeps h _ h0

/-! ### Renders -/

/-- What a render takes: the modifier held, STUCK with its value, and nothing else. -/
theorem take_eq (last : Nat × Nat) (ch : Channel) :
    ch.take last = { ch with modifier := ch.modifier.map (Modifier.taken last),
                             applied := ch.modifier.map (Modifier.taken last) } := rfl

/-- What a value shown writes: the base value and the output, and nothing else. -/
theorem show_eq (base : Nat) (ch : Channel) : ch.show base = { ch with base := base, output := (ch.show base).output } := by
  unfold Channel.show
  split
  · rfl
  · split <;> rfl

/-! ### The tick's test of the ring (R95) -/

theorem ringTest_of_queued {p : Part} (h : p.capture.ring = [] ∨ p.queued .capture = true) : p.ringTest = p := by
  rcases h with h | h <;> simp [Part.ringTest, h]

theorem ringTest_of_batch {p : Part} (hr : p.capture.ring ≠ []) (hq : p.queued .capture = false)
    (hb : p.capture.batch ≤ p.capture.ring.length) : p.ringTest = p.raise .capture := by
  simp [Part.ringTest, hr, hq, hb]

theorem ringTest_of_short {p : Part} (hr : p.capture.ring ≠ []) (hq : p.queued .capture = false)
    (hb : p.capture.ring.length < p.capture.batch) :
    p.ringTest = { p with marks := { p.marks with flush := p.flushDue && decide (p.link.levels.capture ≠ 7) } } := by
  simp [Part.ringTest, hr, hq, Nat.not_le.mpr hb]

/-! ### A step met by SAFE or lockout (R114) -/

/-- A step not begun by a readback of the tick keeps the closes it was given. -/
theorem holdBackCloses_of_earlier {e : Nat} {p : Part} (h : ∀ s, (p.entry e).seq = some s → s.followed ≠ some p.now) :
    p.holdBackCloses e = p := by
  unfold Part.holdBackCloses
  split
  · rename_i s hs; simp [h s hs]
  · rfl

/-! ### The bodies of frames (10.8, R178) -/

theorem bigEndian_length (k n : Nat) : (bigEndian k n).length = k := by
  induction k with
  | zero => rfl
  | succ k ih => simp [bigEndian, ih]

theorem condition_record_length (c : Condition) : c.record.length = 12 := by
  cases c <;> simp [Condition.record, bigEndian_length]

theorem duration_record_length (d : Duration) : d.record.length = 5 := by
  cases d <;> simp [Duration.record, bigEndian_length]

theorem class_record_length (c : EntryClass) : c.record.2.2.length = 32 := by
  cases c with
  | electrical d => simp [EntryClass.record, Electrical.record, bigEndian_length, List.range_succ]
  | signal c f => cases f <;> simp [EntryClass.record, SigFault.record, signedWord, bigEndian_length]

/-- A fault entry definition is sent in 62 bytes (10.8). -/
theorem entryDef_record_length (e : Nat) (d : EntryDef) : (d.record e).length = 62 := by
  simp [EntryDef.record, bigEndian_length, condition_record_length, duration_record_length, class_record_length]

theorem body_record_le (b : Body) : b.record.length ≤ 62 := by
  cases b with
  | entry e => cases h : e.definition <;> simp [Body.record, h, entryDef_record_length]
  | _ => simp [Body.record]

theorem outFrame_head_le (f : OutFrame) : f.head.length ≤ 11 := by
  cases f <;> simp [OutFrame.head, Notice.header, bigEndian_length]

/-- What a formed body is (R178): the notice header, then the laid-out record among bytes of free value, in 1,024 bytes at
most. -/
theorem outFrame_body (n : Nat) (f : OutFrame) :
    ∃ front back, f.body n = f.head ++ (front ++ f.content.record ++ back) ∧ (f.body n).length ≤ 1024 := by
  refine ⟨_, _, by simp only [OutFrame.body, List.append_assoc]; rfl, ?_⟩
  have h1 := outFrame_head_le f
  have h2 := body_record_le f.content
  have h3 := Nat.mod_lt (Config.recordPlace n) (y := min (Config.bodyLength n) 1024 -
    (f.head.length + f.content.record.length) + 1) (by omega)
  simp only [OutFrame.body, freeBytes, List.length_append, List.length_map, List.length_range, Config.maxBody] at *
  omega

end Sys2Proof.Machine
end

