-- ==== Sys2Proof/Tests/Slice0.lean ====
section
/-! SUPPORT. Tests: what WellFormed refuses, frames spelt out from 10.8, the manual's worked figures one step at a time, and for
every statement with hypotheses a state and operands that meet them. -/

namespace Sys2Proof.Tests

open Sys2Proof Sys2Proof.Machine

set_option Elab.async false

/-! ### WellFormed refuses an ill-formed operand of each field -/

theorem test_wf_tag : (Instr.statusGet 256).wf = false := by decide +kernel
theorem test_wf_bytes :
    (Instr.noticeLevel 1 256 0 0).wf = false ∧ (Instr.errlogClear 1 256).wf = false ∧ (Instr.engineMode 1 256 0).wf = false ∧
    (Instr.channelStart 1 256).wf = false ∧ (Instr.slotConfig 1 0 0 256 0).wf = false ∧ (Instr.entryArm 1 256).wf = false ∧
    (Instr.matrixGet 1 (some 256)).wf = false ∧ (Instr.cellRestore 1 0 256).wf = false := by decide +kernel
theorem test_wf_halfwords :
    (Instr.guardSet 1 (some 65536) none).wf = false ∧ (Instr.engineSpeed 1 65536 1).wf = false ∧
    (Instr.monitorConfig 1 0 65536 0).wf = false ∧ (Instr.triggerCfg 1 0 (some 65536)).wf = false ∧
    (Instr.patrolCfg 1 (some 65536) none none).wf = false ∧ (Instr.engineFollowCfg 1 65536 0 0).wf = false := by decide +kernel
theorem test_wf_words :
    (Instr.keepalive 1 4294967296).wf = false ∧ (Instr.engineAngleSet 1 0 4294967296).wf = false ∧
    (Instr.groupArm 1 0 (.atTime 281474976710656)).wf = false ∧ (Instr.groupArm 1 0 (.unknown 3)).wf = false := by
  decide +kernel
theorem test_wf_records :
    (Instr.segAppend 1 0 0 []).wf = false ∧
    (Instr.segAppend 1 0 1 [.segment ⟨.time, 1, .hold, 2147483648, none, none, none, false⟩]).wf = false ∧
    (Instr.segAppend 1 0 1 [.unknown 1]).wf = false ∧ (Instr.segAppend 1 0 1 [.loop 1 65536]).wf = false ∧
    (Instr.wheelDefine 1 0 ⟨0, 60, 192, 2, [58, 59], 0, 0⟩).wf = false ∧
    (Instr.channelConfig 1 0 ⟨0, 4294967296, none, none, none, none, none, none, none⟩).wf = false ∧
    (Instr.captureCfg 1 none none 17 (List.replicate 17 ⟨0, true, true⟩)).wf = false ∧
    (Instr.entryDefine 1 ⟨0, .unknown 1, .now, none, .untilDisarm, none, none⟩).wf = false ∧
    (Instr.entryDefine 1 ⟨0, .signal ⟨0, 0, 2147483648, 0, 0⟩, .now, none, .untilDisarm, none, none⟩).wf = false ∧
    (Instr.entryDefine 1 ⟨0, .electrical ⟨0, 1, [3], 0, 0, false, none, none, none⟩, .now, none, .untilDisarm, none,
      none⟩).wf = false ∧
    (Instr.entryDefine 1 ⟨0, .signal ⟨0, 0, 0, 0, 0⟩, .now, none, .unknown 3, none, none⟩).wf = false := by decide +kernel
theorem test_wf_events :
    (Instr.segmentEnd 32).wf = false ∧ (Instr.triggerAccept 8).wf = false ∧ (Instr.heldCloseGiven 64).wf = false ∧
    (Instr.trip 128).wf = false ∧ (Instr.conditionAtTime (.group 8)).wf = false ∧
    (Instr.stepReadback (.entry 128)).wf = false ∧ (Instr.microsecondTick [.monitor 16 0]).wf = false ∧
    (Instr.microsecondTick [.slotError 16384 .correctable]).wf = false ∧
    (Instr.badKind ⟨0x01#8, 1#8, List.replicate 1025 0#8⟩).wf = false := by decide +kernel
theorem test_wf_accepts :
    (Instr.entryGet 255 255).wf = true ∧ (Instr.segmentEnd 31).wf = true ∧ (Instr.stepReadback .restore).wf = true ∧
    (Instr.rigTimeHold [.contact 63 .bus3 true, .busCurrent 3 0]).wf = true := by decide +kernel

/-! ### Frames (10.1.1, 10.8, R173) -/

/-- R173: the nine characters 1 to 9 give the check 29B1 hex. -/
theorem test_crc : crc16 [0x31#8, 0x32#8, 0x33#8, 0x34#8, 0x35#8, 0x36#8, 0x37#8, 0x38#8, 0x39#8] = 0x29B1#16 := by
  decide +kernel

theorem test_decode_link :
    decodeFrame ⟨0x03#8, 7#8, [0x04#8, 0xFF#8, 0x07#8]⟩ = .noticeLevel 7 4 255 7 ∧
    decodeFrame ⟨0x05#8, 7#8, [0x01#8]⟩ = .errlogClear 7 1 ∧
    decodeFrame ⟨0x06#8, 7#8, [0x01#8, 0x00#8, 0x32#8, 0xFF#8, 0xFF#8]⟩ = .guardSet 7 (some 50) none := by decide +kernel
theorem test_decode_engine :
    decodeFrame ⟨0x13#8, 1#8, [0xB3#8, 0xFF#8, 0x00#8, 0x01#8, 0x00#8, 0x02#8]⟩ = .engineAngleSet 1 46079 65538 ∧
    decodeFrame ⟨0x14#8, 1#8, [0x40#8, 0x00#8, 0x59#8, 0xFF#8, 0x07#8, 0xD0#8]⟩ = .engineFollowCfg 1 16384 23039 2000 := by
  decide +kernel
theorem test_decode_channel :
    decodeFrame ⟨0x18#8, 1#8, [0x14#8, 0x01#8, 0x50#8, 0x00#8, 0x00#8, 0x13#8, 0x88#8, 0x01#8, 0x02#8, 0x03#8, 0x04#8, 0x05#8,
        0x06#8, 0x07#8, 0x00#8, 0x00#8, 0x27#8, 0x10#8, 0x08#8, 0x09#8, 0x02#8]⟩ =
      .channelConfig 1 20 ⟨1, 5000, none, none, none, none, some 10000, none, some 2⟩ ∧
    decodeFrame ⟨0x1D#8, 1#8, [0x00#8, 0x00#8, 0x3C#8, 0x00#8, 0xC0#8, 0x02#8, 0x3A#8, 0x3B#8] ++ List.replicate 6 0#8 ++
        [0x59#8, 0xFF#8, 0x01#8]⟩ =
      .wheelDefine 1 0 ⟨0, 60, 192, 2, [58, 59, 0, 0, 0, 0, 0, 0], 23039, 1⟩ := by decide +kernel
theorem test_decode_records :
    decodeFrame ⟨0x1E#8, 1#8, [0x05#8, 0x02#8] ++
        [0x00#8, 0x52#8, 0x00#8, 0x00#8, 0x03#8, 0xE8#8, 0xFF#8, 0xFF#8, 0xFF#8, 0xFE#8, 0x00#8, 0x00#8, 0x0B#8, 0xB8#8, 0x00#8,
          0x00#8, 0x00#8, 0x00#8, 0x04#8, 0x00#8] ++
        [0x01#8, 0x00#8, 0x02#8, 0x01#8, 0x02#8] ++ List.replicate 15 0#8⟩ =
      .segAppend 1 5 2 [.segment ⟨.time, 1000, .ramp, -2, some 3000, none, some 4, false⟩, .loop 2 258] := by decide +kernel
theorem test_decode_schedule :
    decodeFrame ⟨0x23#8, 1#8, [0x07#8, 0x02#8, 0x01#8, 0x00#8, 0x0A#8, 0x00#8, 0x00#8, 0x00#8, 0x03#8, 0x00#8, 0x00#8, 0x00#8,
        0x00#8]⟩ = .groupArm 1 7 (.atAngle 10 (some 3)) ∧
    decodeFrame ⟨0x38#8, 1#8,
        [0x09#8, 0x00#8, 0x52#8] ++
        [0x02#8, 0x02#8, 0x0C#8, 0x0D#8] ++ List.replicate 8 0#8 ++ [0x0B#8, 0xB8#8] ++ List.replicate 18 0#8 ++
        [0x01#8] ++ List.replicate 4 0#8 ++ [0x01#8, 0x02#8, 0x03#8] ++ List.replicate 8 0#8 ++
        [0x02#8, 0x05#8] ++ List.replicate 7 0#8 ++ [0x03#8, 0xE8#8]⟩ =
      .entryDefine 1 ⟨9, .electrical ⟨2, 2, [12, 13, 0, 0, 0, 0, 0, 0], 0, 0, true, some 3000, none, none⟩, .atTime 66051, none,
        .untilEvent 5, none, some 1000⟩ := by decide +kernel
/-- 10.8: a stored definition sent in the same bytes, and a SIGNAL one with OFFSET −2 and its optional fields, written out from
the table of offsets. -/
theorem test_definition_record :
    EntryDef.record 9
      { cls := .electrical { kind := .shortBat, lines := [12, 13], bus := none, resistance := none, isolate := true,
                             tripLimit := some 3000, tripTime := none, chatter := none }
        condition := .atTime 66051, latestStart := none, duration := .untilEvent 5, repeatCount := none, spacing := some 1000 } =
      [0x09#8, 0x00#8, 0x52#8] ++
        [0x02#8, 0x02#8, 0x0C#8, 0x0D#8] ++ List.replicate 8 0#8 ++ [0x0B#8, 0xB8#8] ++ List.replicate 18 0#8 ++
        [0x01#8] ++ List.replicate 4 0#8 ++ [0x01#8, 0x02#8, 0x03#8] ++ List.replicate 8 0#8 ++
        [0x02#8, 0x05#8] ++ List.replicate 7 0#8 ++ [0x03#8, 0xE8#8] ∧
    EntryDef.record 127
      { cls := .signal 31 (.offset (-2)), condition := .atAngle 10 (some 3), latestStart := some 100, duration := .angle 46080
        repeatCount := some 2, spacing := none } =
      [0x7F#8, 0x01#8, 0x21#8, 0x1F#8, 0x01#8, 0xFF#8, 0xFF#8, 0xFF#8, 0xFE#8] ++ List.replicate 26 0#8 ++
        [0x02#8, 0x01#8, 0x00#8, 0x0A#8, 0x00#8, 0x00#8, 0x00#8, 0x03#8] ++ List.replicate 4 0#8 ++
        [0x00#8, 0x00#8, 0x00#8, 0x64#8, 0x01#8, 0x00#8, 0x00#8, 0xB4#8, 0x00#8, 0x00#8, 0x02#8] ++ List.replicate 4 0#8 := by
  decide +kernel
theorem test_decode_monitor_matrix :
    decodeFrame ⟨0x28#8, 1#8, [0x03#8, 0x1F#8, 0x40#8, 0x07#8, 0xD0#8]⟩ = .monitorConfig 1 3 8000 2000 ∧
    decodeFrame ⟨0x2A#8, 1#8, [0x02#8, 0x04#8, 0x05#8, 0x01#8, 0x03#8, 0x02#8]⟩ =
      .captureCfg 1 none (some 5) 1 [⟨3, false, true⟩] ∧
    decodeFrame ⟨0x30#8, 1#8, [0x05#8, 0x00#8, 0x14#8, 0x09#8, 0x10#8]⟩ = .patrolCfg 1 (some 20) none (some 16) := by
  decide +kernel
theorem test_decode_refused :
    decodeFrame ⟨0x3C#8, 1#8, []⟩ = .badKind ⟨0x3C#8, 1#8, []⟩ ∧ decodeFrame ⟨0x3D#8, 1#8, []⟩ = .badKind ⟨0x3D#8, 1#8, []⟩ ∧
    decodeFrame ⟨0x01#8, 0#8, []⟩ = .badKind ⟨0x01#8, 0#8, []⟩ ∧
    decodeTableWord 8 1 = none ∧ State.reset.withFetchWord 8 1 = State.reset := by decide +kernel

/-! ### Small states -/

/-- The state after reset with its part changed. -/
def setup (f : Part → Part) : State := State.reset.withPart (f State.reset.part)

def atTick (t : Nat) (p : Part) : Part := { p with clock := { rigTime := t, ticks := t } }
def withChannel (c : Nat) (f : Channel → Channel) (p : Part) : Part := p.setChannel c (f (p.channel c))
def withEntry (e : Nat) (f : Entry → Entry) (p : Part) : Part := p.setEntry e (f (p.entry e))
def withLine (l : Nat) (f : Line → Line) (p : Part) : Part := p.setLine l (f (p.line l))
def withEngine (f : Engine → Engine) (p : Part) : Part := { p with engine := f p.engine }
def withLink (f : Link → Link) (p : Part) : Part := { p with link := f p.link }
def withGuard (f : Guard → Guard) (p : Part) : Part := { p with guard := f p.guard }
def withMatrix (f : Matrix → Matrix) (p : Part) : Part := { p with matrix := f p.matrix }
def inSafe (p : Part) : Part := { p with safe := some { cause := .request, time := 0 } }
def inFollow (p : Part) : Part := withEngine (fun e => { e with mode := .follow }) p

/-- A command taken on a state, its outcome's part read by a test. -/
def after (c : Instr) (s : State) (test : Part → Bool) : Bool :=
  match exec c s with
  | .next t => test t.part
  | _ => false

/-- The answer a request gets. -/
def answer (c : Instr) (s : State) : Option Answer :=
  match exec c s with
  | .next t => t.part.link.replies.getLast?.map Reply.answer
  | _ => none

/-- A configured channel of a kind, parked at 0, in a state. -/
def ofKind (k : Kind) (st : ChState) (ch : Channel) : Channel :=
  { ch with
    state := st
    config := some { kind := k, parkValue := 0, lowLevel := none, highLevel := none, pattern := none, pulseWidth := none,
                     pwmFrequency := none, lowWater := none, startGroup := none } }

/-- A TIME record that holds a value. -/
def hold (length value : Nat) : Segment :=
  { basis := .time, length := length, shape := .hold, start := value, stop := none, secondary := none, marker := none,
    endFlag := false }

def inSlot (n : Nat) (r : Segment) : QRec := { slot := n, content := .segment r }

/-- An entry defined and in a state. -/
def defined (cls : EntryClass) (c : Condition) (d : Duration) (st : EntryState) (e : Entry) : Entry :=
  { e with state := st,
           definition := some { cls := cls, condition := c, latestStart := none, duration := d, repeatCount := none,
                                spacing := none } }

def shortGround (lines : List Nat) : Electrical :=
  { kind := .shortGnd, lines := lines, bus := none, resistance := none, isolate := false, tripLimit := none, tripTime := none,
    chatter := none }

/-! ### Witnesses: for each statement with hypotheses, states and operands that meet them, clause by clause -/

theorem witness_StepTakesFront : State.reset.pending = [] := by decide +kernel

/-- The last unit of a well-formed event, and the first that faults. -/
theorem witness_EveryCommandCompletes :
    (Instr.segmentEnd 31).wf = true ∧ exec (.segmentEnd 32) State.reset = .fault .noSuchUnit := ⟨by decide +kernel, rfl⟩

def fullReplies (n : Nat) : State :=
  setup (withLink fun l => { l with replies := List.replicate n { tag := 1, answer := .ack .empty } })
def queued (f : Frame) : State := setup (withLink fun l => { l with inbound := [f] })

theorem witness_RequestsTakenOrRefused :
    requestTag (.statusGet 255) = some 255 ∧
    (fullReplies 7).part.takes (.statusGet 255) = true ∧ (fullReplies 8).part.takes (.statusGet 255) = false ∧
    (queued ⟨0x01#8, 255#8, []⟩).part.takes (.statusGet 255) = true ∧
    (queued ⟨0x01#8, 255#8, []⟩).part.takes (.statusGet 254) = false ∧
    (queued ⟨0x01#8, 0#8, []⟩).part.link.resetPending = false ∧
    lengthAllowed 0x3D 0 = none ∧ lengthAllowed 0x3C 0 = some false ∧ lengthAllowed 0x3C 1 = some true := by decide +kernel

/-- One that is refused for its tag, one refused for a field, and one accepted. -/
theorem witness_OneReplyPerRequest :
    requestTag (.channelStart 0 0) = some 0 ∧ State.reset.part.takes (.channelStart 0 0) = true ∧
    requestTag (.channelStart 1 32) = some 1 ∧ State.reset.part.takes (.channelStart 1 32) = true ∧
    requestTag (.engineGet 255) = some 255 ∧ (fullReplies 7).part.takes (.engineGet 255) = true := by decide +kernel

theorem witness_CauseRaised :
    let off := { State.reset.part with link := { State.reset.part.link with
      levels := { State.reset.part.link.levels with guard := 7 } } }
    let twice := { State.reset.part with link := { State.reset.part.link with
      notices := [{ source := .engine, repeats := 65535, age := 0 }] } }
    off.link.levels.of .guard = 7 ∧
    State.reset.part.link.levels.of .guard ≠ 7 ∧ (∀ n ∈ State.reset.part.link.notices, n.source ≠ .guard) ∧
    twice.link.levels.of .engine ≠ 7 ∧
    twice.link.notices = [] ++ { source := NoticeSource.engine, repeats := 65535, age := 0 } :: [] := by decide +kernel

/-- A class with no logging, and one whose count holds at its top. -/
theorem witness_LoggingTaken :
    (State.reset.part.log.of .fatal).count = 0 ∧
    ({ State.reset.part with log := { State.reset.part.log with
      fatal := { count := 65535, first := none, later := [] } } }.log.of .fatal).count ≠ 0 := by decide +kernel

theorem witness_StatusAndLogRead :
    State.reset.part.takes (.errlogGet 1) = true ∧ State.reset.part.takes (.errlogClear 1 0) = true ∧
    State.reset.part.takes (.errlogClear 1 1) = true ∧ State.reset.part.takes (.errlogClear 1 2) = true ∧
    State.reset.part.takes (.errlogClear 1 3) = true ∧
    State.reset.part.takes (.statusGet 255) = true ∧ State.reset.part.takes (.linkReset 1) = true := by decide +kernel

/-- Kind 10, entry 128, level 8, and the accepted limits 127 and ALL at level 7. -/
theorem witness_NoticeLevelWritten :
    State.reset.part.takes (.noticeLevel 1 10 0 0) = true ∧ State.reset.part.takes (.noticeLevel 1 4 128 0) = true ∧
    State.reset.part.takes (.noticeLevel 1 9 200 8) = true ∧ State.reset.part.takes (.noticeLevel 1 4 127 7) = true ∧
    State.reset.part.takes (.noticeLevel 1 4 255 7) = true ∧ State.reset.part.link.levels.entries.length = 128 ∧
    State.reset.part.link.levels.channels.length = 32 ∧ State.reset.part.link.levels.groups.length = 8 := by decide +kernel

/-- A receiver some way into a frame. -/
def receiving (bytes : List Byte) (start now : Nat) : State :=
  setup fun p => withLink (fun l => { l with receiver := .frame start bytes }) (atTick now p)

/-- A STATUS_GET frame of tag 1 but its last byte. -/
def statusFrame : List Byte := (frameBytes ⟨0x01#8, 1#8, []⟩).dropLast

theorem witness_CharactersReceivedOrDiscarded :
    State.reset.part.link.receiver = .hunt ∧
    (receiving [0xD5#8] 0 1999).part.clock.ticks < 0 + 2000 ∧ frameComplete ([0xD5#8] ++ [0x04#8]) = false ∧
    lengthTooLong ([0xD5#8] ++ [0x04#8]) = false ∧
    (receiving statusFrame 0 2000).part.clock.ticks ≤ 0 + 2000 ∧
    frameComplete (statusFrame ++ [0x00#8]) = true ∧ checkHolds (statusFrame ++ [0x00#8]) = false ∧
    statusFrame ++ [(frameBytes ⟨0x01#8, 1#8, []⟩).getD 6 0#8] = frameBytes ⟨0x01#8, 1#8, []⟩ ∧
    checkHolds (frameBytes ⟨0x01#8, 1#8, []⟩) = true ∧
    1024 < field 1 2 ([0xD5#8, 0x04#8] ++ [0x01#8]) ∧ ¬1024 < field 1 2 ([0xD5#8, 0x04#8] ++ [0x00#8]) ∧
    0 + 2000 ≤ (receiving [0xD5#8] 0 2000).part.clock.ticks ∧
    0 + 2000 < (receiving statusFrame 0 2001).part.clock.ticks ∧
    (receiving [0xD5#8, 0x04#8] 0 1999).part.clock.ticks < 0 + 2000 := by decide +kernel

theorem witness_FrameRoundTrip :
    (Frame.mk 0x38#8 1#8 (List.replicate 1024 0#8)).body.length ≤ 1024 ∧ State.reset.part.link.receiver = .hunt ∧
    (setup (withLink fun l => { l with inbound := List.replicate 7 ⟨1#8, 1#8, []⟩ })).part.link.inbound.length < 8 := by
  decide +kernel

def sending (f : OutFrame) (now : Nat) : State :=
  setup fun p => withLink (fun l => { l with transmitter := some { frame := f, characters := [], startTick := 0, endTick := 23 } }) (atTick now p)

/-- A reply waiting; of three notices the one of the lowest level, the older of two of one level; a transmission one tick short of
its end and at it. -/
theorem witness_TransmitterWorks :
    (fullReplies 1).part.link.transmitter = none ∧
    (fullReplies 1).part.link.replies = { tag := 1, answer := .ack .empty } :: [] ∧
    (let s := setup (withLink fun l => { l with
        notices := [⟨.channel 4, 2, 50⟩, ⟨.entry 9, 1, 120⟩, ⟨.entry 3, 1, 120⟩] });
      s.part.link.transmitter = none ∧ s.part.link.replies = [] ∧
      s.part.link.notices = [⟨.channel 4, 2, 50⟩] ++ ⟨.entry 9, 1, 120⟩ :: [⟨.entry 3, 1, 120⟩] ∧
      s.part.link.levels.of (.entry 9) < s.part.link.levels.of (.channel 4) ∧
      s.part.link.levels.of (.entry 9) = s.part.link.levels.of (.entry 3)) ∧
    (let s := setup fun p => withEntry 9 (defined (.electrical (shortGround [3])) .now .untilDisarm .loaded)
        (withLink (fun l => { l with notices := [⟨.entry 9, 1, 120⟩] }) p);
      s.part.link.transmitter = none ∧ s.part.link.notices = [] ++ ⟨.entry 9, 1, 120⟩ :: [] ∧
      s.part.bodyShown (.entry 9) = .entry (s.part.entryShown 9) ∧ ((s.part.entryShown 9).definition).isSome = true ∧
      ((answer (.entryGet 1 9) s).any fun a => decide (a = .ack (.entry (s.part.entryShown 9)))) = true) ∧
    (sending (.reply ⟨1, .ack .empty⟩) 22).part.clock.ticks < 23 ∧ 23 ≤ (sending (.reply ⟨1, .ack .empty⟩) 23).part.clock.ticks ∧
    23 ≤ (sending (.reply ⟨1, .ack (.linkReset 0)⟩) 23).part.clock.ticks ∧
    23 ≤ (sending (.notice ⟨.part, 0, 1, 0, .empty⟩) 23).part.clock.ticks := by decide +kernel

/-- The guard ON with a period of n ms, its window begun at 1,000. -/
def guarded (n now : Nat) : State :=
  setup fun p => withGuard (fun g => { g with
    period := some n, lastValue := some 7, windowStart := 1000, deadline := 1000 + n * 1000
    expiresAt := 1000 + n * 1000 }) (atTick now p)

theorem witness_GuardSetAndKeptAlive :
    State.reset.part.takes (.guardSet 1 (some 9) none) = true ∧ State.reset.part.takes (.guardSet 1 (some 10) (some 50001)) = true ∧
    State.reset.part.takes (.guardSet 1 none (some 50000)) = true ∧
    State.reset.part.takes (.guardSet 1 (some 5000) (some 1)) = true ∧ State.reset.part.guard.period = none ∧
    (guarded 50 2000).part.takes (.guardSet 1 (some 10) none) = true ∧ (guarded 50 2000).part.guard.period = some 50 ∧
    (guarded 50 2000).part.takes (.keepalive 1 7) = true ∧ (guarded 50 2000).part.guard.lastValue = some 7 ∧
    (guarded 50 2000).part.takes (.keepalive 1 4294967295) = true ∧
    State.reset.part.takes (.keepalive 1 0) = true ∧ State.reset.part.guard.lastValue ≠ some 0 := by decide +kernel

theorem witness_GuardExpires :
    State.reset.part.guard.period = none ∧ (guarded 50 50999).part.guard.period = some 50 ∧
    (guarded 50 50999).part.clock.ticks < (guarded 50 50999).part.guard.expiresAt ∧
    (guarded 50 51000).part.guard.expiresAt ≤ (guarded 50 51000).part.clock.ticks ∧ (guarded 50 51000).part.safe = none ∧
    (guarded 50 51000).part.channels.length = 32 ∧ (guarded 50 51000).part.entries.length = 128 ∧
    (guarded 50 51000).part.groups.length = 8 := by decide +kernel

theorem witness_SafeEnteredAndLeft :
    State.reset.part.takes (.safeEnter 1) = true ∧ State.reset.part.safe = none ∧
    State.reset.part.channels.length = 32 ∧ State.reset.part.entries.length = 128 ∧ State.reset.part.groups.length = 8 ∧
    (setup inSafe).part.takes (.safeEnter 1) = true ∧ (setup inSafe).part.safe.isSome = true ∧
    (setup inSafe).part.takes (.safeLeave 1) = true ∧ (∀ e ∈ (setup inSafe).part.entries, e.state ≠ .releasing) ∧
    (let s := setup fun p => withEntry 127 (defined (.electrical (shortGround [3])) .now .untilDisarm .releasing) (inSafe p);
      s.part.takes (.safeLeave 1) = true ∧ ∃ e ∈ s.part.entries, e.state = .releasing) := by decide +kernel

theorem witness_StaysSafe :
    (setup inSafe).part.safe = some { cause := .request, time := 0 } ∧
    after .levelTick (setup inSafe) (fun p => p.safe.isSome) = true ∧ (∀ tag, Instr.levelTick ≠ .safeLeave tag) ∧
    Instr.levelTick ≠ .powerOn ∧ Instr.levelTick ≠ .supplyDip ∧ Instr.levelTick ≠ .transmitEnd :=
  ⟨by decide +kernel, by decide +kernel, nofun, nofun, nofun, nofun⟩

theorem witness_EngineRead : State.reset.part.takes (.engineGet 255) = true := by decide +kernel

theorem witness_SpeedAndModeSet :
    State.reset.part.takes (.engineSpeed 1 40001 50000) = true ∧ State.reset.part.takes (.engineSpeed 1 0 0) = true ∧
    State.reset.part.takes (.engineMode 1 2 0) = true ∧ State.reset.part.takes (.engineMode 1 1 31) = true := by decide +kernel

theorem witness_AngleSet : State.reset.part.takes (.engineAngleSet 1 46079 4294967295) = true := by decide +kernel

theorem witness_FollowConfigured : State.reset.part.takes (.engineFollowCfg 1 16384 23039 2000) = true := by decide +kernel

def milli (f : Engine → Engine) : State :=
  setup fun p => withEngine f { p with marks := { p.marks with milli := true } }

/-- A FIXED ramp up and down in their last step, a TRACK channel OFF and a SPEED channel, and a FOLLOW window. -/
theorem witness_MillisecondUpdated :
    (milli fun e => { e with internal := 3199999, target := 3200 }).part.marks.milli = true ∧
    3200000 = min (3199999 + 1000 * 4) (3200 * 1000) ∧ 3196001 = max (3200001 - 1000 * 4) (3196 * 1000) ∧
    (milli fun e => { e with mode := .track, trackChannel := some 31 }).part.marks.milli = true ∧
    ((milli fun e => { e with mode := .track, trackChannel := some 31 }).part.channel 31).state = .off ∧
    (setup (withChannel 31 (ofKind .speed .idle))).part.channel 31 = ofKind .speed .idle Channel.atReset ∧
    (milli fun e => { e with mode := .follow, windowNet := -96, windowCounts := 96, counts := 1440 }).part.engine.mode =
      .follow := by decide +kernel

theorem witness_PassedAngles :
    ({ State.reset.part.engine with acc := 3019898879 } : Engine).acc < 3019898880 ∧ 3019833343 < 3019898880 - 65536 ∧
    46079 < 46080 := by decide +kernel

theorem witness_EncoderCounted :
    State.reset.part.engine.mode ≠ .follow ∧ (setup inFollow).part.engine.mode = .follow ∧
    (setup inFollow).part.pins.encA = false ∧ (setup inFollow).part.pins.encB = false := by decide +kernel

/-- The tie of 1.5.4, the largest error the other way, and an error of 0. -/
theorem witness_IndexTaken :
    State.reset.part.engine.mode ≠ .follow ∧ (setup inFollow).part.pins.encZ = false ∧
    (let s := setup fun p => withEngine (fun e => { e with acc := 11520 * 65536, offset := 0 }) (inFollow p);
      s.part.engine.mode = .follow ∧ s.part.engine.acc < 3019898880 ∧ s.part.engine.offset < 23040 ∧
      ((-11520 : Int) - (s.part.engine.acc / 65536 - s.part.engine.offset)) % 23040 = 0 ∧
      s.part.engine.tolerance < (-11520 : Int).natAbs) ∧
    (let s := setup fun p => withEngine (fun e => { e with acc := 11519 * 65536, tolerance := 11519 }) (inFollow p);
      ((11519 : Int) - (s.part.engine.acc / 65536 - s.part.engine.offset)) % 23040 = 0 ∧
      (11519 : Int).natAbs ≤ s.part.engine.tolerance) ∧
    ((0 : Int) - (State.reset.part.engine.acc / 65536 - State.reset.part.engine.offset)) % 23040 = 0 := by decide +kernel

theorem witness_ChannelStartedAndStopped :
    State.reset.part.takes (.channelStart 1 31) = true ∧ State.reset.part.takes (.channelStop 1 31) = true ∧
    State.reset.part.takes (.channelDisable 1 31) = true := by decide +kernel

/-- Channel 0 with the fault of entry 127, which is ACTIVE on it. -/
def faulted : Part :=
  withChannel 0 (fun ch => { ofKind .level .running ch with modifier := some { entry := 127, fault := .stuck, stuck := none } })
    (withEntry 127 (defined (.signal 0 .stuck) .now .untilDisarm .active) State.reset.part)

theorem witness_ChannelStopped :
    faulted.takes (.channelDisable 1 0) = true ∧ faulted.channels.length = 32 ∧ (faulted.channel 0).state ≠ .off ∧
    (faulted.channel 0).modifier = some { entry := 127, fault := .stuck, stuck := none } ∧
    (faulted.entry 127).state = .active ∧ (faulted.entry 127).signal? = some (0, .stuck) ∧
    (faulted.entry 127).endCause = none ∧ faulted.entries.length = 128 ∧ faulted.slots.length = 16 ∧
    (∀ k < 128, (faulted.entry k).state ≠ .blocked) ∧
    (∀ n < 16, (faulted.slot n).source.matchesOcc (.entry 127 .released) = false) ∧
    faulted.takes (.entryDisarm 1 127) = true := by decide +kernel

/-- R149, R132: the fault's channel disabled ends it with NO_TARGET on the tick, a disarm with DISARMED. -/
theorem test_activeSignalEnds :
    after (.channelDisable 1 0) (setup fun _ => faulted)
      (fun p => p.channel 0 = Channel.atReset && (p.entry 127).state = .aborted) = true ∧
    after (.entryDisarm 1 127) (setup fun _ => faulted)
      (fun p => (p.entry 127).state = .loaded && (p.channel 0).modifier = none) = true := by decide +kernel

/-- A PWM configuration of a bank A channel at the limits of its fields. -/
def pwmConfig : RawConfig :=
  { kind := 1, parkValue := 10000, lowLevel := some 0, highLevel := some 12000, pattern := none, pulseWidth := none,
    pwmFrequency := some 10, lowWater := some 4095, startGroup := some 7 }

/-- Channel 15, OFF, as PWM, with every field its kind uses at a limit; channel 31, IDLE as LEVEL in bank D is refused, as SPEED
accepted. -/
theorem witness_ChannelConfigured :
    State.reset.part.takes (.channelConfig 1 15 pwmConfig) = true ∧ State.reset.part.channels.length = 32 ∧
    (∃ v ∈ pwmConfig.lowLevel, 0 ≤ v ∧ v ≤ 12000) ∧ (∃ v ∈ pwmConfig.highLevel, 0 ≤ v ∧ v ≤ 12000) ∧
    (∃ v ∈ pwmConfig.pwmFrequency, 10 ≤ v ∧ v ≤ 200000) ∧ (∃ v ∈ pwmConfig.lowWater, 0 ≤ v ∧ v ≤ 4095) ∧
    (∀ g ∈ pwmConfig.startGroup, g ≤ 7) ∧ (State.reset.part.channel 15).state = .off ∧
    (State.reset.part.channel 15).modifier = none ∧
    State.reset.part.takes (.channelConfig 1 15 { pwmConfig with kind := 2, parkValue := 200000, pulseWidth := some 10000 }) = true ∧
    ((setup (withChannel 31 (ofKind .speed .idle))).part.channel 31).state = .idle ∧
    ((setup (withChannel 31 (ofKind .speed .idle))).part.channel 31).config.map ChConfig.kind = some .speed := by decide +kernel

/-- A refusal that names a field, and a position in a list. -/
def badFieldAt (i at1 : Nat) : Option Answer := some (.refuse { code := .badField, field := i, position := at1, named := none })
def refusedAs (code : RefusalCode) : Option Answer := some (.refuse { code := code, field := 0, position := 0, named := none })

/-- R24's checks: each field just outside its range, kind by kind, then the state, the kind in a queue and the pattern. -/
theorem witness_ChannelConfigRefused :
    (∀ x ∈ [({ pwmConfig with parkValue := 10001 }, 3), ({ pwmConfig with lowLevel := none }, 4),
        ({ pwmConfig with highLevel := some 12001 }, 5), ({ pwmConfig with kind := 3, parkValue := 1 }, 6),
        ({ pwmConfig with kind := 2, pulseWidth := some 10001 }, 7), ({ pwmConfig with pwmFrequency := some 9 }, 8),
        ({ pwmConfig with lowWater := some 4096 }, 9), ({ pwmConfig with startGroup := some 8 }, 10)],
      State.reset.part.takes (.channelConfig 1 15 x.1) = true ∧
      answer (.channelConfig 1 15 x.1) State.reset = badFieldAt x.2 0) ∧
    answer (.channelConfig 1 32 pwmConfig) State.reset = badFieldAt 1 0 ∧
    answer (.channelConfig 1 31 { pwmConfig with kind := 5 }) State.reset = badFieldAt 2 0 ∧
    answer (.channelConfig 1 16 { pwmConfig with kind := 0 }) State.reset = refusedAs .kindMismatch ∧
    answer (.channelConfig 1 15 pwmConfig) (setup (withChannel 15 (ofKind .pwm .done))) = refusedAs .busy ∧
    answer (.channelConfig 1 15 pwmConfig)
      (setup (withChannel 15 fun ch => { ofKind .pulse .idle ch with queue := [{ slot := 0, content := .loop 1 0 0 false }] })) =
        refusedAs .busy ∧
    answer (.channelConfig 1 15 { pwmConfig with kind := 3, parkValue := 1, pattern := some 7 }) State.reset =
      refusedAs .notConfigured := by decide +kernel

theorem witness_ChannelRead :
    State.reset.part.takes (.channelGet 1 31) = true ∧ State.reset.part.takes (.channelGet 1 32) = true := by decide +kernel

/-- The 60−2 crank wheel of 2.7.2. -/
def crank : Pattern := { span := 23040, positions := 60, width := 192, missing := [58, 59], offset := 0, toothHigh := true }

def onWheel (m : Option Modifier) : Channel := { ofKind .wheel .running Channel.atReset with applied := m }

theorem witness_WheelDefinedAndRendered :
    State.reset.part.takes (.wheelDefine 1 7 ⟨1, 120, 368, 8, [0, 1, 2, 3, 4, 5, 6, 119], 46079, 1⟩) = true ∧
    2 ≤ crank.positions ∧ crank.positions ∣ crank.span ∧ crank.offset < crank.span ∧
    crank.width ≤ crank.span / crank.positions ∧ 0 < crank.span ∧
    (onWheel none).state = .running ∧ (onWheel none).startAt = none ∧
    (onWheel none).config.map ChConfig.kind = some .wheel ∧
    (onWheel (some ⟨5, .drop 59 2, none⟩)).applied = some ⟨5, .drop 59 2, none⟩ ∧
    (onWheel (some ⟨5, .shift 96, none⟩)).applied = some ⟨5, .shift 96, none⟩ ∧
    (onWheel (some ⟨5, .stuck, some (1, 0)⟩)).applied = some ⟨5, .stuck, some (1, 0)⟩ := by decide +kernel

/-- Channel 0 a wheel that plays the crank of 2.7.2, and channel 31 one parked. -/
def wheels : Part :=
  let named (ch : Channel) : Channel :=
    { ch with config := ch.config.map fun c => { c with pattern := some 0, lowLevel := some 0, highLevel := some 5000 } }
  let p := withChannel 0 (fun ch => named (ofKind .wheel .running ch))
    (withChannel 31 (fun ch => named (ofKind .wheel .idle ch)) State.reset.part)
  { p with patterns := p.patterns.set 0 (some crank) }

/-- A WHEEL configuration parked at 1, in a tooth of a pattern. -/
def parkedAt (pattern : Nat) : RawConfig :=
  { kind := 3, parkValue := 1, lowLevel := none, highLevel := none, pattern := some pattern, pulseWidth := none
    pwmFrequency := none, lowWater := none, startGroup := none }

/-- R24, R38: an IDLE WHEEL channel given a new record shows the new park value under the polarity of the pattern it names. -/
theorem test_channelConfig_wheelAnew :
    let low := setup fun _ => { wheels with patterns := wheels.patterns.set 1 (some { crank with toothHigh := false }) }
    after (.channelConfig 1 31 (parkedAt 0)) low (fun p => (p.channel 31).output = 1 && (p.channel 31).pin = 1) = true ∧
    after (.channelConfig 1 31 (parkedAt 1)) low (fun p => (p.channel 31).output = 1 && (p.channel 31).pin = 0) = true := by
  decide +kernel

theorem witness_WheelsShown :
    (wheels.channel 0).state ≠ .off ∧ (wheels.channel 0).config.map ChConfig.kind = some .wheel ∧
    wheels.patternOf (wheels.channel 0) = some crank ∧ (wheels.channel 0).startAt = none ∧
    (wheels.channel 31).state ≠ .running ∧ wheels.patternOf (wheels.channel 31) = some crank ∧
    wheels.engine.increment = 0 ∧ wheels.channels.length = 32 ∧ (wheels.channel 31).state = .idle ∧
    (wheels.channel 31).applied = none ∧ wheels.pattern 0 = some crank ∧
    wheels.takes (.channelConfig 1 31 (parkedAt 0)) = true ∧
    (wheels.channel 1).state = .off ∧ (wheels.renderWheels.channel 0).pin = 27306 ∧
    (wheels.renderWheels.channel 31).pin = 0 := by decide +kernel

/-- Ramps up and down at their first tick and at their length, and a HOLD. -/
theorem witness_LevelsAndBasesRendered :
    (setup fun p => { p with marks := { p.marks with level := true } }).part.marks.level = true ∧
    (∀ ch ∈ State.reset.part.channels, ch.state = .off) ∧ State.reset.part.marks.level = false ∧
    (setup (withChannel 15 (ofKind .level .idle))).part.channels[15]? = some (ofKind .level .idle Channel.atReset) ∧
    (ofKind .level .held Channel.atReset).config.map ChConfig.kind = some .level ∧
    (let ch := { ofKind .level .running Channel.atReset with
        play := some { place := 0, startTick := 0, travel := 0 }
        queue := [inSlot 0 { hold 2000 500 with shape := .ramp, stop := some 4500 }] };
      ch.queue[0]? = some (inSlot 0 { hold 2000 500 with shape := .ramp, stop := some 4500 }) ∧ 2000 - 0 ≤ 2000) := by
  decide +kernel

theorem not_PlayDue_off (now : Nat) (ch : Channel) (h : ch.state = .off) : ¬ch.PlayDue now := by
  rintro (h' | h' | h') <;> exact absurd h'.1 (by simp [h])

theorem not_PlayDue_idle (now : Nat) (ch : Channel) (h : ch.state = .idle) : ¬ch.PlayDue now := by
  rintro (h' | h' | h') <;> exact absurd h'.1 (by simp [h])

/-- Channel 0 a LEVEL channel in the middle of an ANGLE record; channel 31 a PULSE channel whose run starts on tick 10. -/
def lateOn10 : Part :=
  withChannel 31 (fun ch => { ofKind .pulse .running ch with startAt := some 10 })
    (atTick 10 (playing' { hold 100 5 with basis := .angle } State.reset.part))
where
  playing' (r : Segment) (p : Part) : Part :=
    withChannel 0 (fun ch => { ofKind .level .running ch with
      play := some { place := 0, startTick := 1, travel := 65536 }, queue := [inSlot 0 r] }) p

/-- Tick 10 with a channel of each kind IDLE, whose render may be taken again, and one that plays an ANGLE record. -/
def rendering (k : Kind) (period : Option Period) : Part :=
  withChannel 31 (fun ch => { ofKind k .idle ch with period := period }) lateOn10

/-- Play due and none due; a level tick taken; a PULSE channel that looks; a PWM and a PULSE period begun on the tick; an
ANGLE record in play. -/
theorem witness_RenderedAgain :
    (lateOn10.channel 31).PlayDue 10 ∧ (∀ k q, ¬((rendering k q).channel 31).PlayDue 10) ∧
    (lateOn10.clock.ticks % 10 = 0 ∧ lateOn10.marks.level = false ∧ lateOn10.channels.length = 32) ∧
    (∀ k ∈ [Kind.level, .speed, .pulse, .pwm], ∀ q ∈ [none, some (Period.mk 10000 0 40000 0 400)],
      ((rendering k q).channel 31).config.map ChConfig.kind = some k ∧ ((rendering k q).channel 31).period = q ∧
      400 ≤ 10 * 40 ∧ 10 * 40 < 400 + 40) ∧
    ((lateOn10.channel 0).state = .running ∧ (lateOn10.channel 0).play = some { place := 0, startTick := 1, travel := 65536 } ∧
      (lateOn10.channel 0).queue[0]? = some (inSlot 0 { hold 100 5 with basis := .angle })) :=
  ⟨.inl ⟨by decide +kernel, 10, by decide +kernel, by decide⟩,
    fun k q => not_PlayDue_idle _ _ (by simp [rendering, withChannel, ofKind]; rfl),
    by decide +kernel⟩

/-- A LEVEL channel whose record of 10 µs ends on tick 10, with a record behind it and without. -/
def ending10 (back : List QRec) : State :=
  setup fun p => withChannel 15 (fun ch => { ofKind .level .running ch with
    play := some { place := 0, startTick := 0, travel := 0 }, base := 5, queue := inSlot 0 (hold 10 5) :: back })
    (let p := atTick 10 p; { p with marks := { p.marks with level := true } })

theorem witness_PlayBeforeRender :
    ((ending10 []).part.channels.length = 32 ∧ (ending10 []).part.marks.level = true ∧
      ((ending10 []).part.channel 15).modifier = none ∧
      ((ending10 []).part.channel 15).play = some { place := 0, startTick := 0, travel := 0 } ∧
      ((ending10 []).part.channel 15).queue[0]? = some (inSlot 0 (hold 10 5)) ∧ 0 + 10 ≤ (ending10 []).part.clock.ticks ∧
      ((ending10 []).part.channel 15).queue.length = 0 + 1 ∧
      ((ending10 [inSlot 1 (hold 1 6)]).part.channel 15).queue[0 + 1]? = some (inSlot 1 (hold 1 6)) ∧
      (ending10 [inSlot 1 (hold 1 6)]).part.damage = []) ∧
    (∀ d < 32, d ≠ 15 → ¬((ending10 []).part.channel d).PlayDue 10) ∧
    (ending10 [inSlot 1 (hold 1 6)]).part.MarkUnwaited 15 (hold 1 6) :=
  ⟨by decide +kernel, fun d hd hn => not_PlayDue_off _ _ (by
    have h : ∀ d < 32, d ≠ 15 → ((ending10 []).part.channel d).state = .off := by decide +kernel
    exact h d hd hn), fun _ h => nomatch h⟩

def withPeriod (k : Kind) (len now : Nat) : State :=
  setup fun p => withChannel 31 (fun ch => { ofKind k .idle ch with
    period := some { frequency := 10000, duty := 0, length := len, high := 0, start := 0 } }) (atTick now p)

/-- Channel 20 a PULSE channel parked at 20,000.0 Hz whose look has found that frequency. -/
def lookedAt : State :=
  setup (withChannel 20 fun ch => { ofKind .pulse .idle ch with
    output := 200000
    config := (ofKind .pulse .idle ch).config.map fun c => { c with parkValue := 200000, pulseWidth := some 200 } })

/-- A period one fine tick short of its end and one that ends on the tick. -/
theorem witness_PeriodsTaken :
    ((withPeriod .pwm 40001 1000).part.channel 31).state ≠ .off ∧ (withPeriod .pwm 40001 1000).part.clock.ticks * 40 < 0 + 40001 ∧
    ((withPeriod .pwm 40000 1000).part.channel 31).config.map ChConfig.kind = some .pwm ∧
    0 + 40000 ≤ (withPeriod .pwm 40000 1000).part.clock.ticks * 40 ∧
    ((withPeriod .pulse 40000 1000).part.channel 31).config.map ChConfig.kind = some .pulse ∧
    ((setup (withChannel 31 (ofKind .pulse .idle))).part.channel 31).period = none ∧
    (lookedAt.part.channel 20).period = none ∧ (lookedAt.part.channel 20).output ≠ 0 ∧
    (lookedAt.part.channel 20).state = .idle ∧
    ((withPeriod .pwm 40000 1000).part.channel 31).state = .idle ∧
    ((setup (withChannel 31 (ofKind .pulse .idle))).part.channel 31).state = .idle := by decide +kernel

/-- A PULSE channel with no period, the engine at rest, and no play due. -/
theorem witness_PulseLooks :
    (State.reset.part.engine.increment = 0 ∧
      (let ch := (setup (withChannel 31 (ofKind .pulse .idle))).part.channel 31;
        ch.state ≠ .off ∧ ch.config.map ChConfig.kind = some .pulse ∧ ch.period = none)) ∧
    (∀ now, ¬((setup (withChannel 31 (ofKind .pulse .idle))).part.channel 31).PlayDue now) ∧ (lateOn10.channel 31).PlayDue 11 ∧
    (lateOn10.engine.increment = 0 ∧ (lateOn10.channel 31).state ≠ .off ∧
      (lateOn10.channel 31).config.map ChConfig.kind = some .pulse ∧ (lateOn10.channel 31).period = none) :=
  ⟨by decide +kernel, fun now => not_PlayDue_idle now _ (by decide +kernel),
    .inl ⟨by decide +kernel, 10, by decide +kernel, by decide⟩, by decide +kernel⟩

/-- R40: a modifier granted after the tick's look starts no train on it; R36: what the look found does. -/
theorem test_trainWaitsForLook :
    after (.pulseTrainStart 31)
      (setup (withChannel 31 fun ch => { ofKind .pulse .idle ch with modifier := some ⟨5, .offset 1000, none⟩ }))
      (fun p => (p.channel 31).period = none) = true ∧
    after (.microsecondTick [])
      (setup (withChannel 31 fun ch => { ofKind .pulse .idle ch with modifier := some ⟨5, .offset 1000, none⟩ }))
      (fun p => (p.channel 31).output = 1000) = true := by decide +kernel

def raw (length : Nat) (value : Int) (marker : Option Nat) : RawRecord :=
  .segment { basis := .time, length := length, shape := .hold, startValue := value, endValue := none, secondary := none,
             marker := marker, endFlag := false }

/-- Two records of the shortest length and the highest marker, then a loop over both. -/
theorem witness_RecordsAppendedAndStored :
    let s := setup (withChannel 0 (ofKind .level .idle))
    let rs := [raw 1 0 (some 1), raw 1 12001 (some 15), .loop 2 65535]
    (s.part.takes (.segAppend 1 0 3 rs) = true ∧ s.part.channels.length = 32 ∧
      (s.part.channel 0).state = .idle ∧ (s.part.channel 0).config.map ChConfig.kind = some .level ∧
      (s.part.channel 0).queue = [] ∧ (s.part.channels.flatMap fun x => x.queue.map QRec.slot) = []) ∧
    ∀ r ∈ rs, RawRecord.Good r :=
  ⟨by decide +kernel, by simp [raw, RawRecord.Good]⟩

/-- R51's checks in order, the position of the faulty record from 1, and the state, the kind and the basis behind them. -/
theorem witness_AppendRefused :
    let on (k : Kind) (st : ChState) := setup (withChannel 0 (ofKind k st))
    let angled : RawRecord := .segment ⟨.angle, 1, .hold, 0, none, none, none, false⟩
    (∀ x ∈ [([raw 0 5 none], 1), ([raw 1 5 none, raw 1 5 (some 16)], 2), ([.segment ⟨.angle, 11796481, .hold, 0, none, none, none,
        false⟩], 1), ([raw 1 5 none, .loop 65 0], 2), ([.unknown 2], 1)],
      (on .level .idle).part.takes (.segAppend 1 0 x.1.length x.1) = true ∧
      answer (.segAppend 1 0 x.1.length x.1) (on .level .idle) = badFieldAt 3 x.2) ∧
    answer (.segAppend 1 32 1 [raw 1 5 none]) (on .level .idle) = badFieldAt 1 0 ∧
    answer (.segAppend 1 0 2 [raw 1 5 none]) (on .level .idle) = badFieldAt 2 0 ∧
    answer (.segAppend 1 0 1 [raw 1 5 none]) (on .level .held) = refusedAs .busy ∧
    answer (.segAppend 1 0 1 [raw 1 5 none]) (on .wheel .idle) = refusedAs .kindMismatch ∧
    answer (.segAppend 1 0 2 [raw 1 5 none, angled]) (on .speed .idle) = badFieldAt 3 2 ∧
    answer (.segAppend 1 0 3 [raw 1 5 none, .loop 1 0, .loop 3 0]) (on .level .idle) =
      some (.refuse { code := .nestedLoop, field := 3, position := 3, named := none }) ∧
    answer (.segAppend 1 0 2 [raw 1 5 none, .loop 2 0]) (on .level .idle) =
      some (.refuse { code := .shortBody, field := 3, position := 2, named := none }) ∧
    answer (.segAppend 1 0 1 [raw 1 5 none])
      (setup (withChannel 0 fun ch => { ofKind .level .idle ch with queue := List.replicate 4096 (inSlot 0 (hold 1 5)) })) =
        refusedAs .queueFull ∧
    answer (.segAppend 1 0 1 [raw 1 5 none])
      (setup (withChannel 0 fun ch => { ofKind .level .idle ch with queue := List.replicate 16384 (inSlot 0 (hold 1 5)) })) =
        refusedAs .storeFull := by decide +kernel

/-- A channel playing the second of two records with a loop over both and one record behind it. -/
def looping (left : Nat) (broken : Bool) (back : List QRec) : State :=
  setup fun p => withChannel 31 (fun ch => { ofKind .level .running ch with
    play := some { place := 1, startTick := 0, travel := 0 }
    queue := [inSlot 0 (hold 1 5)] ++ inSlot 1 (hold 10 7) :: { slot := 2, content := .loop 2 1 left broken } :: back })
    (atTick 10 p)

theorem witness_LoopsBrokenAndSettled :
    (State.reset.part.takes (.loopBreak 1 32) = true ∧ (State.reset.part.channel 31).state = .off ∧
    ((setup (withChannel 31 (ofKind .level .idle))).part.channel 31).queue = [] ∧
    (looping 1 false []).part.takes (.loopBreak 1 31) = true ∧
    (∀ q ∈ [inSlot 0 (hold 1 5), inSlot 1 (hold 10 7)], q.isLoop = false) ∧
    (looping 1 false []).part.channels.length = 32 ∧ ((looping 1 false []).part.channel 31).state = .running ∧
    0 + (hold 10 7).length ≤ (looping 1 false []).part.clock.ticks ∧ (looping 1 false []).part.damage = [] ∧
    ((looping 0 false [inSlot 3 (hold 1 9)]).part.channel 31).queue.length = 4) ∧
    (looping 1 false []).part.MarkUnwaited 31 (hold 1 5) :=
  ⟨by decide +kernel, fun _ h => nomatch h⟩

def starting (k : Kind) (queue : List QRec) (damage : List (Nat × SlotError)) (now : Nat) : State :=
  setup fun p => withChannel 31 (fun ch => { ofKind k .running ch with startAt := some 100, queue := queue })
    { atTick now p with damage := damage }

def resuming (damage : List (Nat × SlotError)) (now : Nat) : State :=
  setup fun p => withChannel 31 (fun ch => { ofKind .speed .starved ch with
      starvedAt := some 50, resumeAt := some 100, queue := [inSlot 0 (hold 1 5)] })
    { atTick now p with damage := damage }

/-- The tick before a start, and on it a WHEEL channel, an empty queue, and a head record that reads well, reads corrected and
cannot be read; the same for a resumption. -/
theorem witness_RunStartedAndResumed :
    (starting .speed [] [] 99).part.clock.ticks < 100 ∧ ((starting .speed [] [] 99).part.channel 31).startAt = some 100 ∧
    100 ≤ (starting .wheel [] [] 100).part.clock.ticks ∧
    ((starting .wheel [] [] 100).part.channel 31).config.map ChConfig.kind = some .wheel ∧
    ((starting .speed [] [] 100).part.channel 31).queue = [] ∧
    ((starting .speed [inSlot 0 (hold 1 5)] [] 100).part.channel 31).queue = inSlot 0 (hold 1 5) :: [] ∧
    (starting .speed [inSlot 0 (hold 1 5)] [(0, .correctable)] 100).part.damage.find? (fun d => d.1 = 0) =
      some (0, .correctable) ∧
    (starting .speed [inSlot 0 (hold 1 5)] [(0, .uncorrectable)] 100).part.damage.find? (fun d => d.1 = 0) =
      some (0, .uncorrectable) ∧
    ((resuming [] 99).part.channel 31).state = .starved ∧ ((resuming [] 99).part.channel 31).resumeAt = some 100 ∧
    ((resuming [] 99).part.channel 31).starvedAt = some 50 ∧ ((resuming [] 99).part.channel 31).play = none ∧
    (resuming [] 99).part.clock.ticks < 100 ∧ 100 ≤ (resuming [] 100).part.clock.ticks ∧
    (resuming [(0, .correctable)] 100).part.damage.find? (fun d => d.1 = 0) = some (0, .correctable) ∧
    (0, SlotError.uncorrectable) ∉ (resuming [(0, .correctable)] 100).part.damage ∧
    (0, SlotError.uncorrectable) ∈ (resuming [(0, .uncorrectable)] 100).part.damage := by decide +kernel

def playing (r : Segment) (travel : Nat) (back : List QRec) (now : Nat) : State :=
  setup fun p => withChannel 0 (fun ch => { ofKind .level .running ch with
    play := some { place := 0, startTick := 0, travel := travel }, queue := inSlot 0 r :: back }) (atTick now p)

/-- A TIME record of 10 µs on ticks 9 and 10, an ANGLE record of one unit short of it and at it, an END record, a follower, and
a record that a loop retains. -/
theorem witness_SegmentsEnd :
    (((playing (hold 10 5) 0 [] 10).part.channel 0).state = .running ∧
    ((playing (hold 10 5) 0 [] 10).part.channel 0).queue[0]? = some (inSlot 0 (hold 10 5)) ∧
    ¬0 + 10 ≤ (playing (hold 10 5) 0 [] 9).part.clock.ticks ∧ 0 + 10 ≤ (playing (hold 10 5) 0 [] 10).part.clock.ticks ∧
    ¬1 * 65536 ≤ 65535 ∧ 1 * 65536 ≤ 65536 ∧ ({ hold 10 5 with endFlag := true } : Segment).endFlag = true ∧
    ((playing (hold 10 5) 0 [] 10).part.channel 0).queue.length = 0 + 1 ∧
    ((playing (hold 10 5) 0 [inSlot 1 (hold 1 6)] 10).part.channel 0).queue[0 + 1]? = some (inSlot 1 (hold 1 6)) ∧
    (∀ d ∈ (playing (hold 10 5) 0 [inSlot 1 (hold 1 6)] 10).part.damage, d.1 ≠ 1)) ∧
    ¬Retained [inSlot 0 (hold 10 5), inSlot 1 (hold 1 6)] 0 ∧
    Retained [inSlot 0 (hold 10 5), inSlot 1 (hold 1 6), { slot := 2, content := .loop 2 0 0 false }] 0 := by
  refine ⟨by decide +kernel, ?_, ⟨2, 2, 2, 0, 0, false, rfl, by decide, by decide⟩⟩
  rintro ⟨j, slot, k, r, left, broken, h, hj, -⟩
  match j with
  | 0 => omega
  | 1 => simp [inSlot] at h
  | j + 2 => simp at h

/-- The part playing a record of 10 µs with a follower whose marker slot 15 watches, and an error in the follower's slot. -/
def marking (damage : List (Nat × SlotError)) : State :=
  let s := playing (hold 10 5) 0 [inSlot 1 { hold 1 6 with marker := some 15 }] 10
  s.withPart { s.part with damage := damage, slots := s.part.slots.set 15 { source := .segmentMark 15 none, count := 7, last := none } }

/-- A watched marker on which nothing waits, each error in the follower's slot, and a carry that reaches a follower's length
and one that does not. -/
theorem witness_SegmentStarts :
    (((marking []).part.channel 0).queue[1]? = some (inSlot 1 { hold 1 6 with marker := some 15 }) ∧
    (marking []).part.slots.length = 16 ∧ (marking []).part.damage = [] ∧
    (marking [(1, .correctable)]).part.damage.find? (fun d => d.1 = 1) = some (1, .correctable) ∧
    (marking [(1, .uncorrectable)]).part.damage.find? (fun d => d.1 = 1) = some (1, .uncorrectable) ∧
    1 * 65536 ≤ 65536 ∧ ¬1 * 65536 ≤ 65535) ∧
    (marking []).part.MarkUnwaited 0 { hold 1 6 with marker := some 15 } := by
  refine ⟨by decide +kernel, fun m _ n _ _ => ?_⟩
  have he : ∀ e < 128, ((marking []).part.entry e).waiting = none ∧ ((marking []).part.entry e).untilWatch = false := by
    decide +kernel
  have hg : ∀ g < 8, ((marking []).part.group g).armed = none := by decide +kernel
  exact ⟨fun e h t => ⟨by simp [he e h], (he e h).2⟩, fun g h c t => by simp [hg g h]⟩

/-- R62, R64: the follower starts, its marker counted and its error corrected and logged. -/
theorem test_segmentEnd_marker :
    after (.segmentEnd 0) (marking [(1, .correctable)]) (fun p => (p.slot 15).count = 8 && p.damage = [] &&
      p.log.corrected.count = 1 && decide ((p.channel 0).play = some { place := 0, startTick := 10, travel := 0 })) = true := by
  decide +kernel

/-! The slots, triggers and groups. -/

def watching (n : Nat) (src : Source) (count : Nat) (p : Part) : Part :=
  { p with slots := p.slots.set n { source := src, count := count, last := none } }

/-- Slot 15 watching trigger 7, its count about to wrap, and group 7 waiting for the count 0. -/
def meeting : Part :=
  (watching 15 (.trigger 7 .both) 4294967295 State.reset.part).setGroup 7
    { armed := some (.onEvent 15 1, .event 15 0), startCount := 0, lastStart := none }

theorem unwaited_reset (o : Occurrence) : State.reset.part.Unwaited o := by
  have he : ∀ e < 128, (State.reset.part.entry e).waiting = none ∧ (State.reset.part.entry e).untilWatch = false := by
    decide +kernel
  have hg : ∀ g < 8, (State.reset.part.group g).armed = none := by decide +kernel
  intro n _ _
  exact ⟨fun e h t => ⟨by simp [he e h], (he e h).2⟩, fun g h c t => by simp [hg g h]⟩

theorem witness_OccurrenceCountedAndMet :
    State.reset.part.Unwaited (.trigger 7 true) ∧ State.reset.part.slots.length = 16 ∧
    meeting.slots.length = 16 ∧ meeting.groups.length = 8 ∧ ((meeting.slot 15).count + 1) % 4294967296 = 0 ∧
    (∀ k < 16, (meeting.slot k).source.matchesOcc (.trigger 7 true) = true ↔ k = 15) ∧
    (∀ k < 16, (meeting.slot k).source.matchesOcc (.group 7) = false) ∧
    (meeting.group 7).armed = some (.onEvent 15 1, .event 15 0) ∧
    (∀ e < 128, (meeting.entry e).waiting ≠ some (.event 15 0) ∧ (meeting.entry e).untilWatch = false) ∧
    (∀ h < 8, h ≠ 7 → (meeting.group h).armed = none) ∧ (∀ k < 32, (meeting.channel k).state ≠ .primed) :=
  ⟨unwaited_reset _, by decide +kernel⟩

/-- An entry ARMED for the next count of a slot. -/
def armedOn (n t : Nat) (e : Entry) : Entry :=
  { defined (.signal 0 .stuck) (.onEvent n 1) .untilDisarm .armed e with waiting := some (.event n t) }

/-- Trigger 7 counted by slots 3 and 15, which bring the targets of entries 2 and 127; entry 9 ACTIVE until slot 15 counts. -/
def sharing (two until' : Bool) : Part :=
  let p := watching 3 (.trigger 7 .rise) 0 (watching 15 (.trigger 7 .both) 4294967295 State.reset.part)
  let p := if until' then p else withEntry 2 (armedOn 15 0) p
  let p := if two then withEntry 127 (armedOn 3 1) p else p
  if until' then
    withEntry 9 (fun e => { defined (.signal 0 .stuck) .now (.untilEvent 15) .active e with untilWatch := true }) p
  else p

theorem witness_EventMeetsEntries :
    (sharing true false).slots.length = 16 ∧
    (∀ n < 16, ((sharing true false).slot n).source.matchesOcc (.trigger 7 true) = true ↔ n = 3 ∨ n = 15) ∧
    ((sharing true false).entry 2).waiting = some (.event 15 0) ∧ ((sharing true false).entry 127).waiting = some (.event 3 1) ∧
    (∀ k < 128, k ≠ 2 → k ≠ 127 → ((sharing true false).entry k).state ≠ .armed) ∧
    (∀ k < 128, k ≠ 2 → ((sharing false false).entry k).state ≠ .armed) ∧
    ((sharing true false).slot 15).count = 4294967295 ∧ ((sharing true false).slot 3).count + 1 = 1 ∧
    (∀ k < 128, ((sharing true false).entry k).untilWatch = false) ∧ (∀ g < 8, ((sharing true false).group g).armed = none) ∧
    ((sharing false true).entry 9).state = .active ∧ ((sharing false true).entry 9).untilWatch = true ∧
    (∀ k < 128, ((sharing false true).entry k).state ≠ .armed) ∧
    (∀ k < 128, k ≠ 9 → ((sharing false true).entry k).untilWatch = false) := by decide +kernel

/-- R137, log entry 13: entry 2, whose target slot 15 brings, comes before entry 127, whose target slot 3 brings. -/
theorem test_occur_entryOrder :
    (((sharing true false).occur (.trigger 7 true)).2.filterMap fun t => match t with | .due e _ _ => some e | _ => none) =
      [2, 127] := by decide +kernel

/-- Slot 16, kind 7, an angle mark of 46,080 and one of 46,079, and a slot an entry waits on. -/
theorem witness_SlotConfiguredAndRead :
    State.reset.part.takes (.slotConfig 1 16 0 0 0) = true ∧ State.reset.part.takes (.slotConfig 1 15 7 0 0) = true ∧
    State.reset.part.takes (.slotConfig 1 15 3 0xB4 0x00) = true ∧ ¬(0xB4 * 256 + 0x00 ≤ 46079) ∧
    State.reset.part.takes (.slotConfig 1 15 3 0xB3 0xFF) = true ∧ 0xB3 * 256 + 0xFF ≤ 46079 ∧
    (∃ g ∈ meeting.groups, g.armed = some (.onEvent 15 1, .event 15 0)) ∧
    State.reset.part.takes (.slotGet 1 255) = true ∧ State.reset.part.takes (.slotGet 1 15) = true := by decide +kernel

theorem witness_TriggerConfiguredAndFiltered :
    (State.reset.part.takes (.triggerCfg 1 7 (some 1000)) = true ∧ State.reset.part.triggers.length = 8 ∧
    (let p := atTick 30 (State.reset.part.setTrigger 7 { filtered := false, width := 20, judged := 20, change := some 10 });
      (p.trigger 7).change = some 10 ∧ 10 + (p.trigger 7).judged ≤ p.clock.ticks) ∧
    (let p := atTick 29 (State.reset.part.setTrigger 7 { filtered := false, width := 20, judged := 20, change := some 10 });
      p.clock.ticks < 10 + (p.trigger 7).judged)) ∧
    State.reset.part.Unwaited (.trigger 7 true) :=
  ⟨by decide +kernel, unwaited_reset _⟩

theorem witness_GroupArmedAndCancelled :
    State.reset.part.Unwaited (.group 7) ∧
    State.reset.part.takes (.groupArm 1 8 .now) = true ∧ State.reset.part.takes (.groupArm 1 7 (.atAngle 46080 none)) = true ∧
    State.reset.part.takes (.groupArm 1 7 (.atAngle 46079 (some 4294967295))) = true ∧
    State.reset.part.takes (.groupArm 1 7 (.onEvent 15 65535)) = true ∧ (State.reset.part.slot 15).source = .none ∧
    State.reset.part.takes (.groupArm 1 7 .now) = true ∧ State.reset.part.safe = none ∧
    (State.reset.part.group 7).armed = none ∧ (∀ k < 32, (State.reset.part.channel k).state ≠ .primed) ∧
    State.reset.part.takes (.groupArm 1 7 (.atTime 1)) = true ∧ min 1 281474976710655 > State.reset.part.clock.rigTime ∧
    (setup inSafe).part.safe.isSome = true ∧ (meeting.group 7).armed.isSome = true ∧
    State.reset.part.takes (.groupCancel 1 7) = true ∧ State.reset.part.takes (.groupCancel 1 8) = true :=
  ⟨unwaited_reset _, by decide +kernel⟩

/-- Channel 31 PRIMED for group 7 with one record. -/
def primed : Part :=
  (withChannel 31 (fun ch => { ofKind .speed .primed ch with
      config := (ofKind .speed .primed ch).config.map fun c => { c with startGroup := some 7 }
      queue := [inSlot 0 (hold 1 5)] }) State.reset.part).setGroup 7
    { armed := some (.now, .time 0), startCount := 0, lastStart := none }

theorem witness_GroupStartsMembers :
    primed.channels.length = 32 ∧ primed.groups.length = 8 ∧ primed.slots.length = 16 ∧ primed.damage = [] ∧
    (primed.group 7).armed = some (.now, .time 0) ∧
    ((List.range 32).filter fun k => (primed.channel k).state = .primed ∧
      ((primed.channel k).config.bind ChConfig.startGroup) = some 7) = [31] ∧
    (primed.channel 31).config.map ChConfig.kind ≠ some .wheel ∧
    ((primed.channel 31).config.bind ChConfig.lowWater).getD 0 = 0 ∧
    (primed.channel 31).queue = { slot := 0, content := .segment (hold 1 5) } :: [] ∧
    (∀ n < 16, (primed.slot n).source.matchesOcc (.group 7) = false) ∧
    primed.clock.ticks % 10 = 0 ∧ primed.marks.level = false ∧ (primed.channel 31).config.map ChConfig.kind = some .speed := by
  decide +kernel

/-- Group 7 with a WHEEL channel, one with an empty queue, one whose head record is lost, and one whose head record carries
marker 15 and whose pending falls to its low-water mark. -/
def mixed : Part :=
  let member (k : Kind) (water : Option Nat) (queue : List QRec) (ch : Channel) : Channel :=
    { ofKind k .primed ch with
      config := (ofKind k .primed ch).config.map fun c => { c with startGroup := some 7, lowWater := water }
      queue := queue }
  let p := withChannel 0 (member .wheel none []) (withChannel 1 (member .level none [])
    (withChannel 2 (member .level none [inSlot 3 (hold 1 5)])
      (withChannel 30 (member .speed (some 1) [inSlot 1 { hold 1 5 with marker := some 15 }, inSlot 2 (hold 1 6)]) primed)))
  { p with damage := [(3, .uncorrectable)] }

theorem witness_GroupMembersOfEachSort :
    mixed.channels.length = 32 ∧ mixed.groups.length = 8 ∧ mixed.slots.length = 16 ∧
    (∀ d ∈ mixed.damage, d.2 = .uncorrectable) ∧ (mixed.group 7).armed = some (.now, .time 0) ∧
    ((List.range 32).filter fun k => (mixed.channel k).state = .primed ∧
      ((mixed.channel k).config.bind ChConfig.startGroup) = some 7) = [0, 1, 2, 30, 31] ∧
    (mixed.channel 0).config.map ChConfig.kind = some .wheel ∧ (mixed.channel 1).queue = [] ∧
    (mixed.channel 2).queue = [inSlot 3 (hold 1 5)] ∧
    (∀ n < 16, ∀ m k, (mixed.slot n).source.matchesOcc (.segmentMark m k) = false) ∧
    (∀ n < 16, (mixed.slot n).source.matchesOcc (.group 7) = false) := by
  have h : ∀ n < 16, (mixed.slot n).source = .none := by decide +kernel
  exact ⟨by decide +kernel, by decide +kernel, by decide +kernel, by decide +kernel, by decide +kernel, by decide +kernel,
    by decide +kernel, by decide +kernel, by decide +kernel, fun n hn m k => by rw [h n hn]; rfl, fun n hn => by rw [h n hn]; rfl⟩

/-- R25, R60, R65, R82: each starts as its kind and its queue have it. -/
theorem test_groupMembers :
    after (.conditionAtTime (.group 7)) (setup fun _ => mixed)
      (fun p => [0, 1, 2, 30, 31].map (fun c => (p.channel c).state) = [.running, .starved, .faulted, .running, .running] &&
        p.log.recoverable.count = 2) = true := by decide +kernel

def dueEntry (now : Nat) : Part :=
  withEntry 127 (fun e => { defined (.signal 0 .stuck) (.atTime 100) .untilDisarm .armed e with waiting := some (.time 100) })
    (atTick now State.reset.part)

theorem witness_TimesMet :
    ((dueEntry 99).entry 127).state = .armed ∧ ((dueEntry 99).entry 127).waiting = some (.time 100) ∧
    (dueEntry 99).clock.rigTime < min 100 281474976710655 ∧ min 100 281474976710655 ≤ (dueEntry 100).clock.rigTime ∧
    (∀ k < 127, ((dueEntry 100).entry k).state ≠ .armed) ∧
    (primed.group 7).armed = some (.now, .time 0) ∧ min 0 281474976710655 ≤ primed.clock.rigTime ∧
    (let p := (atTick 99 State.reset.part).setGroup 7
      { armed := some (.atTime 100, .time 100), startCount := 0, lastStart := none };
      (p.group 7).armed = some (.atTime 100, .time 100) ∧ p.clock.rigTime < min 100 281474976710655) := by decide +kernel

def sampling (p : Part) : Part := { p with marks := { p.marks with monitor := true } }

/-- Monitor 15 about to cross upward with capture enabled upward only. -/
def crossing : Part :=
  let p := (sampling State.reset.part).setMonitor 15 { State.reset.part.monitor 15 with
    highThreshold := 100, lowThreshold := 50, high := false, toSet := false, captureUp := true, captureDown := false }
  { p with pins := { p.pins with monitors := p.pins.monitors.set 15 100 } }

theorem witness_MonitorsReadAndSampled :
    (State.reset.part.takes (.monitorConfig 1 15 60000 59999) = true ∧ State.reset.part.takes (.monitorConfig 1 16 1 0) = true ∧
    State.reset.part.takes (.monitorConfig 1 0 1 0) = true ∧ State.reset.part.takes (.monitorRead 1 255) = true ∧
    State.reset.part.takes (.monitorRead 1 15) = true ∧
    State.reset.part.marks.monitor = false ∧ crossing.marks.monitor = true ∧ crossing.monitors.length = 16 ∧
    crossing.slots.length = 16 ∧ (crossing.monitor 15).captureUp = true ∧ (crossing.monitor 15).highThreshold ≤ 100 ∧
    after .monitorSample (setup fun _ => crossing) (fun p => p.capture.ring.map (fun r => (r.monitor, r.up)) = [(15, true)]) = true) ∧
    (∀ m < 16, ∀ up, crossing.Unwaited (.monitor m up)) := by
  refine ⟨by decide +kernel, fun m _ up n hn h => ?_⟩
  have hs : ∀ k < 16, (crossing.slot k).source = .none := by decide +kernel
  rw [hs n hn] at h
  simp [Source.matchesOcc] at h

/-- A ring of n records taken at tick 0, at a later tick. -/
def ringOf (n now : Nat) (mark : Bool) : Part :=
  { atTick now State.reset.part with
    capture :=
      { ring := List.replicate n { monitor := 0, up := true, stamp := { time := 0, angle := 0, cycle := 0 }, tick := 0 }
        dropped := 65535, dropMark := mark, batch := 16, flush := 5 } }

/-- The ring of 14 records on a tick whose test found the flush interval reached. -/
def flushing (now : Nat) : Part := let p := ringOf 14 now false; { p with marks := { p.marks with flush := true } }

/-- A ring one short of the batch threshold, its oldest record one tick short of the flush interval and at it; a ring with one
place left, and a full one with the mark clear and set. -/
theorem witness_CaptureKept :
    (ringOf 511 0 false).capture.ring.length < 512 ∧ 16 ≤ (ringOf 15 0 false).capture.ring.length + 1 ∧
    ¬16 ≤ (ringOf 14 4999 false).capture.ring.length + 1 ∧ 0 + 5 * 1000 ≤ (ringOf 14 5000 false).clock.ticks ∧
    (ringOf 14 4999 false).clock.ticks < 0 + 5 * 1000 ∧ (∀ n ∈ (ringOf 14 5000 false).link.notices, n.source ≠ .capture) ∧
    512 ≤ (ringOf 512 0 true).capture.ring.length ∧ (ringOf 512 0 true).capture.dropMark = true ∧
    (ringOf 512 0 false).capture.dropMark = false ∧
    State.reset.part.takes (.captureCfg 1 (some 32) (some 100) 2 [⟨15, true, false⟩, ⟨0, false, true⟩]) = true ∧
    State.reset.part.monitors.length = 16 ∧ [15, 0].Nodup ∧
    State.reset.part.takes (.captureCfg 1 none none 0 []) = true ∧ State.reset.part.marks.flush = false ∧
    (flushing 5000).marks.flush = true ∧ (flushing 4999).marks.flush = true := by decide +kernel

/-- R97's checks: each field just outside its range, the list's length, and a monitor out of range or listed twice. -/
theorem witness_CaptureCfgRefused :
    let run (b f : Option Nat) (n : Nat) (xs : List CaptureSetting) := answer (.captureCfg 1 b f n xs) State.reset
    (run (some 0) (some 101) 0 [] = badFieldAt 1 0 ∧ run (some 33) none 0 [] = badFieldAt 1 0) ∧
    (run (some 1) (some 101) 17 [] = badFieldAt 2 0 ∧ run none (some 0) 0 [] = badFieldAt 2 0) ∧
    (run none none 2 [⟨16, true, true⟩] = badFieldAt 3 0 ∧ run none none 17 [] = badFieldAt 3 0) ∧
    run none none 2 [⟨15, true, true⟩, ⟨16, true, true⟩] = badFieldAt 4 2 ∧
    run none none 3 [⟨15, true, true⟩, ⟨0, true, true⟩, ⟨15, true, true⟩] = badFieldAt 4 3 := by decide +kernel

theorem shaped_reset : State.reset.part.MatrixShaped := ⟨by decide +kernel, by decide +kernel⟩

theorem witness_MatrixConfigured :
    State.reset.part.MatrixShaped ∧ State.reset.part.takes (.patrolCfg 1 (some 19) none none) = true ∧
    State.reset.part.takes (.patrolCfg 1 (some 20) (some 101) none) = true ∧
    State.reset.part.takes (.patrolCfg 1 (some 2000) (some 100) (some 0)) = true ∧
    State.reset.part.takes (.patrolCfg 1 none (some 1) (some 255)) = true ∧
    (let p := withLine 63 (fun x => x.setCell .bus3 { x.cell .bus3 with noMake := 255 }) State.reset.part;
      (p.cell 63 .bus3).worn = false ∧ 255 ≤ (p.cell 63 .bus3).noMake ∧ p.link.levels.matrix ≠ 7) ∧
    State.reset.part.takes (.cellRestore 1 64 0) = true ∧ State.reset.part.takes (.cellRestore 1 63 8) = true ∧
    State.reset.part.takes (.cellRestore 1 63 7) = true ∧ State.reset.part.takes (.cellRestore 1 63 6) = true ∧
    (State.reset.part.line 63).state = .pass ∧
    ((withLine 63 (fun x => { x with state := .held 0 }) State.reset.part).line 63).state = .held 0 :=
  ⟨shaped_reset, by decide +kernel⟩

def lockedOut (p : Part) : Part := withMatrix (fun m => { m with state := .lockout }) p
def isolated (clear : Bool) (p : Part) : Part := withLine 63 (fun x => { x with state := .isolated clear }) (lockedOut p)

theorem witness_MatrixReadAndCleared :
    State.reset.part.takes (.matrixGet 1 none) = true ∧ State.reset.part.takes (.matrixGet 1 (some 63)) = true ∧
    State.reset.part.takes (.matrixGet 1 (some 64)) = true ∧
    State.reset.part.takes (.matrixClear 1) = true ∧ State.reset.part.matrix.state ≠ .lockout ∧
    (setup (isolated false)).part.takes (.matrixClear 1) = true ∧
    ((isolated false State.reset.part).line 63).state = .isolated false ∧
    (∀ k < 63, ((isolated false State.reset.part).line k).state = .pass) ∧
    (∀ l < 64, ((isolated true State.reset.part).line l).state ≠ .isolated false) ∧
    (isolated true State.reset.part).matrix.restore = none ∧ (isolated true State.reset.part).matrix.state = .lockout ∧
    ((withLine 0 (fun x => { x with state := .held 0 }) (lockedOut State.reset.part)).line 0).state = .held 0 := by
  decide +kernel

/-- Entry 22 of 7.5.1, ACTIVE on line 7 with its ground cell CLOSED, and a run on line 7. -/
def shorted (runs : List (Nat × Nat)) (sensed : Nat) : State :=
  setup fun p =>
    withLine 7 (fun x => { (x.setCell .ground { x.cell .ground with commanded := true }) with state := .held 22 })
      (withEntry 22 (fun e => { defined (.electrical (shortGround [7])) .now (.time 100000) .active e with runs := runs })
        (withMatrix (fun m => { m with senseTick := sensed }) { atTick sensed p with marks := { p.marks with current := true } }))

/-- One microsecond short of the trip time, and at it. -/
theorem witness_CurrentsReadAndTripped :
    State.reset.part.marks.current = false ∧ (shorted [] 4000110).part.marks.current = true ∧
    (shorted [] 4000110).part.entries.length = 128 ∧ (State.reset.part.entry 127).state ≠ .active ∧
    ((shorted [(7, 4000611)] 4001610).part.entry 22).electrical? = some (shortGround [7]) ∧
    ¬4000611 + 1000 ≤ (shorted [(7, 4000611)] 4001610).part.matrix.senseTick ∧
    4000610 + 1000 ≤ (shorted [(7, 4000610)] 4001610).part.matrix.senseTick ∧
    ((shorted [(7, 4000610)] 4001610).part.entry 22).endCause = none ∧
    ((shorted [] 4000110).part.line 7).state = .held 22 ∧
    (∃ c ∈ (shortGround [7]).faultCell, ((shorted [] 4000110).part.cell 7 c).commanded = true) := by decide +kernel

/-- A close held back on line 63, whose last open was on tick 1,000. -/
def holdingClose (now : Nat) : Part :=
  withLine 63 (fun x => { x with lastOpen := 1000, heldClose := some .ground, state := .held 22 }) (atTick now State.reset.part)

def chattering (now : Nat) : Part :=
  withEntry 22 (fun e => { defined (.electrical { shortGround [7] with chatter := some ⟨200, 300, 2⟩ }) .now .untilDisarm .active e
    with chatter := some { on := false, nextAt := some 1000, made := 1 } }) (atTick now State.reset.part)

theorem witness_HeldClosesAndChatter :
    ¬(holdingClose 1100).Barred ∧ (inSafe (holdingClose 1100)).Barred ∧
    (State.reset.part.line 63).heldClose = none ∧ ((holdingClose 1099).line 63).heldClose = some .ground ∧
    (holdingClose 1099).clock.ticks < ((holdingClose 1099).line 63).lastOpen + (holdingClose 1099).matrix.settle ∧
    ((holdingClose 1100).line 63).lastOpen + (holdingClose 1100).matrix.settle ≤ (holdingClose 1100).clock.ticks ∧
    ((holdingClose 1100).entry 22).seq = none ∧
    (State.reset.part.entry 22).chatter = none ∧ (chattering 999).clock.ticks < 1000 ∧ 1000 ≤ (chattering 1000).clock.ticks ∧
    ((chattering 1000).entry 22).chatter = some { on := false, nextAt := some 1000, made := 1 } ∧
    (chattering 1000).matrix.lines.length = 64 :=
  ⟨by rintro (h | h) <;> exact absurd h (by decide +kernel), .inl rfl, by decide +kernel⟩

/-- Entry 40 in a step on line 12's cell, commanded as the step says and reading as given. -/
def inStep (phase : SeqPhase) (closing verified fast : Bool) (c : CellId) (reads : Bool) (now : Nat) : Part :=
  let p := withEntry 40 (fun e => { defined (.electrical (shortGround [12])) .now .untilDisarm
        (if verified && closing then .inserting else .releasing) e with
      seq := some { phase := phase, fast := fast, disarmed := false, broken := [], followed := none
                    step := { closing := closing, verified := verified, targets := [(12, c)], attempt := 1
                              readAt := some 100 } } })
    (withLine 12 (fun x => { (x.setCell c { x.cell c with commanded := closing }) with state := .held 40 })
      (atTick now State.reset.part))
  { p with
    pins := { p.pins with
      contacts := p.pins.contacts.mapIdx fun l row => if l = 12 then row.set (cellIndex c) reads else row } }

def restoring (now : Nat) : Part :=
  withMatrix (fun m => { m with
    restore := some
      { lines := [63]
        step := { closing := true, verified := true, targets := [(63, .series)], attempt := 1, readAt := some 100 } } })
    (atTick now (isolated true State.reset.part))

def inserting (p : Part) : Part := withEntry 40 (fun e => { e with state := .inserting }) p
def third (p : Part) : Part :=
  withEntry 40 (fun e => { e with seq := e.seq.map fun x => { x with step := { x.step with attempt := 3 } } }) p
def caused (cause : EndCause) (disarmed : Bool) (p : Part) : Part :=
  withEntry 40 (fun e => { e with endCause := some cause, seq := e.seq.map fun x => { x with disarmed := disarmed } }) p
def seriesOpen (p : Part) : Part := withLine 12 (fun x => x.setCell .series { x.cell .series with commanded := false }) p

/-- The part of a step as its statements take it: the step's tick has come, its targets differ, and the matrix is whole. -/
def atReadback (p : Part) : Bool :=
  decide ((p.entry 40).electrical? = some (shortGround [12])) && decide (p.matrix.lines.length = 64) &&
  (p.matrix.lines.all fun x => decide (x.cells.length = 7)) &&
  (p.entry 40).seq.any fun x =>
    decide (x.step.readAt = some 100) && decide (100 ≤ p.clock.ticks) && decide x.step.targets.Nodup &&
    x.step.targets.all fun k => decide (k.1 < 64)

/-- The cells of the step under way that read other than commanded, and the attempt they are read at. -/
def misread (p : Part) : List (Nat × CellId) :=
  match (p.entry 40).seq with
  | some x => p.readWrong x.step.closing x.step.targets
  | none => []
def attempt (p : Part) : Nat := match (p.entry 40).seq with | some x => x.step.attempt | none => 0

/-- The tick before a readback and its tick: an insertion's last step, one with a fault cell still to close. -/
theorem witness_StepReadBack :
    (inStep (.inserting []) true true false .ground true 99).clock.ticks < 100 ∧
    (let p := inStep (.inserting []) true true false .ground true 100;
      atReadback p = true ∧ p.contact 12 .ground = true ∧ (p.entry 40).state = .inserting ∧ (p.entry 40).endCause = none ∧
      p.slots.length = 16 ∧ ∀ n < 16, (p.slot n).source.matchesOcc (.entry 40 .active) = false) ∧
    (let p := inserting (inStep (.inserting [.closeFault .ground]) false true false .series false 100);
      atReadback p = true ∧ p.contact 12 .series = false ∧ p.heldLines 40 (shortGround [12]) = [12]) := by decide +kernel

/-- An opening step, a closing one of a series cell, and one of a fault cell R109 neither bars nor holds back. -/
theorem witness_StepRetried :
    (∀ p ∈ [inStep .opening false true false .ground true 100, inStep .closing true true false .series false 100,
        inStep (.inserting []) true true false .ground false 100],
      atReadback p = true ∧ (misread p).length = 1 ∧ attempt p < 3) ∧
    (let p := inStep (.inserting []) true true false .ground false 100;
      p.safe = none ∧ p.matrix.state ≠ .lockout ∧ (p.line 12).lastOpen + p.matrix.settle ≤ p.clock.ticks) := by decide +kernel

theorem witness_InsertionStepFailed :
    (let p := third (inStep (.inserting []) true true false .ground false 100);
      atReadback p = true ∧ (misread p).length = 1 ∧ 3 ≤ attempt p ∧ (p.entry 40).endCause = none ∧
      p.releaseOpens 40 (shortGround [12]) ≠ []) ∧
    (let p := caused .disarmed true (inStep (.inserting [.closeFault .ground]) true true false .ground true 100);
      atReadback p = true ∧ misread p = [] ∧ (p.entry 40).endCause = some .disarmed ∧ (p.entry 40).state = .inserting ∧
      p.releaseOpens 40 (shortGround [12]) ≠ []) := by decide +kernel

/-- An opening step of an insertion, and of a release, read closed at its third attempt or as a fast release. -/
theorem witness_StepFindsWeld :
    (let p := third (inserting (inStep (.inserting []) false true false .ground true 100));
      atReadback p = true ∧ misread p = [(12, .ground)] ∧ 3 ≤ attempt p ∧ (p.entry 40).state = .inserting ∧
      p.matrix.state ≠ .lockout ∧ p.entries.length = 128 ∧ (p.entry 40).seq.any (fun x => !x.step.closing) = true) ∧
    (let p := third (inStep .opening false true false .ground true 100);
      atReadback p = true ∧ misread p = [(12, .ground)] ∧ 3 ≤ attempt p ∧
      (p.entry 40).seq.any (fun x => decide (x.phase = .opening) && !x.step.closing) = true) ∧
    (let p := inStep .opening false true true .ground true 100;
      atReadback p = true ∧ misread p = [(12, .ground)] ∧ (p.entry 40).seq.any Seq.fast = true) := by decide +kernel

/-- An opening step read open, with a series cell to close and with none; a closing step read closed, and at its third attempt
read open. -/
theorem witness_ReleaseStepsEnd :
    (let p := caused .disarmed false (seriesOpen (inStep .opening false true false .ground false 100));
      atReadback p = true ∧ misread p = [] ∧ p.releaseCloses 40 (shortGround [12]) = [(12, .series)]) ∧
    (let p := caused .disarmed false (inStep .opening false true false .ground false 100);
      atReadback p = true ∧ misread p = [] ∧ p.releaseCloses 40 (shortGround [12]) = [] ∧ p.slots.length = 16 ∧
      (p.entry 40).endCause = some .disarmed ∧ (∀ k < 128, (p.entry k).state ≠ .blocked) ∧
      ∀ n < 16, (p.slot n).source.matchesOcc (.entry 40 .released) = false) ∧
    (let p := caused .completed false (inStep .closing true true false .series true 100);
      atReadback p = true ∧ misread p = [] ∧ (p.entry 40).repeatsRemaining = 0) ∧
    (let p := third (caused .cellFault false (inStep .closing true true false .series false 100));
      atReadback p = true ∧ misread p = [(12, .series)] ∧ 3 ≤ attempt p) := by decide +kernel

/-- A restore of line 63 at an attempt, its readback come, its clear mark and what its series cell reads as given. -/
def restoringAt (attempt : Nat) (clear reads : Bool) : Part :=
  let p := withMatrix (fun m => { m with restore := m.restore.map fun r => { r with step := { r.step with attempt := attempt } } })
    (withLine 63 (fun x => { x with state := .isolated clear }) (restoring 100))
  { p with pins := { p.pins with contacts := p.pins.contacts.mapIdx fun l row => if l = 63 then row.set 0 reads else row } }

/-- Before the readback; read OPEN at the second attempt; read CLOSED at the first, and OPEN at the third; and with the clear
mark cleared, so that a line stays ISOLATED. -/
theorem witness_RestoreReadBack :
    (restoring 99).clock.ticks < 100 ∧ 100 ≤ (restoring 100).clock.ticks ∧
    (restoring 100).matrix.lines.length = 64 ∧ (∀ x ∈ (restoring 100).matrix.lines, x.cells.length = 7) ∧
    (restoringAt 2 true false).readWrong true [(63, .series)] = [(63, .series)] ∧
    (restoringAt 1 true true).readWrong true [(63, .series)] = [] ∧
    (restoringAt 3 true false).readWrong true [(63, .series)] = [(63, .series)] ∧
    ((restoringAt 3 true false).line 63).state = .isolated true ∧ ((restoringAt 1 false true).line 63).state = .isolated false ∧
    after (.stepReadback .restore) (setup fun _ => restoringAt 1 false true)
      (fun q => (q.line 63).state = .isolated false && q.matrix.state = .lockout) = true := by decide +kernel

theorem witness_WeldLocksOut :
    State.reset.part.MatrixShaped ∧ State.reset.part.entries.length = 128 ∧ State.reset.part.matrix.state ≠ .lockout ∧
    (lockedOut State.reset.part).matrix.state = .lockout ∧
    (((shorted [] 0).part.entry 22).electrical?.isSome = true ∧ ((shorted [] 0).part.entry 22).state = .active) :=
  ⟨shaped_reset, by decide +kernel⟩

def isolating (now : Nat) : Part :=
  withLine 63 (fun x => { x with isolation := some { readAt := 100, logged := .ground } }) (atTick now (isolated false State.reset.part))

/-- A fast release's opening step read open, with a series cell to close and with none, and its closing step. -/
theorem witness_FastReleaseReadBack :
    (inStep .opening false false true .ground false 99).clock.ticks < 100 ∧
    (∀ p ∈ [inStep .opening false false true .ground false 100, seriesOpen (inStep .opening false false true .ground false 100),
        inStep .closing true false true .series false 100],
      atReadback p = true ∧ attempt p = 1) ∧
    (seriesOpen (inStep .opening false false true .ground false 100)).releaseCloses 40 (shortGround [12]) = [(12, .series)] ∧
    (inStep .opening false false true .ground false 100).releaseCloses 40 (shortGround [12]) = [] ∧
    misread (inStep .opening false false true .ground false 100) = [] ∧
    misread (inStep .closing true false true .series false 100) = [(12, .series)] ∧
    -- a weld at the opening step
    (let p := inStep .opening false false true .ground true 100;
      atReadback p = true ∧ misread p = [(12, .ground)] ∧ attempt p = 1 ∧ p.entries.length = 128) := by decide +kernel

def lineIs (st : LineState) (p : Part) : Part := withLine 63 (fun x => { x with state := st }) p

/-- A cell of line 63 that reads closed whatever it is commanded. -/
def stuckCell (c : CellId) (p : Part) : Part :=
  { p with pins := { p.pins with
    contacts := p.pins.contacts.mapIdx fun l row => if l = 63 then row.set (cellIndex c) true else row } }

theorem witness_IsolationReadBack :
    (State.reset.part.line 63).isolation = none ∧
    ((isolating 99).line 63).isolation = some { readAt := 100, logged := .ground } ∧
    (isolating 99).clock.ticks < 100 ∧ 100 ≤ (isolating 100).clock.ticks ∧
    -- still ISOLATED with nothing closed; with the clear mark set and a second weld; restored, with a weld and with none
    ((isolating 100).line 63).state = .isolated false ∧ (isolating 100).contact 63 .ground = false ∧
    ((stuckCell .bus3 (lineIs (.isolated true) (isolating 100))).line 63).state = .isolated true ∧
    (stuckCell .bus3 (isolating 100)).contact 63 .bus3 = true ∧ ((stuckCell .bus3 (isolating 100)).cell 63 .bus3).commanded = false ∧
    ((stuckCell .ground (lineIs .pass (isolating 100))).line 63).state = .pass ∧
    (stuckCell .ground (lineIs .pass (isolating 100))).contact 63 .ground = true ∧
    ((lineIs .pass (isolating 100)).line 63).state = .pass ∧ (isolating 100).matrix.lines.length = 64 := by decide +kernel

def patrolAt (l : Nat) (now : Nat) : Part :=
  withMatrix (fun m => { m with patrolPosition := l, patrolNext := 1000 * (l + 1) }) (atTick now State.reset.part)

theorem witness_PatrolChecked :
    (patrolAt 63 63999).clock.ticks < (patrolAt 63 63999).matrix.patrolNext ∧
    (patrolAt 63 64000).matrix.patrolNext ≤ (patrolAt 63 64000).clock.ticks ∧ (patrolAt 63 64000).matrix.patrolPosition < 64 ∧
    ((patrolAt 63 64000).line 63).state = .pass ∧ (patrolAt 63 64000).contact 63 .series = true ∧
    ([.ground, .battery, .bus0, .bus1, .bus2, .bus3].all fun c => !(patrolAt 63 64000).contact 63 c) = true := by decide +kernel

/-- The line checked HELD, ISOLATED with a fault cell closed and with none, BROKEN with its series cell closed, and PASS with two
fault cells closed. -/
theorem witness_PatrolFinds :
    ((lineIs (.held 3) (patrolAt 63 64000)).line 63).state = .held 3 ∧
    ((stuckCell .bus0 (lineIs (.isolated true) (patrolAt 63 64000))).line 63).state = .isolated true ∧
    (stuckCell .bus0 (patrolAt 63 64000)).contact 63 .bus0 = true ∧
    ((lineIs (.isolated false) (patrolAt 63 64000)).line 63).state = .isolated false ∧
    ((lineIs .broken (patrolAt 63 64000)).line 63).state = .broken ∧ (patrolAt 63 64000).contact 63 .series = true ∧
    faultCells.filter (fun c => (stuckCell .bus0 (stuckCell .battery (patrolAt 63 64000))).contact 63 c) =
      [.battery, .bus0] := by decide +kernel

theorem witness_FaultCellsStayOpen :
    (inSafe State.reset.part).Barred ∧ (lockedOut State.reset.part).Barred ∧
    after .patrolCheck (setup fun p => lockedOut (atTick 1000 p)) (fun _ => true) = true :=
  ⟨.inl rfl, .inr rfl, by decide +kernel⟩

/-! The schedule. -/

/-- A SHORT_BAT on eight lines with every field at a limit. -/
def widest : RawElectrical :=
  { kind := 2, lineCount := 8, lines := [0, 1, 2, 3, 4, 5, 6, 63], bus := 0, resistance := 0, isolate := true
    tripLimit := some 100, tripTime := some 100000, chatter := some ⟨200, 1000000, 65535⟩ }

def entryOf (n : Nat) (cls : RawClass) : RawEntry :=
  { entry := n, cls := cls, condition := .atAngle 46079 (some 4294967295), latestStart := some 4294967295
    duration := .angle 11796480, repeatCount := some 65535, spacing := some 65535 }

def offsetOf (v : Int) : RawSignal := { channel := 31, kind := 1, value := v, position := 0, count := 0 }

theorem good_offset (k : Option Kind) (h : ∀ x ∈ k, x = .speed ∨ x = .wheel) : GoodSignal k (offsetOf (-40000)) := by
  refine ⟨by decide, fun x hx hw => ?_⟩
  rcases h x hx with rfl | rfl
  · decide
  · exact absurd rfl hw

theorem witness_EntryDefined :
    GoodCommon (entryOf 127 (.electrical widest)) ∧ GoodElectrical State.reset.part.matrix.settle widest ∧
    (∀ k ∈ [none, some Kind.speed, some Kind.wheel], GoodSignal k (offsetOf (-40000))) ∧
    State.reset.part.takes (.entryDefine 1 (entryOf 128 (.electrical widest))) = true ∧
    State.reset.part.takes (.entryDefine 1 (entryOf 127 (.electrical widest))) = true ∧
    parseElecKind widest.kind = some .shortBat ∧ (State.reset.part.entry 127).state = .empty ∧
    ((dueEntry 0).entry 127).state = .armed ∧ (State.reset.part.channel 31).state = .off ∧
    (State.reset.part.channel 31).kind = none ∧
    ((withChannel 31 (ofKind .speed .idle) State.reset.part).channel 31).kind = some .speed ∧
    ((withChannel 31 (ofKind .wheel .idle) State.reset.part).channel 31).kind = some .wheel := by
  refine ⟨by simp [GoodCommon, GoodCondition, entryOf], ?_, ?_, by decide +kernel⟩
  · simp [GoodElectrical, widest]; decide +kernel
  · intro k hk
    exact good_offset k (by revert k; decide)

/-- R129's checks, row by row, each with every field before it within its range. -/
theorem witness_DefinitionRefused :
    let el (x : RawElectrical) := entryOf 127 (.electrical x)
    let on31 := setup (withChannel 31 (ofKind .speed .idle))
    let sig (k : Nat) (v : Int) (q n : Nat) := entryOf 127 (.signal ⟨31, k, v, q, n⟩)
    let good := el widest
    let timed (c : RawCondition) (n : Nat) : RawEntry := { good with condition := c, spacing := some n }
    (∀ x ∈ [(el { widest with kind := 6 }, 3), (el { widest with lineCount := 9 }, 4),
        (el { widest with lines := [0, 1, 2, 3, 4, 5, 6, 64] }, 4), (el { widest with lines := [0, 1, 2, 3, 4, 5, 6, 0] }, 4),
        (el { widest with kind := 3, lineCount := 1 }, 4), (el { widest with kind := 3, bus := 4 }, 5),
        (el { widest with kind := 5, resistance := 16 }, 6), (el { widest with tripLimit := some 99 }, 8),
        (el { widest with tripTime := some 100001 }, 9), (el { widest with kind := 3 }, 10),
        (el { widest with chatter := some ⟨1000001, 1000000, 1⟩ }, 10),
        (el { widest with chatter := some ⟨199, 1000001, 1⟩ }, 11), (el { widest with chatter := some ⟨199, 199, 1⟩ }, 10),
        (el { widest with chatter := some ⟨200, 199, 1⟩ }, 11), (entryOf 127 (.unknown 2), 2)],
      answer (.entryDefine 1 x.1) State.reset = badFieldAt x.2 0) ∧
    (∀ x ∈ [({ good with condition := .unknown 4 }, 13), ({ good with condition := .atTime 281474976710656 }, 14),
        ({ good with condition := .atAngle 46080 none }, 14), ({ good with condition := .onEvent 15 65536 }, 15),
        ({ good with condition := .now, latestStart := some 4294967296 }, 14), ({ good with duration := .unknown 4 }, 17),
        ({ good with duration := .angle 11796481 }, 18), ({ good with duration := .untilEvent 16 }, 18),
        ({ good with repeatCount := some 65536 }, 19), (timed (.atAngle 0 none) 65536, 20), (timed (.onEvent 15 1) 0, 20),
        (timed (.atTime 0) 4294967296, 19)],
      answer (.entryDefine 1 x.1) State.reset = badFieldAt x.2 0) ∧
    (∀ x ∈ [(entryOf 127 (.signal ⟨32, 0, 0, 0, 0⟩), 3), (sig 4 0 0 0, 4), (sig 1 (-40001) 0 0, 5), (sig 2 0 120 1, 5),
        (sig 2 0 119 121, 6), (sig 3 46080 0 0, 5)],
      answer (.entryDefine 1 x.1) on31 = badFieldAt x.2 0) ∧
    answer (.entryDefine 1 { good with entry := 128 }) State.reset = badFieldAt 1 0 ∧
    -- an OPEN entry's trip fields are not used and not checked (R127)
    after (.entryDefine 1 (el { widest with kind := 0, tripLimit := some 1, tripTime := some 1 })) State.reset
      (fun p => (p.entry 127).state = .loaded) = true := by decide +kernel

theorem witness_EntryDeletedAndRead :
    State.reset.part.takes (.entryDelete 1 127) = true ∧ State.reset.part.takes (.entryGet 1 127) = true ∧
    State.reset.part.takes (.entryGet 1 128) = true ∧ State.reset.part.takes (.entryGet 1 255) = true ∧
    (∀ k < 128, (State.reset.part.entry k).state ≠ .blocked) := by decide +kernel

/-- The matrix READY with entry 22 LOADED on line 7, changed. -/
def loadedEntry (c : Condition) (f : Part → Part) : State :=
  setup fun p => f (withEntry 22 (defined (.electrical (shortGround [7])) c (.untilEvent 15) .loaded)
    (withMatrix (fun m => { m with state := .ready }) (watching 15 (.trigger 7 .rise) 0 p)))

theorem witness_EntryArmedAndDisarmed :
    State.reset.part.takes (.entryArm 1 128) = true ∧ State.reset.part.takes (.entryArm 1 127) = true ∧
    (State.reset.part.entry 127).state = .empty ∧ ((dueEntry 0).entry 127).state = .armed ∧
    (loadedEntry .now inSafe).part.takes (.entryArm 1 22) = true ∧ (loadedEntry .now inSafe).part.safe.isSome = true ∧
    ((loadedEntry .now inSafe).part.entry 22).state = .loaded ∧
    (loadedEntry .now lockedOut).part.matrix.state = .lockout ∧
    ((loadedEntry .now (withLine 7 fun x => { x with state := .broken })).part.line 7).state = .broken ∧
    ((loadedEntry .now (withLine 7 fun x => x.setCell .ground { x.cell .ground with worn := true })).part.cell 7
      .ground).worn = true ∧ CellId.ground ∈ (shortGround [7]).neededCells ∧
    (loadedEntry (.atTime 1) id).part.takes (.entryArm 1 22) = true ∧ (loadedEntry (.atTime 1) id).part.matrix.state = .ready ∧
    ((loadedEntry (.atTime 1) id).part.slot 15).source ≠ .none ∧
    (loadedEntry (.atTime 1) id).part.clock.rigTime < min 1 281474976710655 ∧
    (loadedEntry .now id).part.takes (.entryArm 1 22) = true ∧ (loadedEntry .now id).part.matrix.state = .ready ∧
    min (loadedEntry .now id).part.clock.ticks 281474976710655 ≤ (loadedEntry .now id).part.clock.rigTime ∧
    min 0 281474976710655 ≤ (loadedEntry (.atTime 0) id).part.clock.rigTime ∧
    ((loadedEntry (.onEvent 14 1) id).part.slot 14).source = .none ∧
    State.reset.part.takes (.entryDisarm 1 127) = true ∧ ((shorted [] 0).part.entry 22).state = .active ∧
    (shorted [] 0).part.takes (.entryDisarm 1 22) = true ∧
    ((inStep (.inserting []) true true false .ground true 0).entry 40).state = .inserting := by decide +kernel

/-- Entry 127 about to be settled, with some repeats left. -/
def ending (cause : EndCause) (c : Condition) (repeats now : Nat) : Part :=
  withEntry 127 (fun e => { defined (.signal 0 .stuck) c .untilDisarm .active e with
    endCause := some cause, repeatsRemaining := repeats, duePoint := some 100, occurrences := 65535 }) (atTick now State.reset.part)

/-- A repeat not met by one tick, one on a slot's count not met by one, one in SAFE, none left, and an abort. -/
theorem witness_OccurrenceSettled :
    ((ending .completed (.atTime 100) 1 99).entry 127).endCause = some .completed ∧
    ((ending .completed (.atTime 100) 1 99).entry 127).definition.map EntryDef.condition = some (.atTime 100) ∧
    0 < ((ending .completed (.atTime 100) 1 99).entry 127).repeatsRemaining ∧
    (ending .completed (.atTime 100) 1 99).clock.rigTime < min (100 + 0) 281474976710655 ∧
    2147483648 ≤ (((ending .missed (.onEvent 0 1) 1 0).slot 0).count + (4294967296 - (100 + 1))) % 4294967296 ∧
    (inSafe (ending .missed .now 1 100)).safe.isSome = true ∧
    ((ending .completed .now 0 100).entry 127).repeatsRemaining = 0 ∧
    ((ending .tripped .now 1 100).entry 127).endCause = some .tripped := by decide +kernel

def blockedUntil (deadline now : Nat) : Part :=
  withEntry 127 (fun e => { defined (.signal 0 .stuck) .now .untilDisarm .blocked e with deadline := some deadline })
    (atTick now State.reset.part)

def lasting (d : Duration) (travel now : Nat) : Part :=
  withEntry 127 (fun e => { defined (.signal 0 .stuck) .now d .active e with activeTick := 10, travel := travel })
    (atTick now State.reset.part)

theorem witness_EntryMissedOrEnded :
    ((blockedUntil 100 100).entry 127).deadline = some 100 ∧ (blockedUntil 100 100).clock.ticks ≤ 100 ∧
    100 < (blockedUntil 100 101).clock.ticks ∧ ((blockedUntil 100 101).entry 127).state = .blocked ∧
    ((blockedUntil 100 101).entry 127).endCause = none ∧
    (lasting (.time 50) 0 59).clock.ticks < ((lasting (.time 50) 0 59).entry 127).activeTick + 50 ∧
    ((lasting (.time 50) 0 60).entry 127).activeTick + 50 ≤ (lasting (.time 50) 0 60).clock.ticks ∧
    ((lasting (.time 50) 0 60).entry 127).definition.map EntryDef.duration = some (.time 50) ∧
    ((lasting (.angle 1) 65535 0).entry 127).travel < 1 * 65536 ∧ 1 * 65536 ≤ ((lasting (.angle 1) 65536 0).entry 127).travel ∧
    ((lasting (.angle 1) 65536 0).entry 127).endCause = none := by decide +kernel

/-- Entry 127 due on channel 0, which is free, or claimed by entry 3. -/
def signalDue (holder : Option Nat) : Part :=
  let p := withChannel 0 (ofKind .level .idle) (dueEntry 100)
  { p with claims := { p.claims with channels := p.claims.channels.set 0 holder } }

theorem noneBefore_of (e : Nat) (p : Part) (h : ∀ k < e, (p.entry k).state ≠ .armed) : p.NoneBefore e :=
  fun k hk ha => absurd ha (h k hk)

/-- Two dues and other work, and the two dues alone with an entry below whose time has come. -/
theorem witness_DuesInEntryOrder :
    (dueEntry 100).NoneBefore 127 ∧
    (let p := withEntry 5 (fun e => { defined (.signal 0 .stuck) (.atTime 90) .untilDisarm .armed e with
        waiting := some (.time 90) }) (dueEntry 100);
      (p.entry 5).state = .armed ∧ (p.entry 5).waiting = some (.time 90) ∧ min 90 281474976710655 ≤ p.clock.rigTime ∧
      ∀ k < 5, (p.entry k).state ≠ .armed) :=
  ⟨noneBefore_of _ _ (by decide +kernel), by decide +kernel⟩

/-- R137: entry 3's ACTIVE occurrence makes entry 12 due, and entry 9, due on the tick already, comes before it: both ask for
channel 1, and entry 9 has it. -/
theorem test_duesInEntryOrder :
    let on (c : Nat) (w : Waiting) (e : Entry) : Entry :=
      { defined (.signal c .stuck) .now .untilDisarm .armed e with waiting := some w }
    let p := watching 15 (.entry 3 .active) 0 (withEntry 3 (on 0 (.event 1 1)) (withEntry 9 (on 1 (.event 1 1))
      (withEntry 12 (on 1 (.event 15 1)) (withChannel 0 (ofKind .level .idle) (withChannel 1 (ofKind .level .idle)
        State.reset.part)))))
    let q := settleAll (p, [.due 3 (.event 1 1) 1, .due 9 (.event 1 1) 1])
    [3, 9, 12].map (fun e => (q.entry e).state) = [.active, .active, .blocked] := by decide +kernel

/-- Entry 127 due with a latest start of 5, counted from its time 100, on tick 105 and behind it. -/
def lateEntry (now : Nat) : Part :=
  withEntry 127 (fun e => { e with definition := e.definition.map fun d => { d with latestStart := some 5 } })
    { signalDue none with clock := { rigTime := now, ticks := now } }

theorem witness_MissedWhenDue :
    (lateEntry 106).NoneBefore 127 ∧
    ((lateEntry 106).entries.length = 128 ∧ ((lateEntry 106).entry 127).state = .armed ∧
      ((lateEntry 106).entry 127).waiting = some (.time 100) ∧ ((lateEntry 106).entry 127).repeatsRemaining = 0 ∧
      ∀ d, ((lateEntry 106).entry 127).definition = some d →
        ((lateEntry 106).dueEntry 127 100 d).deadline = some 105 ∧ 105 < (lateEntry 106).clock.ticks) := by
  refine ⟨noneBefore_of _ _ (by decide +kernel), by decide +kernel, by decide +kernel, by decide +kernel, by decide +kernel, ?_⟩
  intro d hd
  have h : ((lateEntry 106).entry 127).definition =
      some ⟨.signal 0 .stuck, .atTime 100, some 5, .untilDisarm, none, none⟩ := by decide +kernel
  obtain rfl : d = _ := by simpa using hd.symm.trans h
  decide +kernel

/-- R134, R135: on its deadline the entry starts, behind it the entry is MISSED. -/
theorem test_deadline :
    after (.conditionAtTime (.entry 127)) (setup fun _ => lateEntry 105) (fun p => (p.entry 127).state = .active) = true ∧
    after (.conditionAtTime (.entry 127)) (setup fun _ => lateEntry 106)
      (fun p => (p.entry 127).state = .done && p.log.recoverable.count = 1) = true := by decide +kernel

def signalBlocked (p : Part) : Part := withEntry 127 (fun e => { e with state := .blocked, waiting := none }) p

theorem witness_SignalDue :
    (signalDue none).entries.length = 128 ∧ (signalDue none).channels.length = 32 ∧ (signalDue none).slots.length = 16 ∧
    (signalDue none).claims.channels.length = 32 ∧ ((signalDue none).entry 127).state = .armed ∧
    ((signalDue none).entry 127).waiting = some (.time 100) ∧
    ((signalDue none).entry 127).definition.map EntryDef.cls = some (.signal 0 .stuck) ∧
    ((signalDue none).entry 127).definition.map EntryDef.latestStart = some none ∧
    ((signalDue none).channel 0).state = .idle ∧ ((signalDue none).channel 0).kind = some .level ∧
    Kind.level.accepts .stuck = true ∧ (signalDue none).claims.channels.getD 0 none = none ∧
    (signalDue (some 3)).claims.channels.getD 0 none = some 3 ∧ (signalDue (some 127)).claims.channels.getD 0 none = some 127 ∧
    (∀ n < 16, ((signalDue none).slot n).source.matchesOcc (.entry 127 .active) = false) ∧
    (∀ k < 127, ((signalDue none).entry k).state ≠ .armed) ∧
    -- no target: a channel OFF; judged: BLOCKED on a channel that is claimed, free, and OFF
    ((dueEntry 100).channel 0).state = .off ∧
    (∀ p ∈ [signalBlocked (signalDue (some 3)), signalBlocked (signalDue none), signalBlocked (dueEntry 100)],
      (p.entry 127).state = .blocked ∧ (p.entry 127).endCause = none ∧ (p.entry 127).signal? = some (0, .stuck)) := by
  decide +kernel

/-- Entry 22 of 7.5.1 ARMED for tick 100, or BLOCKED, on line 7, with nothing claimed but what the change makes. -/
def shortDue (st : EntryState) (f : Part → Part) : Part :=
  f (withEntry 22 (fun e => { defined (.electrical (shortGround [7])) (.atTime 100) .untilDisarm st e with
      waiting := some (.time 100), blockedSince := if st = .blocked then some 90 else none })
    (withMatrix (fun m => { m with state := .ready }) (atTick 100 State.reset.part)))

def claimed (p : Part) : Part := { p with claims := { p.claims with lines := p.claims.lines.set 7 (some 3) } }
def spent (p : Part) : Part := { p with claims := { p.claims with budget := 8 } }
def stateOf7 (st : LineState) (p : Part) : Part := withLine 7 (fun x => { x with state := st }) p

theorem free_of_unclaimed (p : Part) (h : p.claims.lines.getD 7 none = none) (hb : p.claims.budget + 1 ≤ 8) :
    p.ClaimsFree 22 (shortGround [7]) := by
  refine ⟨fun l hl k hk => ?_, (fun _ hb' => nomatch hb'), fun _ => hb⟩
  obtain rfl : l = 7 := by simpa [shortGround] using hl
  exact absurd (h ▸ hk) nofun

/-- Not free by a line's holder and by the budget; free in LOCKOUT, with a line BROKEN, with a cell WORN, and with all ready. -/
theorem witness_ElectricalDue :
    (¬(shortDue .armed claimed).ClaimsFree 22 (shortGround [7]) ∧ ¬(shortDue .armed spent).ClaimsFree 22 (shortGround [7])) ∧
    (∀ f ∈ [id, lockedOut, stateOf7 .broken], (shortDue .armed f).ClaimsFree 22 (shortGround [7])) ∧
    (shortDue .armed id).LinesReady (shortGround [7]) ∧ ¬(shortDue .armed (stateOf7 .broken)).LinesReady (shortGround [7]) ∧
    (let p := shortDue .armed id;
      p.entries.length = 128 ∧ p.claims.lines.length = 64 ∧ p.claims.buses.length = 4 ∧
      p.matrix.lines.length = 64 ∧ (∀ x ∈ p.matrix.lines, x.cells.length = 7) ∧ p.matrix.state = .ready ∧
      (p.entry 22).state = .armed ∧ (p.entry 22).waiting = some (.time 100) ∧
      (p.entry 22).definition.map EntryDef.latestStart = some none ∧ (∀ k < 22, (p.entry k).state ≠ .armed) ∧
      (shortDue .armed lockedOut).matrix.state = .lockout ∧ (shortDue .armed (stateOf7 .broken)).matrix.state ≠ .lockout) := by
  refine ⟨⟨fun h => absurd (h.1 7 (by decide) 3 (by decide +kernel)) (by decide),
      fun h => absurd (h.2.2 (.inl rfl)) (by decide +kernel)⟩, ?_, ?_, ?_, by decide +kernel⟩
  · intro f hf
    have h : ∀ g ∈ [id, lockedOut, stateOf7 .broken], (shortDue .armed g).claims.lines.getD 7 none = none ∧
      (shortDue .armed g).claims.budget + 1 ≤ 8 := by simp only [List.forall_mem_cons]; decide +kernel
    exact free_of_unclaimed _ (h f hf).1 (h f hf).2
  · unfold Part.LinesReady; decide +kernel
  · unfold Part.LinesReady; decide +kernel

/-- A BLOCKED entry judged behind a give-back of line 7: ISOLATED or BROKEN in LOCKOUT, in LOCKOUT alone, and with all
ready. -/
theorem witness_ArbiterPasses :
    (∀ f ∈ [id, lockedOut, fun p => stateOf7 (.isolated false) (lockedOut p), fun p => stateOf7 .broken (lockedOut p)],
      (shortDue .blocked f).ClaimsFree 22 (shortGround [7])) ∧
    ((shortDue .blocked id).blockedSet = [(22, 90)] ∧ ((shortDue .blocked id).entry 22).state = .blocked ∧
      ((shortDue .blocked id).entry 22).endCause = none ∧
      ((shortDue .blocked fun p => stateOf7 (.isolated false) (lockedOut p)).line 7).state = .isolated false ∧
      ((shortDue .blocked fun p => stateOf7 .broken (lockedOut p)).line 7).state = .broken ∧
      (shortDue .blocked lockedOut).matrix.state = .lockout ∧ ((shortDue .blocked lockedOut).line 7).state = .pass) := by
  refine ⟨fun f hf => ?_, by decide +kernel⟩
  have h : ∀ g ∈ [id, lockedOut, fun p => stateOf7 (.isolated false) (lockedOut p), fun p => stateOf7 .broken (lockedOut p)],
      (shortDue .blocked g).claims.lines.getD 7 none = none ∧ (shortDue .blocked g).claims.budget + 1 ≤ 8 := by
    simp only [List.forall_mem_cons]; decide +kernel
  exact free_of_unclaimed _ (h f hf).1 (h f hf).2

/-- The BLOCKED entry with its last-insertion record begun, its line BROKEN in LOCKOUT. -/
def waitingBroken : Part :=
  let begun : LastInsertion :=
    { dueTime := 90, grantedTime := none, start := none, endTime := none, endCause := none, tripSense := none, tripCurrent := none }
  withEntry 22 (fun x => { x with last := some begun }) (shortDue .blocked fun p => stateOf7 .broken (lockedOut p))

/-- R185: a waiting entry whose line its holder's release left BROKEN ends CELL_FAULT in LOCKOUT too, and LOCKOUT where the line
is another's. -/
theorem test_handOverBroken :
    (((settleAll (waitingBroken, [.judge 22 [7]])).entry 22).last.bind LastInsertion.endCause) = some .cellFault ∧
    (((settleAll (waitingBroken, [.judge 22 [8]])).entry 22).last.bind LastInsertion.endCause) = some .lockout := by
  decide +kernel

theorem witness_TickItself :
    (atTick 281474976710653 State.reset.part).clock.rigTime < 281474976710654 ∧
    281474976710654 ≤ (atTick 281474976710654 State.reset.part).clock.rigTime := by decide +kernel

/-- The last pin of each kind, a slot that holds no record, and one that does, without an error and with one. -/
theorem witness_PinsChanged :
    (let n := State.reset.part.pins;
      7 < n.triggers.length ∧ 15 < n.monitors.length ∧ 63 < n.lineCurrents.length ∧ 3 < n.busCurrents.length ∧
      63 < n.contacts.length ∧ (n.contacts.getD 63 []).length = 7) ∧
    (∀ ch ∈ State.reset.part.channels, ∀ r ∈ ch.queue, r.slot ≠ 16383) ∧
    (∃ ch ∈ (playing (hold 10 5) 0 [] 10).part.channels, ∃ r ∈ ch.queue, r.slot = 0) ∧
    (∀ d ∈ (playing (hold 10 5) 0 [] 10).part.damage, d.1 ≠ 0) ∧
    ((0 : Nat), SlotError.correctable) ∈
      ((playing (hold 10 5) 0 [] 10).part.pinChange (.slotError 0 .correctable)).damage := by decide +kernel

/-- 3.6.1: a second bit error in a slot is beyond correction; R101: a contact changes on its own line and cell alone. -/
theorem test_pinChange :
    (let p := (playing (hold 10 5) 0 [] 10).part;
      ((p.pinChange (.slotError 0 .correctable)).pinChange (.slotError 0 .correctable)).damage = [(0, .uncorrectable)]) ∧
    (let p := State.reset.part.pinChange (.contact 63 .bus3 true);
      p.contact 63 .bus3 = true ∧ p.contact 63 .ground = State.reset.part.contact 63 .ground ∧
      p.contact 62 .bus3 = State.reset.part.contact 62 .bus3) := by decide +kernel

/-- A channel playing an ANGLE record, an ACTIVE entry with an ANGLE duration, and a slot marking an angle, all begun before the
tick. -/
def moving : Part :=
  watching 4 (.angleMark 3) 7
    { lasting (.angle 2) 5 20 with channels :=
      (playing { hold 2 5 with basis := .angle } 9 [] 20).part.channels }

theorem witness_MotionTaken :
    moving.slots.length = 16 ∧ (moving.channel 0).state = .running ∧
    (moving.channel 0).play = some { place := 0, startTick := 0, travel := 9 } ∧
    (moving.channel 0).queue[0]? = some (inSlot 0 { hold 2 5 with basis := .angle }) ∧ 0 < moving.clock.ticks ∧
    (moving.entry 127).state = .active ∧ (moving.entry 127).activeTick < moving.clock.ticks ∧ 5 < 2 * 65536 ∧
    (moving.engine.move true 196608).2.passes 3 = true := by decide +kernel

/-- Entries 3 and 127 ARMED, and group 7, for angle 1, with a floor one cycle ahead for entry 3. -/
def aiming : Part :=
  let at1 (f : Option Nat) (e : Entry) : Entry :=
    { defined (.signal 0 .stuck) (.atAngle 1 f) .untilDisarm .armed e with waiting := some (.angle 1 f) }
  (withEntry 3 (at1 (some 1)) (withEntry 127 (at1 none) State.reset.part)).setGroup 7
    { armed := some (.atAngle 1 none, .angle 1 none), startCount := 0, lastStart := none }

theorem witness_MotionMeets :
    aiming.slots.length = 16 ∧ (∀ n < 16, (aiming.slot n).source = .none) ∧
    (aiming.entry 3).waiting = some (.angle 1 (some 1)) ∧ (aiming.entry 127).waiting = some (.angle 1 none) ∧
    (∀ e < 128, (aiming.entry e).waiting.all fun w => match w with | .angle _ _ => true | _ => false) ∧
    (aiming.engine.move true 65536).2.passes 1 = true ∧ (aiming.engine.move true 65536).2.passCycle 1 = 0 := by decide +kernel

theorem witness_ResetsTaken :
    (let s := sending (.reply ⟨1, .ack (.linkReset 0)⟩) 23;
      s.part.matrix.lines.length = 64 ∧ (∀ x ∈ s.part.matrix.lines, x.cells.length = 7) ∧ 23 ≤ s.part.clock.ticks) := by
  decide +kernel

/-! What entry to SAFE meets. -/

/-- Entries ARMED, BLOCKED, INSERTING, ACTIVE on a line, and ACTIVE on a channel. -/
def busyPart : Part :=
  withEntry 127 (fun e => { defined (.signal 0 .stuck) .now .untilDisarm .armed e with waiting := some (.time 200) })
    (withEntry 126 (defined (.signal 0 .stuck) .now .untilDisarm .blocked)
      (withEntry 125 (defined (.signal 0 .stuck) .now .untilDisarm .active)
        (withChannel 0 (fun ch => { ofKind .level .running ch with modifier := some { entry := 125, fault := .stuck, stuck := none } })
          (withEntry 22 (defined (.electrical (shortGround [7])) .now .untilDisarm .active)
            (withLine 7 (fun x => { (x.setCell .ground { x.cell .ground with commanded := true }) with state := .held 22 })
              (inStep (.inserting []) true true false .ground true 90))))))

theorem witness_SafeEntry :
    (busyPart.entry 127).state = .armed ∧ (busyPart.entry 126).state = .blocked ∧ (busyPart.entry 126).endCause = none ∧
    (busyPart.entry 40).state = .inserting ∧ (busyPart.holdBackCloses 40).releaseOpens 40 (shortGround [12]) ≠ [] ∧
    (busyPart.entry 22).state = .active ∧ busyPart.releaseOpens 22 (shortGround [7]) ≠ [] ∧
    (busyPart.entry 125).state = .active ∧ (busyPart.channel 0).modifier.map Modifier.entry = some 125 ∧
    busyPart.entries.length = 128 ∧ busyPart.channels.length = 32 ∧ busyPart.groups.length = 8 := by decide +kernel

/-- An ACTIVE OPEN entry on line 9 whose chatter has its series cell CLOSED, so that a fast release has nothing to command; and a
group ARMED, with the entries of `busyPart`. -/
def busierPart : Part :=
  { withEntry 21 (defined (.electrical { shortGround [9] with kind := .openLine }) .now .untilDisarm .active)
      (withLine 9 (fun x => { x with state := .held 21 }) busyPart) with
    groups := busyPart.groups.set 7 { (busyPart.group 7) with armed := some (.now, .time 200) } }

theorem busierPart_sound : busierPart.EntriesSound := by
  have h : busierPart.entries.all (fun x => (x.state = .empty || x.definition.isSome) &&
      (!(x.state = .inserting || x.state = .releasing) || x.electrical?.isSome)) = true := by decide +kernel
  intro e he
  have := (List.all_eq_true.mp h) e he
  simp only [Bool.and_eq_true, Bool.or_eq_true, decide_eq_true_eq, Bool.not_eq_true', Bool.or_eq_false_iff,
    decide_eq_false_iff_not] at this
  exact ⟨fun hn => this.1.resolve_left hn, fun ho => this.2.resolve_left fun hf => by rcases ho with ho | ho <;> simp_all⟩

/-- A sound part in NORMAL with entries that release and entries that end at once on entry to SAFE, a group ARMED, a channel
and its modifier, and lines of no released entry. -/
theorem witness_EnteredSafe :
    busierPart.EntriesSound ∧ busierPart.slots.length = 16 ∧ busierPart.safe = none ∧ busierPart.endsInSafe = [21, 125] ∧
    busierPart.releasesAtOnce 21 { shortGround [9] with kind := .openLine } = true ∧ (busierPart.group 7).armed.isSome = true ∧
    (busierPart.line 0).state = .pass ∧ (busierPart.channel 1).state = .off ∧ (busierPart.channel 0).state = .running :=
  ⟨busierPart_sound, by decide +kernel, by decide +kernel, by decide +kernel, by decide +kernel, by decide +kernel,
    by decide +kernel, by decide +kernel, by decide +kernel⟩

/-- R45, R86, R151, R160: the notices that entry to SAFE adds to the reset-done notice, with their repeat counts (in the order of
log entry 22), and R113: the line of the entry released at once is PASS. -/
theorem test_safeEnter_notices :
    after (.safeEnter 1) (setup fun _ => busierPart) (fun p =>
      p.link.notices.map (fun n => (n.source, n.repeats)) =
        [(.part, 1), (.guard, 1), (.entry 126, 1), (.entry 127, 1), (.group 7, 1), (.entry 21, 2), (.entry 22, 1),
          (.entry 40, 1), (.entry 125, 1), (.channel 0, 1)] &&
      (p.line 9).state = .pass && (p.entry 21).state = .aborted && p.log = busierPart.log) = true := by decide +kernel

/-- R147, R116: entry to SAFE takes each of them as R147 says. -/
theorem test_safeEnter_entries :
    after (.safeEnter 1) (setup fun _ => busyPart) (fun p =>
      (p.entry 127).state = .loaded && (p.entry 126).state = .aborted && (p.entry 125).state = .aborted &&
      (p.entry 22).state = .releasing && (p.entry 40).state = .releasing && (p.entry 40).endCause = some .safe &&
      !(p.cell 7 .ground).commanded && (p.channel 0).state = .held && (p.channel 0).modifier = none) = true := by decide +kernel

theorem linkSound_reset : State.reset.part.LinkSound := ⟨by decide +kernel, by decide +kernel, by decide +kernel⟩

/-- The state after reset, and one with its reply queue one short of full, take a step that keeps the queues sound. -/
theorem witness_LinkStaysSound :
    State.reset.part.LinkSound ∧
    after (.safeEnter 1) (fullReplies 7) (fun p => decide (p.link.replies.length = 8)) = true :=
  ⟨linkSound_reset, by decide +kernel⟩

theorem witness_StoreStaysSound :
    (playing (hold 10 5) 0 [inSlot 1 (hold 1 6)] 10).part.StoreSound ∧
    after (.segmentEnd 0) (playing (hold 10 5) 0 [inSlot 1 (hold 1 6)] 10)
      (fun p => decide ((p.channels.flatMap fun x => x.queue.map QRec.slot) = [1])) = true :=
  ⟨⟨by decide +kernel, by decide +kernel, by decide +kernel⟩, by decide +kernel⟩

theorem sound_none (r : ClassRecord) (h : r.count = 0 ∧ r.first = none) : r.Sound :=
  ⟨by simp [h.1], by simp [h.1, h.2]⟩

theorem witness_RecordsStaySound :
    (ringOf 512 0 false).RingAndBudgetSound ∧ State.reset.part.LogSound ∧ State.reset.part.EntriesSound ∧
    after (.guardExpiry) (guarded 50 51000) (fun p => decide (p.log.recoverable.count = 1)) = true := by
  refine ⟨⟨by decide +kernel, by decide +kernel⟩, ⟨sound_none _ ⟨rfl, rfl⟩, sound_none _ ⟨rfl, rfl⟩, sound_none _ ⟨rfl, rfl⟩⟩,
    fun e he => ?_, by decide +kernel⟩
  have h : ∀ x ∈ State.reset.part.entries, x.state = .empty := by decide +kernel
  exact ⟨fun hn => absurd (h e he) hn, fun ho => by rcases ho with ho | ho <;> simp [h e he] at ho⟩

/-! ### The manual's worked figures, one command at a time -/

/-- 1.3.2: ENGINE_SPEED with target 24,000 and rate 2,000 at 800 rpm. -/
theorem test_engineSpeed_ramping :
    after (.engineSpeed 1 24000 2000)
      (setup (withEngine fun e => { e with internal := 3200000, speed := 3200, target := 3200, motion := .steady }))
      (fun p => p.engine.motion = .ramping && p.engine.target = 24000 && p.engine.speed = 3200) = true := by decide +kernel
/-- R6: a target above 40,000 is stored as 40,000 with the clamped flag. -/
theorem test_engineSpeed_clamped :
    answer (.engineSpeed 1 40001 1000) State.reset = some (.ack (.engineSpeed true 40000 1000 .ramping)) := by decide +kernel
/-- 1.3.2, update 1: internal speed 3,208,000, increment 20,183. -/
theorem test_milli_fixed :
    after .millisecondUpdate
      (milli fun e => { e with internal := 3200000, speed := 3200, target := 24000, rampRate := 2000, increment := 20133
                               motion := .ramping })
      (fun p => p.engine.internal = 3208000 && p.engine.speed = 3208 && p.engine.increment = 20183) = true := by decide +kernel
/-- 1.5.3: 96 net backward counts at E = 1,440 give 16,000. -/
theorem test_milli_follow :
    after .millisecondUpdate (milli fun e => { e with mode := .follow, counts := 1440, windowNet := -96, windowCounts := 96 })
      (fun p => p.engine.speed = 16000 && p.engine.motion = .steady && p.engine.increment = 0) = true := by decide +kernel
/-- 1.4.2: the tick that ends the cycle leaves 1,120. -/
theorem test_tick_wraps :
    after (.microsecondTick []) (setup (withEngine fun e => { e with acc := 3019749005, increment := 150995, cycle := 4294967295 }))
      (fun p => p.engine.acc = 1120 && p.engine.cycle = 0 && p.clock.rigTime = 1) = true := by decide +kernel
/-- R1: rig time holds at 2^48 − 1 while the tick count goes on. -/
theorem test_rigTimeHold :
    after (.rigTimeHold []) (setup (atTick 281474976710655))
      (fun p => p.clock.rigTime = 281474976710655 && p.clock.ticks = 281474976710656) = true := by decide +kernel
/-- 1.5.2: the follow step for E = 1,000. -/
theorem test_followCfg :
    after (.engineFollowCfg 1 1000 0 64) State.reset (fun p => p.engine.step = 1509949) = true := by decide +kernel
/-- R10: A rising while B is low is a forward count, A falling while B is low a backward one across 0. -/
theorem test_encoder_forward :
    after (.encoderCount true false) (setup inFollow) (fun p => p.engine.acc = 4194304 && p.engine.windowNet = 1) = true := by
  decide +kernel
theorem test_encoder_backward :
    after (.encoderCount false false) (setup fun p => { inFollow p with pins := { p.pins with encA := true } })
      (fun p => p.engine.acc = 3015704576 && p.engine.cycle = 4294967295 && p.engine.windowNet = -1) = true := by
  decide +kernel
/-- 1.5.4, rows 1 and 2. -/
theorem test_index_forward :
    after (.indexPulse true) (setup fun p => withEngine (fun e => { e with acc := 46075 * 65536 + 9 }) (inFollow p))
      (fun p => p.engine.acc = 0 && p.engine.indexError = -5 && p.engine.cycle = 1 && p.log.recoverable.count = 0) = true := by
  decide +kernel
theorem test_index_tie :
    after (.indexPulse true) (setup fun p => withEngine (fun e => { e with acc := 11520 * 65536 }) (inFollow p))
      (fun p => p.engine.acc = 23040 * 65536 && p.engine.indexError = -11520 &&
        p.log.recoverable.first.map Logging.detail = some (-11520)) = true := by decide +kernel
theorem test_indexMissing :
    after .indexMissing (setup fun p => withEngine (fun e => { e with sinceIndex := 720 }) (inFollow p))
      (fun p => p.engine.missingMark && p.log.recoverable.first.map Logging.detail = some 720) = true := by decide +kernel
/-- R16: FOLLOW is refused while the engine moves. -/
theorem test_engineMode_busy :
    answer (.engineMode 1 2 0) (setup (withEngine fun e => { e with motion := .steady })) =
      some (.refuse { code := .busy, field := 0, position := 0, named := none }) := by decide +kernel
theorem test_engineAngleSet :
    after (.engineAngleSet 1 46079 7) State.reset (fun p => p.engine.acc = 46079 * 65536 && p.engine.cycle = 7) = true := by
  decide +kernel

/-- 2.4.3: the ramp of channel 3 at 31,990 and its DAC code. -/
theorem test_levelTick :
    after .levelTick
      (setup fun p => withChannel 3 (fun ch => { ofKind .level .running ch with
          play := some { place := 0, startTick := 30000, travel := 0 }
          queue := [inSlot 0 { hold 2000 500 with shape := .ramp, stop := some 4500 }] })
        { atTick 31990 p with marks := { p.marks with level := true } })
      (fun p => (p.channel 3).output = 4480 && (p.channel 3).dac = 24466) = true := by decide +kernel
/-- 2.5.2: the PWM period that begins at 100,300. -/
theorem test_pwmPeriodEnd :
    after (.pwmPeriodEnd 20)
      (setup fun p => withChannel 20 (fun ch => { ofKind .pwm .running ch with
          frequency := some 10000, play := some { place := 0, startTick := 100001, travel := 0 }
          queue := [inSlot 0 { hold 4000 2000 with shape := .ramp, stop := some 6000 }]
          period := some { frequency := 10000, duty := 5000, length := 40000, high := 20000, start := 99300 * 40 } })
        (atTick 100300 p))
      (fun p => (p.channel 20).period =
        some { frequency := 10000, duty := 2299, length := 40000, high := 9196, start := 100300 * 40 }) = true := by
  decide +kernel
/-- R35: at 20,000.0 Hz a 200 µs width is held to 1,000 fine ticks. -/
theorem test_pulseTrainStart :
    after (.pulseTrainStart 20) lookedAt
      (fun p => (p.channel 20).period.map (fun q => (q.length, q.high)) = some (2000, 1000)) = true := by decide +kernel
/-- R36: a period that ends while the rendered frequency is 0 is followed by none. -/
theorem test_pulsePeriodEnd :
    after (.pulsePeriodEnd 31) (withPeriod .pulse 40000 1000) (fun p => (p.channel 31).period = none) = true := by decide +kernel
/-- 2.7.2: tooth 0 stands at angle 191 and has fallen at 193; at 96 of shift it is seen from 22,944. -/
theorem test_wheel_tooth :
    ((onWheel none).wheelRender (some crank) 191).output = 1 ∧ ((onWheel none).wheelRender (some crank) 193).output = 0 ∧
    ((onWheel none).wheelRender (some crank) 384).output = 1 := by decide +kernel
theorem test_wheel_shift :
    ((onWheel (some ⟨5, .shift 96, none⟩)).wheelRender (some crank) 22944).output = 1 ∧
    ((onWheel (some ⟨5, .shift 96, none⟩)).wheelRender (some crank) 96).output = 0 := by decide +kernel
theorem test_wheelDefine :
    answer (.wheelDefine 1 0 ⟨0, 60, 192, 2, [58, 59, 0, 0, 0, 0, 0, 0], 0, 0⟩) State.reset = some (.ack (.wheel 0 384)) ∧
    answer (.wheelDefine 1 0 ⟨0, 7, 192, 0, [0, 0, 0, 0, 0, 0, 0, 0], 0, 0⟩) State.reset =
      some (.refuse { code := .badField, field := 3, position := 0, named := none }) := by decide +kernel
theorem test_channelConfig :
    after (.channelConfig 1 15 pwmConfig) State.reset
      (fun p => (p.channel 15).state = .idle && (p.channel 15).output = 10000 && (p.channel 15).frequency = some 10 &&
        -- R34: the first park period, of 1 s at 1.0 Hz
        (p.channel 15).period.map (fun q => (q.length, q.high)) = some (40000000, 40000000)) = true := by
  decide +kernel
theorem test_channelStart :
    after (.channelStart 1 31) (setup (withChannel 31 (ofKind .speed .idle)))
      (fun p => (p.channel 31).state = .running && (p.channel 31).startAt = some 1) = true := by decide +kernel
theorem test_channelStop :
    answer (.channelStop 1 0) (playing (hold 10 5) 0 [inSlot 1 (hold 1 6)] 10) = some (.ack (.channelStop 0 2 .idle)) := by
  decide +kernel
theorem test_channelDisable :
    after (.channelDisable 1 0) (playing (hold 10 5) 0 [] 10) (fun p => p.channel 0 = Channel.atReset) = true := by decide +kernel

/-- 3.5.4: the ACK of the append of five records. -/
theorem test_segAppend :
    answer (.segAppend 1 5 5 [raw 500 1000 none,
        .segment ⟨.time, 1000, .ramp, 1000, some 3000, none, some 4, false⟩, raw 200 3000 none, .loop 2 2, raw 300 500 none])
      (setup (withChannel 5 (ofKind .level .idle))) = some (.ack (.segAppend 5 5 0 1 5 5 16379)) := by decide +kernel
theorem test_segAppend_clamped :
    answer (.segAppend 1 5 1 [raw 500 12001 none]) (setup (withChannel 5 (ofKind .level .idle))) =
      some (.ack (.segAppend 5 1 1 1 1 1 16383)) := by decide +kernel
/-- 3.5.2: A ends on tick 44 and B starts with the carry 90,180. -/
theorem test_angleSegmentEnd_carry :
    after (.angleSegmentEnd 0)
      (playing { hold 100 5 with basis := .angle } 6643780 [inSlot 1 { hold 200 6 with basis := .angle }] 44)
      (fun p => (p.channel 0).play.map Play.travel = some 90180) = true := by decide +kernel
/-- 3.5.4, 11,701: the loop returns with one pass fewer; with none left it exits and the channel starves (R60). -/
theorem test_segmentEnd_loop :
    after (.segmentEnd 31) (looping 1 false [])
      (fun p => (p.channel 31).play.map Play.place = some 0 && (p.channel 31).queue.length = 3) = true ∧
    after (.segmentEnd 31) (looping 0 false [])
      (fun p => (p.channel 31).state = .starved && (p.channel 31).queue = [] && p.log.recoverable.count = 1) = true := by
  decide +kernel
theorem test_loopBreak :
    answer (.loopBreak 1 31) (looping 1 false []) = some (.ack (.loopBreak 31 3 1 1)) := by decide +kernel
theorem test_channelRunStart :
    after (.channelRunStart 31) (starting .speed [inSlot 0 (hold 1 5)] [(0, .uncorrectable)] 100)
      (fun p => (p.channel 31).state = .faulted && (p.channel 31).queue = []) = true := by decide +kernel
theorem test_channelResume :
    after (.channelResume 31) (resuming [] 100)
      (fun p => (p.channel 31).state = .running && (p.channel 31).slipTotal = 50) = true := by decide +kernel

/-- 4.2.2: the target of a group armed on slot 3 with count 42 is 43. -/
theorem test_groupArm_target :
    after (.groupArm 1 1 (.onEvent 3 1)) (setup (watching 3 (.trigger 2 .rise) 42))
      (fun p => (p.group 1).armed = some (.onEvent 3 1, .event 3 43)) = true := by decide +kernel
/-- R81: NOW starts the group before the reply is formed. -/
theorem test_groupArm_now :
    after (.groupArm 1 1 .now) State.reset (fun p => (p.group 1).armed = none && (p.group 1).startCount = 1) = true := by
  decide +kernel
theorem test_groupCancel :
    after (.groupCancel 1 7) (setup fun _ => meeting) (fun p => (p.group 7).armed = none) = true := by decide +kernel
/-- 4.3.2: the change begun at 700,010 is accepted at 700,030 and not before. -/
theorem test_triggerAccept :
    let s (now : Nat) := setup fun p => watching 0 (.trigger 2 .rise) 41
      ((atTick now p).setTrigger 2 { filtered := false, width := 20, judged := 20, change := some 700010 })
    after (.triggerAccept 2) (s 700030) (fun p => (p.trigger 2).filtered && (p.slot 0).count = 42) = true ∧
    after (.triggerAccept 2) (s 700029) (fun p => !(p.trigger 2).filtered) = true := by decide +kernel
theorem test_conditionAtTime :
    after (.conditionAtTime (.group 7)) (setup fun _ => primed)
      (fun p => (p.channel 31).state = .running && (p.group 7).lastStart.map GroupStart.channels = some 1) = true := by
  decide +kernel
theorem test_slotConfig_busy :
    answer (.slotConfig 1 15 0 0 0) (setup fun _ => meeting) =
      some (.refuse { code := .busy, field := 0, position := 0, named := none }) := by decide +kernel
theorem test_triggerCfg :
    answer (.triggerCfg 1 7 (some 1001)) State.reset =
      some (.refuse { code := .badField, field := 2, position := 0, named := none }) := by decide +kernel

/-- 5.3.1: the down-crossing at 420 mV, and the flyback read as 60,000. -/
def injector (mv : Int) (high : Bool) : State :=
  setup fun p =>
    let p := (sampling p).setMonitor 3 { p.monitor 3 with
      highThreshold := 8000, lowThreshold := 2000, high := high, captureUp := true, captureDown := true }
    { p with pins := { p.pins with monitors := p.pins.monitors.set 3 mv } }
theorem test_monitorSample_down :
    after .monitorSample (injector 420 true)
      (fun p => !(p.monitor 3).high && p.capture.ring.map (fun r => (r.monitor, r.up)) = [(3, false)]) = true ∧
    after .monitorSample (injector 5100 true) (fun p => (p.monitor 3).high && p.capture.ring = []) = true := by decide +kernel
theorem test_monitorSample_held :
    after .monitorSample (injector 61234 false)
      (fun p => (p.monitor 3).high && (p.monitor 3).last = 60000 && p.capture.ring.length = 1) = true := by decide +kernel
theorem test_monitorRead :
    after (.monitorRead 1 3) (setup fun p => p.setMonitor 3 { p.monitor 3 with last := 13900, minimum := 420, maximum := 60000 })
      (fun p => (p.monitor 3).minimum = 13900 && (p.monitor 3).maximum = 13900) = true := by decide +kernel
theorem test_monitorConfig :
    answer (.monitorConfig 1 15 2000 2000) State.reset =
      some (.refuse { code := .badField, field := 2, position := 0, named := none }) := by decide +kernel
theorem test_captureFlush :
    after .captureFlush (setup fun _ => flushing 5000) (fun p => p.link.notices.any fun n => n.source = .capture) = true := by
  decide +kernel
/-- R95: the tick's one test raises the batch's cause, and marks a flush interval reached. -/
theorem test_ringTest :
    after (.microsecondTick []) (setup fun _ => ringOf 16 0 false) (fun p => p.queued .capture && !p.marks.flush) = true ∧
    after (.microsecondTick []) (setup fun _ => ringOf 15 4999 false) (fun p => !p.queued .capture && p.marks.flush) = true := by
  decide +kernel
theorem test_captureCfg :
    after (.captureCfg 1 (some 4) none 1 [⟨15, true, false⟩]) State.reset
      (fun p => p.capture.batch = 4 && (p.monitor 15).captureUp && !(p.monitor 15).captureDown) = true := by decide +kernel

/-- 6.7.1: a weld at the third attempt locks the matrix out; before it the step is tried again. -/
theorem test_stepReadback_weld :
    let p := inStep .opening false true false .ground true 100
    after (.stepReadback (.entry 40)) (setup fun _ => p)
      (fun q => q.matrix.state ≠ .lockout && (q.cell 12 .ground).noMake = 1) = true ∧
    after (.stepReadback (.entry 40))
      (setup fun _ => withEntry 40 (fun e => { e with seq := e.seq.map fun x => { x with step := { x.step with attempt := 3 } } }) p)
      (fun q => q.matrix.state = .lockout && (q.line 12).state = .isolated false && q.log.fatal.count = 1) = true := by
  decide +kernel
/-- 6.7.2: the restore ends LOCKOUT and its line is PASS. -/
theorem test_stepReadback_restore :
    after (.stepReadback .restore) (setup fun _ => restoring 100)
      (fun p => (p.line 63).state = .pass && p.matrix.state = .readying && p.matrix.restore = none) = true := by decide +kernel
/-- R106, R120: read OPEN, the cell is tried again one settle interval later; at the third attempt its line is BROKEN and
CELL_NO_MAKE logged; a line whose clear mark is gone stays ISOLATED with its series cell commanded OPEN. -/
theorem test_stepReadback_restore_wrong :
    after (.stepReadback .restore) (setup fun _ => restoringAt 2 true false)
      (fun p => (p.cell 63 .series).commanded && (p.cell 63 .series).noMake = 1 &&
        (p.matrix.restore.map fun r => (r.step.attempt, r.step.readAt)) = some (3, some (100 + p.matrix.settle))) = true ∧
    after (.stepReadback .restore) (setup fun _ => restoringAt 3 true false)
      (fun p => (p.line 63).state = .broken && p.matrix.state = .readying && p.log.recoverable.count = 1) = true ∧
    after (.stepReadback .restore) (setup fun _ => restoringAt 1 false true)
      (fun p => !(p.cell 63 .series).commanded && p.matrix.restore = none) = true := by decide +kernel
theorem test_fastReleaseReadback :
    after (.fastReleaseReadback 40)
      (setup fun _ => inStep .opening false false true .ground true 100)
      (fun p => p.matrix.state = .lockout && p.log.fatal.count = 1) = true := by decide +kernel
theorem test_isolationReadback :
    after (.isolationReadback 63) (setup fun _ => isolating 100) (fun p => (p.line 63).isolation = none) = true ∧
    -- R104, R119: a restored line with a cell still closed is isolated anew
    after (.isolationReadback 63)
      (setup fun _ => withMatrix (fun m => { m with state := .ready }) (stuckCell .ground (lineIs .pass (isolating 100))))
      (fun p => p.matrix.state = .lockout && (p.line 63).state = .isolated false && (p.line 63).isolation.isSome) = true := by
  decide +kernel
theorem test_heldCloseGiven :
    after (.heldCloseGiven 63) (setup fun _ => holdingClose 1100) (fun p => (p.cell 63 .ground).commanded) = true ∧
    after (.heldCloseGiven 63) (setup fun _ => holdingClose 1099) (fun p => !(p.cell 63 .ground).commanded) = true := by
  decide +kernel
theorem test_chatterToggle :
    after (.chatterToggle 22) (setup fun _ => chattering 1000)
      (fun p => (p.entry 22).chatter = some { on := true, nextAt := none, made := 2 } && (p.cell 7 .ground).commanded) = true := by
  decide +kernel
/-- 6.6.1, R117: the first pass ends with line 63. -/
theorem test_patrolCheck_pass :
    after .patrolCheck (setup fun _ => patrolAt 63 64000)
      (fun p => p.matrix.firstPass && p.matrix.state = .ready && p.matrix.patrolPosition = 0 && p.matrix.patrolNext = 65000) =
      true := by decide +kernel
/-- R118: a fault cell closed on a PASS line is a weld; on an ISOLATED line it clears the clear mark. -/
theorem test_patrolCheck_weld :
    after .patrolCheck (setup fun _ => stuckCell .bus0 (patrolAt 63 64000))
      (fun p => p.matrix.state = .lockout && (p.line 63).state = .isolated false && p.log.fatal.count = 1) = true ∧
    after .patrolCheck (setup fun _ => stuckCell .bus0 (lineIs (.isolated true) (patrolAt 63 64000)))
      (fun p => (p.line 63).state = .isolated false && p.log.fatal.count = 0) = true := by decide +kernel
theorem test_patrolCheck_broken :
    after .patrolCheck
      (setup fun _ => { patrolAt 0 1000 with pins := { (patrolAt 0 1000).pins with
        contacts := (patrolAt 0 1000).pins.contacts.set 0 (List.replicate 7 false) } })
      (fun p => (p.line 0).state = .broken && p.log.recoverable.count = 1) = true := by decide +kernel
theorem test_matrixClear_stillWelded :
    answer (.matrixClear 1) (setup (isolated false)) =
      some (.refuse { code := .stillWelded, field := 0, position := 0, named := some 63 }) := by decide +kernel
theorem test_cellRestore_held :
    answer (.cellRestore 1 63 7) (setup (withLine 63 fun x => { x with state := .held 0 })) =
      some (.refuse { code := .busy, field := 0, position := 0, named := none }) := by decide +kernel
theorem test_patrolCfg_worn :
    after (.patrolCfg 1 none none (some 1)) (setup (withLine 0 fun x => x.setCell .bus3 { x.cell .bus3 with noMake := 1 }))
      (fun p => (p.cell 0 .bus3).worn && !(p.cell 0 .bus2).worn) = true := by decide +kernel

/-- 7.5.1: the reading of 4,000,600 ends the run; the trip at 4,001,610 names sense 7. -/
theorem test_currentReading_ends_run :
    after .currentReading
      (setup fun _ => let p := (shorted [(7, 4000110)] 4000600).part;
        { p with pins := { p.pins with lineCurrents := p.pins.lineCurrents.set 7 2950 } })
      (fun p => (p.entry 22).runs = []) = true ∧
    after .currentReading
      (setup fun _ => let p := (shorted [] 4000610).part;
        { p with pins := { p.pins with lineCurrents := p.pins.lineCurrents.set 7 3200 } })
      (fun p => (p.entry 22).runs = [(7, 4000610)]) = true := by decide +kernel
theorem test_trip :
    after (.trip 22) (shorted [(7, 4000610)] 4001610)
      (fun p => (p.entry 22).state = .releasing && (p.entry 22).endCause = some .tripped && !(p.cell 7 .ground).commanded &&
        p.log.recoverable.first.map Logging.detail = some 7) = true ∧
    after (.trip 22) (shorted [(7, 4000610)] 4001600) (fun p => (p.entry 22).state = .active) = true := by decide +kernel
theorem test_entryDefine :
    after (.entryDefine 1 (entryOf 127 (.electrical widest))) State.reset
      (fun p => (p.entry 127).state = .loaded &&
        (p.entry 127).electrical?.map (fun d => (d.kind, d.bus, d.isolate)) = some (.shortBat, none, true)) = true ∧
    answer (.entryDefine 1 (entryOf 127 (.signal (offsetOf 1)))) State.reset =
      some (.refuse { code := .notConfigured, field := 3, position := 0, named := some 31 }) := by decide +kernel
theorem test_entryArm :
    after (.entryArm 1 22) (loadedEntry .now (atTick 1000))
      (fun p => (p.entry 22).state = .inserting && (p.line 7).state = .held 22 && (p.cell 7 .ground).commanded &&
        p.claims.budget = 1) = true ∧
    answer (.entryArm 1 22) (loadedEntry .now lockedOut) =
      some (.refuse { code := .locked, field := 0, position := 0, named := none }) := by decide +kernel
theorem test_entryDisarm :
    after (.entryDisarm 1 127) (setup fun _ => dueEntry 0) (fun p => (p.entry 127).state = .loaded) = true := by decide +kernel
theorem test_entryDelete :
    answer (.entryDelete 1 22) (shorted [] 0) =
      some (.refuse { code := .busy, field := 0, position := 0, named := none }) := by decide +kernel
/-- 7.4.2: a deadline of 6,002,000 is missed on tick 6,002,001. -/
theorem test_entryMissed :
    after (.entryMissed 127) (setup fun _ => blockedUntil 6002000 6002001)
      (fun p => (p.entry 127).state = .done && p.log.recoverable.count = 1) = true ∧
    after (.entryMissed 127) (setup fun _ => blockedUntil 6002000 6002000) (fun p => (p.entry 127).state = .blocked) = true := by
  decide +kernel
theorem test_durations :
    after (.durationTimeEnd 127) (setup fun _ => lasting (.time 50) 0 60) (fun p => (p.entry 127).state = .done) = true ∧
    after (.durationAngleEnd 127) (setup fun _ => lasting (.angle 1) 65536 0) (fun p => (p.entry 127).state = .done) = true := by
  decide +kernel

/-- 8.3.1: a repeated value leaves the deadline; the expiry at 10,130,000 enters SAFE. -/
theorem test_keepalive_repeated :
    after (.keepalive 1 7) (guarded 50 2000) (fun p => p.guard.deadline = 51000) = true ∧
    after (.keepalive 1 8) (guarded 50 2000) (fun p => p.guard.deadline = 52000) = true := by decide +kernel
theorem test_guardExpiry :
    after .guardExpiry (guarded 50 51000)
      (fun p => p.safe = some { cause := .expiry, time := 51000 } && p.guard.deadline = 101000 && p.guard.expiryCount = 1) =
      true := by decide +kernel
theorem test_guardSet :
    after (.guardSet 1 (some 50) none) (setup (atTick 10000000))
      (fun p => p.guard.period = some 50 && p.guard.deadline = 10050000) = true := by decide +kernel
theorem test_safeEnter :
    after (.safeEnter 1) (playing (hold 10 5) 0 [] 10)
      (fun p => p.safe.isSome && (p.channel 0).state = .held && (p.channel 0).queue = []) = true := by decide +kernel
theorem test_safeLeave :
    after (.safeLeave 1) (setup fun p => withChannel 0 (ofKind .level .held) (inSafe p))
      (fun p => p.safe = none && (p.channel 0).state = .idle) = true := by decide +kernel

/-! The link. -/

theorem test_frameReceived :
    after (.frameReceived ((frameBytes ⟨0x01#8, 1#8, []⟩).getD 6 0#8)) (receiving statusFrame 0 10)
      (fun p => p.link.inbound = [⟨0x01#8, 1#8, []⟩] && p.link.counters.framesReceived = 1) = true := by decide +kernel
theorem test_linkFraming :
    after .linkFraming (receiving [0xD5#8, 0x00#8] 0 10)
      (fun p => p.log.corrected.first.map Logging.detail = some 2 && p.link.receiver = .hunt) = true := by decide +kernel
theorem test_frameLengthError :
    after (.frameLengthError 0x01#8) (receiving [0xD5#8, 0x04#8] 0 10)
      (fun p => p.log.corrected.first.map Logging.detail = some 3 && p.link.counters.framingErrors = 1) = true := by decide +kernel
theorem test_linkTruncated :
    after .linkTruncated (receiving [0xD5#8] 0 2000)
      (fun p => p.link.counters.truncations = 1 && p.log.corrected.count = 1) = true := by decide +kernel
/-- 10.1.1: an ACK's frame holds the sync, and the kind 80 hex and its tag behind two length bytes; a notice's the kind 82 hex,
the tag 0 and its header. -/
theorem test_transmitStart :
    after .transmitStart (fullReplies 1)
      (fun p => p.link.transmitter.any fun t => t.characters.getD 0 0 = 0xD5#8 && t.characters.getD 3 0 = 0x80#8 &&
        t.characters.getD 4 0 = 1#8) = true ∧
    after .transmitStart (setup (withLink fun l => { l with notices := [⟨.entry 9, 3, 0⟩] }))
      (fun p => p.link.transmitter.any fun t => t.characters.getD 3 0 = 0x82#8 && t.characters.getD 4 0 = 0#8 &&
        t.characters.getD 5 0 = 4#8 && t.characters.getD 6 0 = 9#8 && t.characters.getD 7 0 = 3#8) = true := by decide +kernel
theorem test_transmitEnd_reset :
    after .transmitEnd (sending (.reply ⟨1, .ack (.linkReset 0)⟩) 23)
      (fun p => p.link.resetCause = .link && p.clock.rigTime = 0) = true := by decide +kernel
theorem test_errlogClear :
    after (.errlogClear 1 1) (setup fun p => p.logError .trip (.entry 0) 0) (fun p => p.log.recoverable.count = 0) = true := by
  decide +kernel
theorem test_noticeLevel :
    after (.noticeLevel 1 0 0 7) State.reset (fun p => p.link.levels.part = 7 && p.link.notices = []) = true := by decide +kernel
theorem test_badKind :
    answer (.badKind ⟨0x3D#8, 9#8, []⟩) (queued ⟨0x3D#8, 9#8, []⟩) =
      some (.refuse { code := .badKind, field := 0, position := 0, named := none }) := by decide +kernel
theorem test_supplyDip :
    after .supplyDip (guarded 50 2000) (fun p => p.guard.period = none && p.link.resetCause = .supplyDip) = true := by
  decide +kernel
theorem test_linkReset :
    after (.linkReset 1) State.reset (fun p => p.link.resetPending) = true := by decide +kernel

end Sys2Proof.Tests
end

section
/-! SUPPORT. What a block's verdict makes of the state, and the engine's requests settled by it (R6, R10, R11, R16, R17, R19). -/

namespace Sys2Proof.Machine

open Sys2Proof

/-! ### A verdict as the state after it -/

/-- The state after a request judged on the part `p`: a refusal leaves `p`, an acceptance leaves its own part. -/
def Verdict.after (s : State) (p : Part) (tag : Nat) : Verdict → State
  | .refuse r => s.replied p tag (.refuse r)
  | .ack b q => s.replied q tag (.ack b)

/-- A taken request leaves what its block's verdict leaves. -/
theorem request_verdict {c : Instr} {s : State} (h : s.part.takes c = true) {tag : Nat} (ht : tag ≠ 0)
    (act : Part → Verdict) :
    request c tag act s = .next ((act (s.part.taken c)).after s (s.part.taken c) tag) := by
  cases hv : act (s.part.taken c) with
  | refuse r => exact request_refused h ht hv
  | ack b q => exact request_acked h ht hv

@[simp] theorem after_ack (s : State) (p q : Part) (tag : Nat) (b : Body) :
    (Verdict.ack b q).after s p tag = s.replied q tag (.ack b) := rfl

/-- A failing check refuses; a check that holds leaves the verdict to the rest. -/
@[simp] theorem after_checked_cons (s : State) (p : Part) (tag : Nat) (b : Bool) (r : Refused) (cs : List (Bool × Refused))
    (a : Verdict) :
    (checked ((b, r) :: cs) a).after s p tag =
      if b = true then s.replied p tag (.refuse r) else (checked cs a).after s p tag := by
  cases b <;> rfl

theorem outside_eq_true (lo hi n : Nat) : outside lo hi n = true ↔ n < lo ∨ hi < n := by
  simp [outside]

/-! ### The engine written back -/

theorem setEngine_of_mode_eq {e : Engine} {p : Part} (h : e.mode = p.engine.mode) :
    p.setEngine e = if e.motion = p.engine.motion then { p with engine := e } else ({ p with engine := e }).raise .engine := by
  simp [Part.setEngine, h]

theorem setEngine_of_mode_ne {e : Engine} {p : Part} (h : e.mode ≠ p.engine.mode) :
    p.setEngine e = ({ p with engine := e }).raise .engine := by
  simp [Part.setEngine, h]

/-! ### The requests -/

/-- Settles O16. -/
theorem engineRead : Obligations.EngineRead := by
  intro tag s ht htag
  exact request_acked ht htag rfl

/-- ENGINE_SPEED's part of O17. -/
theorem speedSet : Claims.SpeedSet := by
  intro tag target rate s ht htag p no goal m q
  have hset : p.setEngine (p.engine.setSpeed goal rate) = if m = p.engine.motion then q else q.raise .engine :=
    setEngine_of_mode_eq rfl
  refine (request_verdict ht htag _).trans ?_
  simp only [after_checked_cons, checked_nil, after_ack, outside_eq_true, decide_eq_true_eq, Nat.lt_one_iff]
  exact congrArg Host.Outcome.next (by rw [← hset]; rfl)

theorem parseMode_isNone (mode : Nat) : (parseMode mode).isNone = true ↔ 2 < mode := by
  match mode with
  | 0 | 1 | 2 => simp [parseMode]
  | n + 3 => simp [parseMode]

/-- R16's effect for each mode, as ENGINE_MODE's claim spells it. -/
theorem engineMode_fixed (channel : Nat) (p : Part) :
    p.engineMode .fixed channel =
      if p.engine.mode = .fixed then p
      else ({ p with engine := { p.engine with
        mode := .fixed, trackChannel := none, internal := 0, target := 0, speed := 0, increment := 0
        motion := .stopped } }).raise .engine := by
  unfold Part.engineMode
  split
  · rfl
  · exact setEngine_of_mode_ne (Ne.symm ‹_›)

theorem engineMode_track (channel : Nat) (p : Part) :
    p.engineMode .track channel =
      if p.engine.mode = .track then { p with engine := { p.engine with trackChannel := some channel } }
      else ({ p with engine := { p.engine with
        mode := .track, trackChannel := some channel, internal := p.engine.speed * 1000
        target := p.engine.speed } }).raise .engine := by
  unfold Part.engineMode
  split
  · rfl
  · exact setEngine_of_mode_ne (Ne.symm ‹_›)

theorem engineMode_follow (channel : Nat) (p : Part) :
    p.engineMode .follow channel =
      if p.engine.mode = .follow then p
      else ({ p with engine := { p.engine with
        mode := .follow, trackChannel := none, internal := p.engine.speed * 1000, target := p.engine.speed, increment := 0
        windowNet := 0, windowCounts := 0, sinceIndex := 0, missingMark := false } }).raise .engine := by
  unfold Part.engineMode
  split
  · rfl
  · exact setEngine_of_mode_ne (Ne.symm ‹_›)

/-- ENGINE_MODE's part of O17. -/
theorem modeSet : Claims.ModeSet := by
  intro tag mode channel s ht htag
  rw [show exec (.engineMode tag mode channel) s = _ from request_verdict ht htag _]
  generalize s.part.taken (.engineMode tag mode channel) = p
  clear ht
  intro p e no entered
  refine congrArg Host.Outcome.next ?_
  simp only [Part.engineModeChecks, after_checked_cons, checked_nil, after_ack, parseMode_isNone, Bool.and_eq_true,
    outside_eq_true, decide_eq_true_eq, Nat.not_lt_zero, false_or]
  match mode with
  | 0 => simp [parseMode, engineMode_fixed, Part.inSafe, refusal, p, e, no, entered]
  | 1 => simp [parseMode, engineMode_track, Part.inSafe, Channel.kind, refusal, badField, p, e, no, entered]
  | 2 => simp [parseMode, engineMode_follow, Part.inSafe, refusal, p, e, no, entered]
  | n + 3 => simp [badField, p, no]

/-- Settles O17: ENGINE_SPEED and ENGINE_MODE, each by its checks and its effect. -/
theorem speedAndModeSet : Obligations.SpeedAndModeSet := ⟨speedSet, modeSet⟩

/-- Settles O18. -/
theorem angleSet : Obligations.AngleSet := by
  intro tag angle cycle s ht htag hc p no
  have hwrap : wrap32 cycle = cycle := Nat.mod_eq_of_lt hc
  refine (request_verdict ht htag _).trans (congrArg Host.Outcome.next ?_)
  simp only [after_checked_cons, checked_nil, after_ack, outside_eq_true, decide_eq_true_eq, Nat.not_lt_zero, false_or,
    Part.setAngle, hwrap]
  rfl

/-- Division rounded half up, in one division. -/
theorem roundHalfUp_eq (n d : Nat) : roundHalfUp n d = (n + d / 2) / d := by
  have hhalf : (2 * n + d) / 2 = n + d / 2 := by omega
  rw [roundHalfUp, ← Nat.div_div_eq_div_mul, hhalf]

/-- Settles O19. -/
theorem followConfigured : Obligations.FollowConfigured := by
  intro tag counts offset tolerance s ht htag p no
  refine (request_verdict ht htag _).trans (congrArg Host.Outcome.next ?_)
  simp only [after_checked_cons, checked_nil, after_ack, outside_eq_true, decide_eq_true_eq, Nat.not_lt_zero, false_or,
    Engine.setFollow, followStep, roundHalfUp_eq]
  rfl

end Sys2Proof.Machine
end

section
/-! SUPPORT. The engine's motions, what an angle's passing is, the millisecond update, and the encoder (R2 to R5, R9 to R15). -/

namespace Sys2Proof.Machine

open Sys2Proof

/-! ### The millisecond update (R5, R9, R15) -/

/-- The FIXED ramp below or at the goal rises by a step, not past it. -/
theorem rampStep_of_le {internal target rate : Nat} (h : internal ≤ target * 1000) :
    rampStep internal target rate = min (internal + rate * 4) (target * 1000) := by
  simp only [rampStep, if_pos h]
  split <;> omega

/-- The FIXED ramp above the goal falls by a step, not past it. -/
theorem rampStep_of_gt {internal target rate : Nat} (h : target * 1000 < internal) :
    rampStep internal target rate = max (internal - rate * 4) (target * 1000) := by
  simp only [rampStep, if_neg (Nat.not_le.mpr h)]
  split <;> omega

/-- No update changes the mode. -/
theorem engineUpdate_mode (p : Part) : p.engineUpdate.mode = p.engine.mode := by
  cases hm : p.engine.mode <;>
    simp [Part.engineUpdate, hm, Engine.fixedUpdate, Engine.trackUpdate, Engine.followUpdate, Engine.takeSpeed,
      Engine.withSpeed]

/-- On a tick of the cadence the mark is cleared and the engine written back. -/
theorem exec_millisecondUpdate {s : State} (h : s.part.marks.milli = true) :
    exec .millisecondUpdate s =
      .next (s.withPart (({ s.part with marks := { s.part.marks with milli := false } }).setEngine s.part.engineUpdate)) := by
  change acted s (if s.part.marks.milli then _ else _) = _
  rw [if_pos h]
  rfl

/-- The value TRACK takes, by its two cases (R9). -/
theorem trackSpeed_of {p : Part} {v : Nat}
    (hshown : ∀ c, p.engine.trackChannel = some c → (p.channel c).state ≠ .off →
      (p.channel c).config.map ChConfig.kind = some .speed → v = (p.channel c).output)
    (hnone : (∀ c, p.engine.trackChannel = some c → (p.channel c).state = .off ∨
      (p.channel c).config.map ChConfig.kind ≠ some .speed) → v = 0) : p.trackSpeed = v := by
  unfold Part.trackSpeed Channel.kind
  split
  · rename_i c hc
    split
    · rename_i hk
      simp only [Bool.and_eq_true, decide_eq_true_eq] at hk
      exact (hshown c hc hk.1 hk.2).symm
    · rename_i hk
      refine (hnone fun k hck => ?_).symm
      obtain rfl : c = k := by rw [hc] at hck; exact Option.some.inj hck
      by_contra hcon
      simp only [Bool.and_eq_true, decide_eq_true_eq] at hk
      exact hk (by simpa [not_or] using hcon)
  · rename_i hc
    exact (hnone fun k hck => by rw [hc] at hck; cases hck).symm

/-- The estimate of a window (R15), rounded half up and held at 40,000. -/
theorem followSpeed_eq (net : Int) (counts : Nat) :
    followSpeed net counts = min ((2 * (net.natAbs * 240000) + counts) / (2 * counts)) 40000 := rfl

/-- Settles O20: the update of each mode, written back by `setEngine`. -/
theorem millisecondUpdated : Obligations.MillisecondUpdated := by
  intro s hmark p e inc updated
  have hwritten (e' : Engine) (h : p.engineUpdate = e') : exec .millisecondUpdate s = updated e' := by
    have hmode : e'.mode = e.mode := h ▸ engineUpdate_mode p
    rw [exec_millisecondUpdate hmark, h]
    exact congrArg (fun q => Host.Outcome.next (s.withPart q))
      (setEngine_of_mode_eq (p := { p with marks := { p.marks with milli := false } }) hmode)
  refine ⟨fun hmode x hle hgt => hwritten _ ?_, fun hmode v hshown hnone => hwritten _ ?_, fun hmode => hwritten _ ?_⟩
  · have hx : rampStep e.internal e.target e.rampRate = x := by
      rcases Nat.lt_or_ge (e.target * 1000) e.internal with h | h
      · rw [hgt h, rampStep_of_gt h]
      · rw [hle h, rampStep_of_le h]
    simp [Part.engineUpdate, hmode, Engine.fixedUpdate, Engine.withSpeed, p, e, hx, inc, incrementOf, fixedMotion]
  · simp [Part.engineUpdate, hmode, Engine.trackUpdate, Engine.takeSpeed, Engine.withSpeed, trackSpeed_of hshown hnone,
      p, e, inc, incrementOf, trackMotion]
  · simp [Part.engineUpdate, hmode, Engine.followUpdate, Engine.takeSpeed, Engine.withSpeed, followSpeed_eq, p, e,
      followMotion]

end Sys2Proof.Machine
end

section
/-! SUPPORT. The engine's motions: what they pass (R3), and the encoder's counts and index (R2, R10, R12 to R14). -/

namespace Sys2Proof.Machine

open Sys2Proof

/-! ### Motions of the accumulator (R2, R3) -/

/-- A motion forward that stays below the top. -/
theorem move_forward_of_lt {e : Engine} {n : Nat} (h : e.acc + n < 3019898880) :
    e.move true n =
      ({ e with acc := e.acc + n },
        { forward := true, amount := n, angleBefore := e.acc / 65536, angleAfter := (e.acc + n) / 65536
          cycleBefore := e.cycle, cycleAfter := e.cycle }) := by
  have hnot : ¬3019898880 ≤ e.acc + n := Nat.not_le.mpr h
  simp [Engine.move, Config.cycleParts, hnot, Engine.angle, Config.unitParts]

/-- A motion forward past the top. -/
theorem move_forward_of_le {e : Engine} {n : Nat} (h : 3019898880 ≤ e.acc + n) :
    e.move true n =
      ({ e with acc := e.acc + n - 3019898880, cycle := (e.cycle + 1) % 4294967296 },
        { forward := true, amount := n, angleBefore := e.acc / 65536, angleAfter := (e.acc + n - 3019898880) / 65536
          cycleBefore := e.cycle, cycleAfter := (e.cycle + 1) % 4294967296 }) := by
  simp [Engine.move, Config.cycleParts, h, Engine.angle, Config.unitParts, wrap32, Config.mod32]

/-- A motion backward that stays at 0 or above. -/
theorem move_backward_of_le {e : Engine} {n : Nat} (h : n ≤ e.acc) :
    e.move false n =
      ({ e with acc := e.acc - n },
        { forward := false, amount := n, angleBefore := e.acc / 65536, angleAfter := (e.acc - n) / 65536
          cycleBefore := e.cycle, cycleAfter := e.cycle }) := by
  simp [Engine.move, h, Engine.angle, Config.unitParts]

/-- A motion backward below 0. -/
theorem move_backward_of_lt {e : Engine} {n : Nat} (h : e.acc < n) :
    e.move false n =
      ({ e with acc := e.acc + 3019898880 - n, cycle := (e.cycle + 4294967295) % 4294967296 },
        { forward := false, amount := n, angleBefore := e.acc / 65536, angleAfter := (e.acc + 3019898880 - n) / 65536
          cycleBefore := e.cycle, cycleAfter := (e.cycle + 4294967295) % 4294967296 }) := by
  have hcycle : wrap32 (e.cycle + Config.mod32 - 1) = (e.cycle + 4294967295) % 4294967296 :=
    congrArg (· % 4294967296) (Nat.add_sub_assoc (by decide) e.cycle)
  simp only [Engine.move, if_neg (Nat.not_le.mpr h), Bool.false_eq_true, if_false, hcycle]
  rfl

/-- A motion backward passes nothing. -/
theorem passes_of_backward {m : Move} (h : m.forward = false) (a : Nat) : m.passes a = false := by
  simp [Move.passes, h]

theorem passes_of_forward {m : Move} (h : m.forward = true) (a : Nat) :
    m.passes a = true ↔
      (if m.angleBefore ≤ m.angleAfter then m.angleBefore < a ∧ a ≤ m.angleAfter
        else (m.angleBefore < a ∧ a < 46080) ∨ a ≤ m.angleAfter) := by
  simp only [Move.passes, h, Bool.true_and]
  split
  · simp only [Bool.and_eq_true, decide_eq_true_eq]
  · simp only [Bool.and_eq_true, Bool.or_eq_true, decide_eq_true_eq]; rfl

/-- Settles O21: a motion below the top and one past it, each compared with the distances round the cycle. -/
theorem passedAngles : Obligations.PassedAngles := by
  intro e amount a hacc hamount ha before after
  refine ⟨?_, passes_of_backward rfl a, ?_⟩
  · rcases Nat.lt_or_ge (e.acc + amount) 3019898880 with h | h
    · rw [move_forward_of_lt h, passes_of_forward rfl]
      simp only [before, after]
      split <;> omega
    · rw [move_forward_of_le h, passes_of_forward rfl]
      simp only [before, after]
      split <;> omega
  · rcases Nat.lt_or_ge (e.acc + amount) 3019898880 with h | h
    · rw [move_forward_of_lt h, passes_of_forward rfl]
      simp only [Move.passCycle, before]
      split <;> split <;> omega
    · rw [move_forward_of_le h, passes_of_forward rfl]
      simp only [Move.passCycle, before]
      split <;> split <;> omega

end Sys2Proof.Machine
end

section
/-! SUPPORT. What no work of a cascade touches: one normal form of the part, and one lemma per operation that keeps it. -/

namespace Sys2Proof.Machine

open Sys2Proof

/-! ### The part's outer side -/

/-- The part with everything blanked that a piece of work other than a capture may write. What stands is what such work leaves
alone: time, pins, engine, trigger inputs, monitors, ring, guard, part state, the matrix's settings, and of the link
all but the notices of other sources than CAPTURE. -/
def Part.outer (p : Part) : Part :=
  { p with
    channels := [], damage := [], slots := [], groups := [], entries := [], claims := Claims.atReset, log := ErrorLog.atReset
    matrix := { p.matrix with lines := [], terminations := [] }
    link := { p.link with notices := p.link.notices.filter fun n => n.source = .capture } }

section
variable {p q : Part} (h : q.outer = p.outer)
include h
theorem clock_of_outer : q.clock = p.clock := (congrArg Part.clock h :)
theorem marks_of_outer : q.marks = p.marks := (congrArg Part.marks h :)
theorem pins_of_outer : q.pins = p.pins := (congrArg Part.pins h :)
theorem engine_of_outer : q.engine = p.engine := (congrArg Part.engine h :)
theorem patterns_of_outer : q.patterns = p.patterns := (congrArg Part.patterns h :)
theorem triggers_of_outer : q.triggers = p.triggers := (congrArg Part.triggers h :)
theorem monitors_of_outer : q.monitors = p.monitors := (congrArg Part.monitors h :)
theorem capture_of_outer : q.capture = p.capture := (congrArg Part.capture h :)
theorem guard_of_outer : q.guard = p.guard := (congrArg Part.guard h :)
theorem safe_of_outer : q.safe = p.safe := (congrArg Part.safe h :)
theorem levels_of_outer : q.link.levels = p.link.levels := (congrArg (fun v => v.link.levels) h :)
/-- The CAPTURE notices queued are the same. -/
theorem captureNotices_of_outer :
    (q.link.notices.filter fun n => n.source = .capture) = p.link.notices.filter fun n => n.source = .capture :=
  (congrArg (fun v => v.link.notices) h :)
end

/-! ### State operations -/

@[simp] theorem setChannel_outer (c : Nat) (x : Channel) (p : Part) : (p.setChannel c x).outer = p.outer := rfl
@[simp] theorem setEntry_outer (e : Nat) (x : Entry) (p : Part) : (p.setEntry e x).outer = p.outer := rfl
@[simp] theorem setSlot_outer (n : Nat) (x : EventSlot) (p : Part) : (p.setSlot n x).outer = p.outer := rfl
@[simp] theorem setGroup_outer (g : Nat) (x : Group) (p : Part) : (p.setGroup g x).outer = p.outer := rfl
@[simp] theorem setLine_outer (l : Nat) (x : Line) (p : Part) : (p.setLine l x).outer = p.outer := rfl
@[simp] theorem setCell_outer (l : Nat) (c : CellId) (x : Cell) (p : Part) : (p.setCell l c x).outer = p.outer := rfl
@[simp] theorem putChannel_outer (c : Nat) (x : Channel) (p : Part) : (p.putChannel c x).outer = p.outer := rfl
@[simp] theorem mapChannels_outer (f : Nat → Channel → Channel) (p : Part) : (p.mapChannels f).outer = p.outer := rfl
@[simp] theorem claims_outer (cl : Claims) (p : Part) : ({ p with claims := cl } : Part).outer = p.outer := rfl
@[simp] theorem damage_outer (ds : List (Nat × SlotError)) (p : Part) : ({ p with damage := ds } : Part).outer = p.outer := rfl
@[simp] theorem log_outer (l : ErrorLog) (p : Part) : ({ p with log := l } : Part).outer = p.outer := rfl

/-- What every step of a fold keeps, the fold keeps. -/
theorem foldl_keeps {α β : Type} (read : Part → β) {f : Part → α → Part} (h : ∀ v x, read (f v x) = read v) (xs : List α)
    (p : Part) : read (xs.foldl f p) = read p := by
  induction xs generalizing p with
  | nil => rfl
  | cons x xs ih => exact (ih _).trans (h p x)

/-- One more cause of another source leaves the CAPTURE notices alone. -/
theorem addCause_filter_capture {src : NoticeSource} (h : src ≠ .capture) (ns : List QNotice) :
    ((addCause src ns).filter fun n => n.source = .capture) = ns.filter fun n => n.source = .capture := by
  induction ns with
  | nil => rfl
  | cons n ns ih =>
    rw [addCause] at ih
    by_cases hs : n.source = src
    · have hn : n.source ≠ .capture := hs ▸ h
      simpa [addCause, hs, h] using ih
    · simp [addCause, hs, List.filter_cons, ih]

theorem raise_outer {src : NoticeSource} (h : src ≠ .capture) (p : Part) : (p.raise src).outer = p.outer := by
  unfold Part.raise
  split
  · rfl
  · split
    · simp [Part.outer, addCause_filter_capture h]
    · simp [Part.outer, h]

@[simp] theorem raise_entry_outer (e : Nat) (p : Part) : (p.raise (.entry e)).outer = p.outer := raise_outer (by simp) p
@[simp] theorem raise_channel_outer (c : Nat) (p : Part) : (p.raise (.channel c)).outer = p.outer := raise_outer (by simp) p
@[simp] theorem raise_group_outer (g : Nat) (p : Part) : (p.raise (.group g)).outer = p.outer := raise_outer (by simp) p
@[simp] theorem raise_matrix_outer (p : Part) : (p.raise .matrix).outer = p.outer := raise_outer (by simp) p
@[simp] theorem raise_cls_outer (c : ErrClass) (p : Part) : (p.raise (.cls c)).outer = p.outer := raise_outer (by simp) p

@[simp] theorem logError_outer (code : ErrCode) (sub : Subject) (d : Int) (p : Part) :
    (p.logError code sub d).outer = p.outer := by
  simp [Part.logError]

/-! ### Channels and the store -/

@[simp] theorem enterState_outer (c : Nat) (st : ChState) (ch : Channel) (p : Part) :
    (p.enterState c st ch).outer = p.outer := by
  unfold Part.enterState
  simp only
  split <;> simp

@[simp] theorem renderWheel_outer (c : Nat) (p : Part) : (p.renderWheel c).outer = p.outer := rfl

@[simp] theorem renderAgain_outer (c : Nat) (p : Part) : (p.renderAgain c).outer = p.outer := by
  unfold Part.renderAgain
  simp only
  split <;> simp

@[simp] theorem starve_outer (c marker : Nat) (p : Part) : (p.starve c marker).outer = p.outer := by
  simp [Part.starve]

@[simp] theorem faultChannel_outer (c slot : Nat) (p : Part) : (p.faultChannel c slot).outer = p.outer := by
  simp [Part.faultChannel]

@[simp] theorem readSlot_outer (c slot : Nat) (p : Part) : (p.readSlot c slot).2.outer = p.outer := by
  unfold Part.readSlot
  split <;> simp

@[simp] theorem lowWater_outer (c before : Nat) (p : Part) : (p.lowWater c before).outer = p.outer := by
  unfold Part.lowWater
  simp only
  split <;> simp

theorem startSegment_outer (c place : Nat) (r : Segment) (carry : Option Nat) (before : Nat) (p : Part) :
    (p.startSegment c place r carry before).1.outer = p.outer := rfl

theorem arrive_outer (c place : Nat) (carry : Option Nat) (before marker : Nat) (p : Part) :
    (p.arrive c place carry before marker).1.outer = p.outer := by
  unfold Part.arrive
  split
  · simp
  · rename_i q _
    have hread := readSlot_outer c q.slot p
    split
    · rename_i p' hp
      rw [hp] at hread
      simpa using hread
    · rename_i p' hp
      rw [hp] at hread
      split
      · exact (startSegment_outer ..).trans hread
      · simp only
        split <;> simpa using hread

theorem endSegment_outer (c : Nat) (p : Part) : (p.endSegment c).1.outer = p.outer := by
  unfold Part.endSegment
  simp only
  split
  · split
    · split <;> simp
    · rfl
  · rfl

theorem startMember_outer (c : Nat) (p : Part) : (p.startMember c).1.outer = p.outer := by
  unfold Part.startMember
  simp only
  split
  · split <;> simp
  · rfl

theorem resume_outer (c : Nat) (p : Part) : (p.resume c).1.outer = p.outer := by
  unfold Part.resume
  simp only
  split
  · split
    · split <;> simp
    · rfl
  · rfl

theorem runStart_outer (c : Nat) (p : Part) : (p.runStart c).1.outer = p.outer := by
  unfold Part.runStart
  simp only
  split
  · split
    · split <;> simp
    · rfl
  · rfl

theorem playDue_outer (c : Nat) (p : Part) : (p.playDue c).1.outer = p.outer := by
  unfold Part.playDue
  split
  · split
    · exact runStart_outer c p
    · exact endSegment_outer c p
  · exact resume_outer c p
  · rfl

/-! ### The matrix -/

@[simp] theorem setLineState_outer (l : Nat) (st : LineState) (p : Part) : (p.setLineState l st).outer = p.outer := by
  unfold Part.setLineState
  simp only
  split
  · simp
  · simp
  · split <;> simp

@[simp] theorem commandOpen_outer (l : Nat) (c : CellId) (p : Part) : (p.commandOpen l c).outer = p.outer := rfl
@[simp] theorem commandClosed_outer (l : Nat) (c : CellId) (p : Part) : (p.commandClosed l c).outer = p.outer := rfl

@[simp] theorem commandClose_outer (l : Nat) (c : CellId) (p : Part) : (p.commandClose l c).outer = p.outer := by
  unfold Part.commandClose
  split
  · rfl
  · split
    · rfl
    · split <;> rfl

@[simp] theorem giveCommands_outer (closing : Bool) (ts : List (Nat × CellId)) (p : Part) :
    (p.giveCommands closing ts).outer = p.outer :=
  foldl_keeps Part.outer (fun v t => by cases closing <;> simp) ts p

@[simp] theorem beginAttempt_outer (closing verified : Bool) (n : Nat) (ts : List (Nat × CellId)) (p : Part) :
    (p.beginAttempt closing verified n ts).1.outer = p.outer := giveCommands_outer closing ts p

@[simp] theorem setTermination_outer (d : Electrical) (t : Termination) (p : Part) :
    (p.setTermination d t).outer = p.outer := by
  unfold Part.setTermination
  split <;> rfl

@[simp] theorem beginInsertStep_outer (e : Nat) (followed : Option Nat) (st : InsertStep) (rest : List InsertStep) (p : Part) :
    (p.beginInsertStep e followed st rest).outer = p.outer := by
  cases st <;> exact beginAttempt_outer _ true 1 _ p

@[simp] theorem acceptInsertion_outer (e : Nat) (d : Electrical) (p : Part) : (p.acceptInsertion e d).outer = p.outer := by
  have hheld : (d.lines.foldl (fun q l => q.setLineState l (.held e)) p).outer = p.outer :=
    foldl_keeps Part.outer (fun v l => setLineState_outer l _ v) _ p
  unfold Part.acceptInsertion
  cases d.termination <;> cases d.insertSteps <;> simp [hheld]

/-! ### Entries -/

@[simp] theorem enterEntry_outer (e : Nat) (st : EntryState) (x : Entry) (p : Part) :
    (p.enterEntry e st x).outer = p.outer := by
  unfold Part.enterEntry
  simp only
  split <;> simp

@[simp] theorem recordCause_outer (e : Nat) (cause : EndCause) (p : Part) : (p.recordCause e cause).outer = p.outer := by
  unfold Part.recordCause
  simp only
  split <;> rfl

@[simp] theorem releaseClosing_outer (e : Nat) (fast : Bool) (broken : List Nat) (p : Part) :
    (p.releaseClosing e fast broken).1.outer = p.outer := by
  unfold Part.releaseClosing
  simp only
  split
  · rfl
  · exact beginAttempt_outer ..

@[simp] theorem releaseOpening_outer (e : Nat) (fast : Bool) (p : Part) : (p.releaseOpening e fast).1.outer = p.outer := by
  unfold Part.releaseOpening
  simp only
  split
  · exact releaseClosing_outer ..
  · exact beginAttempt_outer ..

@[simp] theorem beginRelease_outer (e : Nat) (fast : Bool) (p : Part) : (p.beginRelease e fast).1.outer = p.outer := by
  unfold Part.beginRelease
  simp only [releaseOpening_outer]
  exact (foldl_keeps Part.outer (fun v l => setLine_outer l _ v) _ _).trans (enterEntry_outer ..)

@[simp] theorem giveBack_outer (e : Nat) (c : EntryClass) (p : Part) : (p.giveBack e c).1.outer = p.outer := rfl

@[simp] theorem released_outer (e : Nat) (broken : List Nat) (p : Part) : (p.released e broken).1.outer = p.outer := by
  unfold Part.released
  split
  · simp only [giveBack_outer, setEntry_outer]
    refine (foldl_keeps Part.outer (fun v l => setLineState_outer l _ v) _ _).trans ?_
    split <;> simp
  · rfl

@[simp] theorem endSignal_outer (e c : Nat) (f : SigFault) (p : Part) : (p.endSignal e c f).1.outer = p.outer := by
  unfold Part.endSignal
  simp only [giveBack_outer]
  split <;> simp

@[simp] theorem endActive_outer (e : Nat) (cause : EndCause) (p : Part) : (p.endActive e cause).1.outer = p.outer := by
  unfold Part.endActive
  simp only
  split <;> simp

@[simp] theorem endUnclaimed_outer (e : Nat) (cause : EndCause) (p : Part) :
    (p.endUnclaimed e cause).1.outer = p.outer := by
  simp [Part.endUnclaimed]

@[simp] theorem grantElectrical_outer (e : Nat) (d : Electrical) (p : Part) :
    (p.grantElectrical e d).1.outer = p.outer := by
  simp [Part.grantElectrical]

@[simp] theorem grantSignal_outer (e c : Nat) (f : SigFault) (p : Part) : (p.grantSignal e c f).1.outer = p.outer := by
  simp [Part.grantSignal]

@[simp] theorem block_outer (e : Nat) (p : Part) : (p.block e).outer = p.outer := by
  unfold Part.block
  simp only
  split <;> simp

@[simp] theorem askClaims_outer (e : Nat) (back : List Nat) (p : Part) : (p.askClaims e back).1.outer = p.outer := by
  unfold Part.askClaims
  split
  · split
    · simp
    · split <;> simp
  · split
    · split <;> simp
    · simp
  · rfl

theorem due_outer (e : Nat) (w : Waiting) (point : Nat) (p : Part) : (p.due e w point).1.outer = p.outer := by
  unfold Part.due
  simp only
  split
  · split
    · split <;> simp
    · rfl
  · rfl

theorem judge_outer (e : Nat) (back : List Nat) (p : Part) : (p.judge e back).1.outer = p.outer := by
  unfold Part.judge
  split <;> simp

theorem finish_outer (e : Nat) (p : Part) : (p.finish e).1.outer = p.outer := by
  unfold Part.finish
  simp only
  split
  · simp only [enterEntry_outer]
    split <;> simp
  · rfl

/-! ### Occurrences, groups and motions -/

@[simp] theorem countOn_outer (o : Occurrence) (s : Nat) (p : Part) : (p.countOn o s).outer = p.outer := rfl

@[simp] theorem watchFrom_outer (o : Occurrence) (p : Part) : (p.watchFrom o).outer = p.outer := by
  rw [watchFrom_eq]; rfl

theorem occur_outer (o : Occurrence) (p : Part) : (p.occur o).1.outer = p.outer := by
  rw [occur_eq]; rfl

theorem startGroup_outer (g : Nat) (w : Waiting) (p : Part) : (p.startGroup g w).1.outer = p.outer := by
  unfold Part.startGroup
  simp only
  split <;> rfl

theorem passings_outer (m : Move) (p : Part) : (p.passings m).1.outer = p.outer := by
  rw [passings_eq]; rfl

/-! ### The cascade -/

/-- Work that offers the ring nothing and raises no CAPTURE cause. -/
def Task.offersNothing : Task → Prop
  | .capture _ _ => False
  | .notify src => src ≠ .capture
  | _ => True

/-- Every piece of work that offers the ring nothing keeps the outer side. -/
theorem doTask_outer {t : Task} (h : t.offersNothing) (p : Part) : (p.doTask t).1.outer = p.outer := by
  cases t with
  | occur o => exact occur_outer o p
  | notify src => exact raise_outer h p
  | due e w point => exact due_outer e w point p
  | startGroup g w => exact startGroup_outer g w p
  | startMember c => exact startMember_outer c p
  | groupDone g n => rfl
  | arrive c place carry before marker => exact arrive_outer c place carry before marker p
  | lowWater c before => exact lowWater_outer c before p
  | endSegment c => exact endSegment_outer c p
  | resume c => exact resume_outer c p
  | capture m up => exact h.elim
  | renderAgain c => exact renderAgain_outer c p
  | play c => exact playDue_outer c p
  | endUntil e ended =>
    simp only [Part.doTask]
    split
    · exact endActive_outer e .completed p
    · rfl
  | endActive e cause => exact endActive_outer e cause p
  | judge e back => exact judge_outer e back p
  | released e broken => exact released_outer e broken p
  | finish e => exact finish_outer e p

end Sys2Proof.Machine
end

section
/-! SUPPORT. No work but a monitor's offers the ring anything, so that a motion's cascade keeps the outer side. -/

namespace Sys2Proof.Machine

open Sys2Proof

/-! ### What work leaves as work -/

/-- No piece of some work offers the ring anything. -/
def OffersNothing (ts : List Task) : Prop := ∀ t ∈ ts, t.offersNothing

@[simp] theorem offersNothing_nil : OffersNothing [] := fun _ h => by cases h
@[simp] theorem offersNothing_cons (t : Task) (ts : List Task) :
    OffersNothing (t :: ts) ↔ t.offersNothing ∧ OffersNothing ts := by simp [OffersNothing]
@[simp] theorem offersNothing_append (ts us : List Task) :
    OffersNothing (ts ++ us) ↔ OffersNothing ts ∧ OffersNothing us := by simp [OffersNothing, or_imp, forall_and]

theorem offersNothing_map {α : Type} {f : α → Task} (h : ∀ x, (f x).offersNothing) (xs : List α) :
    OffersNothing (xs.map f) := by
  intro t ht
  obtain ⟨x, -, rfl⟩ := List.mem_map.mp ht
  exact h x

theorem metTasks_offersNothing (slots : List Nat) (m : Option Move) (p : Part) : OffersNothing (p.metTasks slots m) := by
  simp only [Part.metTasks, Part.dueTasks, offersNothing_append]
  refine ⟨⟨fun t ht => ?_, fun t ht => ?_⟩, offersNothing_map (fun _ => by exact trivial) _⟩
  · simp only [List.mem_filterMap, Option.bind_eq_some_iff, Option.map_eq_some_iff] at ht
    obtain ⟨_, _, _, _, _, _, rfl⟩ := ht
    trivial
  · simp only [List.mem_filterMap, Option.bind_eq_some_iff, Option.map_eq_some_iff] at ht
    obtain ⟨_, _, _, _, _, _, rfl⟩ := ht
    trivial

theorem startSegment_offersNothing (c place : Nat) (r : Segment) (carry : Option Nat) (before : Nat) (p : Part) :
    OffersNothing (p.startSegment c place r carry before).2 := by
  unfold Part.startSegment
  simp only [offersNothing_append]
  refine ⟨⟨?_, by simp [Task.offersNothing]⟩, ?_⟩
  · split <;> simp [Task.offersNothing]
  · generalize (decide (r.basis = .angle) && _) = ends
    cases ends <;> simp [Task.offersNothing]

theorem arrive_offersNothing (c place : Nat) (carry : Option Nat) (before marker : Nat) (p : Part) :
    OffersNothing (p.arrive c place carry before marker).2 := by
  unfold Part.arrive
  split
  · simp
  · split
    · simp
    · split
      · exact startSegment_offersNothing _ _ _ _ _ _
      · simp only
        split <;> simp [Task.offersNothing]

theorem endSegment_offersNothing (c : Nat) (p : Part) : OffersNothing (p.endSegment c).2 := by
  unfold Part.endSegment
  simp only
  split
  · split
    · split <;> simp [Task.offersNothing]
    · simp
  · simp

theorem startMember_offersNothing (c : Nat) (p : Part) : OffersNothing (p.startMember c).2 := by
  unfold Part.startMember
  simp only
  split
  · split <;> simp [Task.offersNothing]
  · simp

theorem resume_offersNothing (c : Nat) (p : Part) : OffersNothing (p.resume c).2 := by
  unfold Part.resume
  simp only
  split
  · split
    · split <;> simp [Task.offersNothing]
    · simp
  · simp

theorem runStart_offersNothing (c : Nat) (p : Part) : OffersNothing (p.runStart c).2 := by
  unfold Part.runStart
  simp only
  split
  · split
    · split <;> simp [Task.offersNothing]
    · simp
  · simp

theorem playDue_offersNothing (c : Nat) (p : Part) : OffersNothing (p.playDue c).2 := by
  unfold Part.playDue
  split
  · split
    · exact runStart_offersNothing c p
    · exact endSegment_offersNothing c p
  · exact resume_offersNothing c p
  · simp

theorem releaseClosing_offersNothing (e : Nat) (fast : Bool) (broken : List Nat) (p : Part) :
    OffersNothing (p.releaseClosing e fast broken).2 := by
  unfold Part.releaseClosing
  simp only
  split <;> simp [Task.offersNothing]

theorem beginRelease_offersNothing (e : Nat) (fast : Bool) (p : Part) : OffersNothing (p.beginRelease e fast).2 := by
  unfold Part.beginRelease Part.releaseOpening
  simp only
  split
  · exact releaseClosing_offersNothing _ _ _ _
  · simp

theorem giveBack_offersNothing (e : Nat) (c : EntryClass) (p : Part) : OffersNothing (p.giveBack e c).2 := by
  simp only [Part.giveBack, Part.arbiterPass, offersNothing_append]
  exact ⟨offersNothing_map (fun _ => by exact trivial) _, by simp [Task.offersNothing]⟩

theorem released_offersNothing (e : Nat) (broken : List Nat) (p : Part) : OffersNothing (p.released e broken).2 := by
  unfold Part.released
  split
  · exact giveBack_offersNothing _ _ _
  · simp

theorem endActive_offersNothing (e : Nat) (cause : EndCause) (p : Part) : OffersNothing (p.endActive e cause).2 := by
  unfold Part.endActive
  simp only
  split
  · exact beginRelease_offersNothing _ _ _
  · exact giveBack_offersNothing _ _ _
  · simp

theorem askClaims_offersNothing (e : Nat) (back : List Nat) (p : Part) : OffersNothing (p.askClaims e back).2 := by
  unfold Part.askClaims
  split
  · split
    · simp [Part.endUnclaimed, Task.offersNothing]
    · split <;> simp [Part.grantSignal, Task.offersNothing]
  · split
    · split <;> simp [Part.endUnclaimed, Part.grantElectrical, Task.offersNothing]
    · simp
  · simp

theorem judge_offersNothing (e : Nat) (back : List Nat) (p : Part) : OffersNothing (p.judge e back).2 := by
  unfold Part.judge
  split
  · exact askClaims_offersNothing e back p
  · simp

theorem due_offersNothing (e : Nat) (w : Waiting) (point : Nat) (p : Part) : OffersNothing (p.due e w point).2 := by
  unfold Part.due
  simp only
  split
  · split
    · split
      · simp [Part.endUnclaimed, Task.offersNothing]
      · exact askClaims_offersNothing _ _ _
    · simp
  · simp

theorem metAtOnce_offersNothing (e : Nat) (w : Waiting) (p : Part) : OffersNothing (p.metAtOnce e w) := by
  unfold Part.metAtOnce
  split
  · split <;> simp [Task.offersNothing]
  · split <;> simp [Task.offersNothing]
  · simp

theorem finish_offersNothing (e : Nat) (p : Part) : OffersNothing (p.finish e).2 := by
  unfold Part.finish
  simp only
  split
  · simp only
    split
    · exact metAtOnce_offersNothing _ _ _
    · simp
  · simp

theorem startGroup_offersNothing (g : Nat) (w : Waiting) (p : Part) : OffersNothing (p.startGroup g w).2 := by
  unfold Part.startGroup
  simp only
  split
  · rw [offersNothing_append]
    exact ⟨offersNothing_map (fun _ => by exact trivial) _, by simp [Task.offersNothing]⟩
  · simp

/-- Work that offers the ring nothing leaves only such work. -/
theorem doTask_offersNothing {t : Task} (h : t.offersNothing) (p : Part) : OffersNothing (p.doTask t).2 := by
  cases t with
  | occur o => exact metTasks_offersNothing _ _ _
  | notify src => simp [Part.doTask]
  | due e w point => exact due_offersNothing e w point p
  | startGroup g w => exact startGroup_offersNothing g w p
  | startMember c => exact startMember_offersNothing c p
  | groupDone g n => simp [Part.doTask, Part.groupDone, Task.offersNothing]
  | arrive c place carry before marker => exact arrive_offersNothing c place carry before marker p
  | lowWater c before => simp [Part.doTask]
  | endSegment c => exact endSegment_offersNothing c p
  | resume c => exact resume_offersNothing c p
  | capture m up => exact h.elim
  | renderAgain c => simp [Part.doTask]
  | play c => exact playDue_offersNothing c p
  | endUntil e ended =>
    simp only [Part.doTask]
    split
    · exact endActive_offersNothing e .completed p
    · simp
  | endActive e cause => exact endActive_offersNothing e cause p
  | judge e back => exact judge_offersNothing e back p
  | released e broken => exact released_offersNothing e broken p
  | finish e => exact finish_offersNothing e p

/-! ### The order of work -/

theorem firstWork_mem {ts : List Task} {t : Task} {rest : List Task} (h : firstWork ts = some (t, rest)) :
    t ∈ ts ∧ ∀ u ∈ rest, u ∈ ts := by
  induction ts generalizing t rest with
  | nil => cases h
  | cons x xs ih =>
    unfold firstWork at h
    split at h
    · obtain ⟨rfl, rfl⟩ := Prod.mk.inj (Option.some.inj h)
      exact ⟨List.mem_cons_self, fun u hu => List.mem_cons_of_mem _ hu⟩
    · obtain ⟨r, hr, he⟩ := Option.map_eq_some_iff.mp h
      obtain ⟨rfl, rfl⟩ := Prod.mk.inj he
      obtain ⟨h1, h2⟩ := ih hr
      refine ⟨List.mem_cons_of_mem _ h1, fun u hu => ?_⟩
      rcases List.mem_cons.mp hu with rfl | hu
      · exact List.mem_cons_self
      · exact List.mem_cons_of_mem _ (h2 u hu)

theorem lowestDue_mem {ts : List Task} {t : Task} {rest : List Task} (h : lowestDue ts = some (t, rest)) :
    t ∈ ts ∧ ∀ u ∈ rest, u ∈ ts := by
  induction ts generalizing t rest with
  | nil => cases h
  | cons x xs ih =>
    unfold lowestDue at h
    split at h
    · obtain ⟨rfl, rfl⟩ := Prod.mk.inj (Option.some.inj h)
      exact ⟨List.mem_cons_self, fun u hu => List.mem_cons_of_mem _ hu⟩
    · rename_i r hr
      obtain ⟨h1, h2⟩ := ih (t := r.1) (rest := r.2) hr
      split at h
      · obtain ⟨rfl, rfl⟩ := Prod.mk.inj (Option.some.inj h)
        exact ⟨List.mem_cons_self, fun u hu => List.mem_cons_of_mem _ hu⟩
      · obtain ⟨rfl, rfl⟩ := Prod.mk.inj (Option.some.inj h)
        refine ⟨List.mem_cons_of_mem _ h1, fun u hu => ?_⟩
        rcases List.mem_cons.mp hu with rfl | hu
        · exact List.mem_cons_self
        · exact List.mem_cons_of_mem _ (h2 u hu)

/-- The next piece of work is one of those left, or the due of an entry whose time has come; the rest is of those left. -/
theorem nextTask_mem {ts : List Task} {p : Part} {t : Task} {rest : List Task} (h : p.nextTask ts = some (t, rest)) :
    (t ∈ ts ∨ ∃ e point, t = .due e (.time point) point) ∧ ∀ u ∈ rest, u ∈ ts := by
  unfold Part.nextTask at h
  split at h
  · rename_i r hr
    obtain rfl := Option.some.inj h
    exact ⟨.inl (firstWork_mem hr).1, (firstWork_mem hr).2⟩
  · obtain ⟨r, hr, he⟩ := Option.map_eq_some_iff.mp h
    split at he
    · rename_i u hu
      obtain ⟨rfl, rfl⟩ := Prod.mk.inj he
      obtain ⟨k, -, hk⟩ := List.exists_of_findSome?_eq_some hu
      obtain ⟨point, -, rfl⟩ := Option.map_eq_some_iff.mp hk
      exact ⟨.inr ⟨k, point, rfl⟩, fun u hu => hu⟩
    · subst he
      exact ⟨.inl (lowestDue_mem hr).1, (lowestDue_mem hr).2⟩

/-- What every piece of some kind of work keeps, where such work leaves only such work and dues are of the kind, a whole
cascade keeps. -/
theorem runTasks_keeps_of {P : Part → Prop} {T : Task → Prop}
    (h : ∀ t p, T t → P p → P (p.doTask t).1 ∧ ∀ u ∈ (p.doTask t).2, T u)
    (hdue : ∀ e point, T (.due e (.time point) point)) (n : Nat) (ts : List Task) (p : Part)
    (hts : ∀ t ∈ ts, T t) (hp : P p) : P (runTasks n ts p) := by
  induction n generalizing ts p with
  | zero => exact hp
  | succ n ih =>
    unfold runTasks
    split
    · exact hp
    · rename_i t rest hn
      obtain ⟨ht, hrest⟩ := nextTask_mem hn
      have hT : T t := by
        rcases ht with ht | ⟨e, point, rfl⟩
        · exact hts t ht
        · exact hdue e point
      obtain ⟨hP, hleft⟩ := h t p hT hp
      refine ih _ _ (fun u hu => ?_) hP
      rcases List.mem_append.mp hu with hu | hu
      · exact hleft u hu
      · exact hts u (hrest u hu)

/-- A cascade of work that offers the ring nothing keeps the outer side. -/
theorem settleAll_outer {r : Part × List Task} (h : OffersNothing r.2) : (settleAll r).outer = r.1.outer :=
  runTasks_keeps_of (P := fun q => q.outer = r.1.outer) (T := Task.offersNothing)
    (fun _ p ht hp => ⟨(doTask_outer ht p).trans hp, doTask_offersNothing ht p⟩) (fun _ _ => trivial) _ _ _ h rfl

theorem addTravel_outer (m : Move) (p : Part) : (p.addTravel m).outer = p.outer := rfl
theorem renderWheels_outer (p : Part) : p.renderWheels.outer = p.outer := rfl
theorem renderTravels_outer (p : Part) : p.renderTravels.outer = p.outer := rfl

/-- A motion handed to the engine's neighbours writes the engine, and no more of the outer side. -/
theorem takeMove_outer (em : Engine × Move) (p : Part) :
    (p.takeMove em).outer = ({ p with engine := em.1 } : Part).outer := by
  have hmet : OffersNothing ((({ p with engine := em.1 } : Part).addTravel em.2).passings em.2).2 :=
    metTasks_offersNothing _ _ _
  rw [Part.takeMove, renderWheels_outer, renderTravels_outer, settleAll_outer hmet, passings_outer, addTravel_outer]

/-- The engine after a motion is the one handed on. -/
theorem takeMove_engine (em : Engine × Move) (p : Part) : (p.takeMove em).engine = em.1 :=
  engine_of_outer (takeMove_outer em p)

end Sys2Proof.Machine
end

section
/-! SUPPORT. The encoder's counts and its index (R2, R10, R12 to R15). -/

namespace Sys2Proof.Machine

open Sys2Proof

/-! ### The encoder's counts (R10) -/

/-- No count where both or neither of A and B change. -/
theorem quadrature_none {a0 b0 a b : Bool} (h : a ≠ a0 ∧ b ≠ b0 ∨ a = a0 ∧ b = b0) : quadrature a0 b0 a b = none := by
  revert a0 b0 a b; decide

/-- R10's four forward transitions, and the four backward. -/
theorem quadrature_some {a0 b0 a b : Bool} (h : a ≠ a0 ∧ b = b0 ∨ a = a0 ∧ b ≠ b0) :
    quadrature a0 b0 a b = some (decide ((a = true ∧ a0 = false ∧ b0 = false ∧ b = b0) ∨
      (b = true ∧ b0 = false ∧ a0 = true ∧ a = a0) ∨ (a = false ∧ a0 = true ∧ b0 = true ∧ b = b0) ∨
      (b = false ∧ b0 = true ∧ a0 = false ∧ a = a0))) := by
  revert a0 b0 a b; decide

/-- Outside FOLLOW, and with no count, only the levels are taken. -/
theorem exec_encoderCount_levels {a b : Bool} {s : State}
    (h : s.part.engine.mode ≠ .follow ∨ quadrature s.part.pins.encA s.part.pins.encB a b = none) :
    exec (.encoderCount a b) s = .next (s.withPart (s.part.setEncoder a b)) := by
  change acted s (match s.part.engine.mode, quadrature s.part.pins.encA s.part.pins.encB a b with
    | .follow, some _ => _
    | _, _ => _) = _
  rcases h with h | h
  · split
    · exact absurd ‹_› h
    · rfl
  · rw [h]; cases s.part.engine.mode <;> rfl

/-- In FOLLOW a count moves the accumulator by the follow step. -/
theorem exec_encoderCount_counted {a b forward : Bool} {s : State} (hm : s.part.engine.mode = .follow)
    (h : quadrature s.part.pins.encA s.part.pins.encB a b = some forward) :
    exec (.encoderCount a b) s =
      .next (s.withPart ((s.part.setEncoder a b).takeMove
        ((s.part.engine.countOne forward).move forward s.part.engine.step))) := by
  change acted s (match s.part.engine.mode, quadrature s.part.pins.encA s.part.pins.encB a b with
    | .follow, some _ => _
    | _, _ => _) = _
  rw [hm, h]; rfl

/-- Settles O22. -/
theorem encoderCounted : Obligations.EncoderCounted := by
  intro a b s p e a0 b0 q forward counted handed up down
  have hup : (e.countOne true).move true e.step = handed true up := by
    rcases Nat.lt_or_ge (e.acc + e.step) 3019898880 with h | h
    · rw [move_forward_of_lt (e := e.countOne true) h]
      simp only [handed, up, if_pos h]; rfl
    · rw [move_forward_of_le (e := e.countOne true) h]
      simp only [handed, up, if_neg (Nat.not_lt.mpr h)]; rfl
  have hdown : (e.countOne false).move false e.step = handed false down := by
    rcases Nat.lt_or_ge e.acc e.step with h | h
    · rw [move_backward_of_lt (e := e.countOne false) h]
      simp only [handed, down, if_neg (Nat.not_le.mpr h)]; rfl
    · rw [move_backward_of_le (e := e.countOne false) h]
      simp only [handed, down, if_pos h]; rfl
  refine ⟨fun hm => exec_encoderCount_levels (.inl hm), fun h => exec_encoderCount_levels (.inr (quadrature_none h)),
    fun hm hf => ⟨?_, takeMove_engine _ _⟩, fun hm hf hone => ⟨?_, takeMove_engine _ _⟩⟩
  · have hone : a ≠ a0 ∧ b = b0 ∨ a = a0 ∧ b ≠ b0 := by
      rcases hf with ⟨h1, h2, -, h3⟩ | ⟨h1, h2, -, h3⟩ | ⟨h1, h2, -, h3⟩ | ⟨h1, h2, -, h3⟩ <;> simp [h1, h2, h3]
    rw [exec_encoderCount_counted hm ((quadrature_some hone).trans (congrArg some (decide_eq_true hf)))]
    rw [show s.part.engine = e from rfl, hup]; rfl
  · rw [exec_encoderCount_counted hm ((quadrature_some hone).trans (congrArg some (decide_eq_false hf)))]
    rw [show s.part.engine = e from rfl, hdown]; rfl

/-! ### The index (R12 to R14) -/

/-- The snap's candidate by its two cases (R12): the nearer of the two, the one forward of the angle at a tie. -/
theorem snapCandidate_cases (angle offset : Nat) :
    let e1 := circularError angle offset
    let e2 := circularError angle (offset + 23040)
    (snapCandidate angle offset = offset ∧ (e1.natAbs < e2.natAbs ∨ e1.natAbs = e2.natAbs ∧ e1 < 0)) ∨
      (snapCandidate angle offset = offset + 23040 ∧ (e2.natAbs < e1.natAbs ∨ e1.natAbs = e2.natAbs ∧ 0 ≤ e1)) := by
  intro e1 e2
  have hdef : snapCandidate angle offset =
      if e1.natAbs < e2.natAbs then offset else if e2.natAbs < e1.natAbs then offset + 23040
      else if e1 < 0 then offset else offset + 23040 := rfl
  rw [hdef]
  split_ifs <;> omega

/-- The index finds the error of size at most 11,520, the forward candidate's at a tie, and its candidate lies that error behind
the angle, round the cycle (R12). -/
theorem snapCandidate_error {angle offset : Nat} {d : Int} (ho : offset < 23040) (hd : -11520 ≤ d ∧ d < 11520)
    (hmod : (d - ((angle : Int) - offset)) % 23040 = 0) :
    circularError angle (snapCandidate angle offset) = d ∧
      (snapCandidate angle offset : Int) = ((angle : Int) - d) % 46080 := by
  have hcases := snapCandidate_cases angle offset
  simp only [circularError] at hcases ⊢
  omega

/-- A motion writes the accumulator and the cycle count alone. -/
theorem move_engine (forward : Bool) (n : Nat) (e : Engine) :
    (e.move forward n).1 = { e with acc := (e.move forward n).1.acc, cycle := (e.move forward n).1.cycle } := by
  unfold Engine.move
  simp only
  split <;> split <;> rfl

/-- A snap ends on its candidate, with fraction 0. -/
theorem snap_acc {e : Engine} (h : e.acc < 3019898880) (hc : snapCandidate e.angle e.offset < 46080) :
    (e.snap).1.acc = snapCandidate e.angle e.offset * 65536 := by
  unfold Engine.snap
  simp only [Config.unitParts, Config.cycleParts]
  generalize snapCandidate e.angle e.offset = c at hc
  split
  · rcases Nat.lt_or_ge (e.acc + (c * 65536 + 3019898880 - e.acc) % 3019898880) 3019898880 with hn | hn
    · rw [move_forward_of_lt hn]; simp only; omega
    · rw [move_forward_of_le hn]; simp only; omega
  · rcases Nat.lt_or_ge e.acc ((e.acc + 3019898880 - c * 65536) % 3019898880) with hn | hn
    · rw [move_backward_of_lt hn]; simp only; omega
    · rw [move_backward_of_le hn]; simp only; omega

/-- A snap writes the accumulator and the cycle count alone. -/
theorem snap_engine (e : Engine) : (e.snap).1 = { e with acc := (e.snap).1.acc, cycle := (e.snap).1.cycle } := by
  unfold Engine.snap
  simp only
  split <;> exact move_engine _ _ e

/-- Outside FOLLOW, and without a rising edge of Z, only the level is taken. -/
theorem exec_indexPulse_level {z : Bool} {s : State}
    (h : s.part.engine.mode ≠ .follow ∨ z = false ∨ s.part.pins.encZ = true) :
    exec (.indexPulse z) s = .next (s.withPart { s.part with pins := { s.part.pins with encZ := z } }) := by
  have hno : ¬(decide (s.part.engine.mode = .follow) && z && !s.part.pins.encZ) = true := by
    rcases h with h | h | h <;> simp [h]
  change acted s (if (decide (s.part.engine.mode = .follow) && z && !s.part.pins.encZ) = true then _ else _) = _
  rw [if_neg hno]; rfl

/-- In FOLLOW a rising edge of Z is an index pulse. -/
theorem exec_indexPulse_edge {s : State} (hm : s.part.engine.mode = .follow) (hz : s.part.pins.encZ = false) :
    exec (.indexPulse true) s =
      .next (s.withPart ({ s.part with pins := { s.part.pins with encZ := true } } : Part).indexPulse) := by
  have hyes : (decide (s.part.engine.mode = .follow) && true && !s.part.pins.encZ) = true := by simp [hm, hz]
  change acted s (if (decide (s.part.engine.mode = .follow) && true && !s.part.pins.encZ) = true then _ else _) = _
  rw [if_pos hyes]; rfl

/-- The engine after an index pulse is the snapped one, logging or not (R12, R13). -/
theorem indexPulse_engine (p : Part) :
    p.indexPulse.engine = ((p.engine.indexed p.engine.indexErrorNow p.clock.rigTime).snap).1 := by
  unfold Part.indexPulse
  simp only
  split
  · rw [logError_engine]; exact takeMove_engine _ _
  · exact takeMove_engine _ _

/-- An error within the tolerance logs nothing. -/
theorem indexPulse_within {p : Part} {d : Int} (herr : p.engine.indexErrorNow = d) (h : d.natAbs ≤ p.engine.tolerance) :
    p.indexPulse = p.takeMove ((p.engine.indexed d p.clock.rigTime).snap) := by
  subst herr
  exact if_neg (Nat.not_lt.mpr h)

/-- An error beyond the tolerance logs INDEX_SLIP behind what the snap brings about. -/
theorem indexPulse_slip {p : Part} {d : Int} (herr : p.engine.indexErrorNow = d) (h : p.engine.tolerance < d.natAbs) :
    p.indexPulse = (p.takeMove ((p.engine.indexed d p.clock.rigTime).snap)).logError .indexSlip .engine d := by
  subst herr
  exact if_pos h

/-- INDEX_MISSING logs and sets the mark exactly where the count has reached 2E with the mark clear (R14). -/
theorem exec_indexMissing (s : State) :
    exec .indexMissing s =
      .next (s.withPart (if s.part.engine.mode = .follow ∧ s.part.engine.sinceIndex = 2 * s.part.engine.counts ∧
          s.part.engine.missingMark = false then
        ({ s.part with engine := { s.part.engine with missingMark := true } }).logError .indexMissing .engine
          (2 * s.part.engine.counts : Nat) else s.part)) := by
  change acted s (if s.part.indexMissing = true then _ else _) = _
  simp only [Part.indexMissing, Bool.and_eq_true, decide_eq_true_eq, Bool.not_eq_true', and_assoc]
  rfl

/-- Settles O23. -/
theorem indexTaken : Obligations.IndexTaken := by
  refine ⟨fun z s h => exec_indexPulse_level h, ?_, exec_indexMissing⟩
  intro s d p e near hmode hz hacc hoff hd hmod
  obtain ⟨herr, hcand⟩ : e.indexErrorNow = d ∧ (snapCandidate e.angle e.offset : Int) = ((e.acc / 65536 : Nat) - d) % 46080 :=
    snapCandidate_error hoff hd hmod
  have hlt : snapCandidate e.angle e.offset < 46080 := by omega
  have hsnapped : (({ p with pins := { p.pins with encZ := true } } : Part).indexPulse).engine =
      ((e.indexed d p.clock.rigTime).snap).1 := by
    rw [indexPulse_engine, ← herr]
  have hacc' : ((e.indexed d p.clock.rigTime).snap).1.acc = snapCandidate e.angle e.offset * 65536 := snap_acc hacc hlt
  have hrest := snap_engine (e.indexed d p.clock.rigTime)
  refine ⟨_, exec_indexPulse_edge hmode hz, ?_⟩
  rw [hsnapped]
  refine ⟨by rw [hacc']; omega, by rw [hrest]; rfl, by rw [hrest]; rfl, by rw [hrest]; rfl, by rw [hrest]; rfl,
    by rw [hrest]; rfl, by rw [hrest]; exact hmode, by rw [hrest]; rfl, by rw [hrest]; rfl, fun htol => ?_, fun htol => ?_⟩
  · exact indexPulse_within herr htol
  · exact indexPulse_slip herr htol

end Sys2Proof.Machine
end

section
/-! SUPPORT. What the resets leave (R183). -/

namespace Sys2Proof.Machine

open Sys2Proof

/-! ### The tables after a reset -/

/-- Every place of a table filled with its reset value reads that value, out of range too. -/
theorem getD_replicate {α : Type} (n i : Nat) (x : α) : (List.replicate n x).getD i x = x := by
  simp only [List.getD_eq_getElem?_getD, List.getElem?_replicate]
  split <;> rfl

theorem afterReset_line (cause : ResetCause) (p : Part) {l : Nat} (h : l < 64) :
    (p.afterReset cause).line l = Line.atReset ((if cause = .link then p.matrix.health else []).getD l []) := by
  simp [Part.line, Part.afterReset, Matrix.atReset, Config.lines, List.getD_eq_getElem?_getD, h]

/-- A line's cells after a reset: the series cell CLOSED and the others OPEN, unpowered, their health as given. -/
theorem atReset_cell (health : List (Nat × Bool)) (k : CellId) :
    (Line.atReset health).cell k = Cell.atReset (decide (k = .series)) (health.getD (cellIndex k) (0, false)) := by
  have hseries : (cellIndex k == 0) = decide (k = .series) := by cases k <;> rfl
  simp [Line.cell, Line.atReset, Config.cellsPerLine, List.getD_eq_getElem?_getD, cellIndex_lt k, hseries]

/-- The health a LINK reset keeps is that of the cell. -/
theorem health_getD {p : Part} (h : p.MatrixShaped) {l : Nat} (hl : l < 64) (k : CellId) :
    ((p.matrix.health.getD l []).getD (cellIndex k) (0, false)) = ((p.cell l k).noMake, (p.cell l k).worn) := by
  obtain ⟨hlines, hcells⟩ := h
  have hl' : l < p.matrix.lines.length := hlines ▸ hl
  have hk : cellIndex k < (p.matrix.lines[l]).cells.length := by
    rw [hcells _ (List.getElem_mem hl')]; exact cellIndex_lt k
  simp [Matrix.health, Part.cell, Part.line, Line.cell, List.getD_eq_getElem?_getD, hl', hk]

/-! ### The resets -/

/-- The end of a LINK_RESET's ACK resets the part. -/
theorem exec_transmitEnd_reset {s : State} {t : Transmission} {tag time : Nat} (ht : s.part.link.transmitter = some t)
    (hf : t.frame = .reply { tag := tag, answer := .ack (.linkReset time) }) (hend : t.endTick ≤ s.part.clock.ticks) :
    exec .transmitEnd s = .next (s.withPart (s.part.afterReset .link)) := by
  have hack : t.frame.isResetAck = true := by rw [hf]; rfl
  change acted s (match s.part.link.transmitter with
    | some t => if t.endTick ≤ s.part.clock.ticks then (if t.frame.isResetAck then _ else _) else _
    | none => _) = _
  rw [ht]
  simp only [if_pos hend, if_pos hack]
  rfl

/-- ResetsTaken of O57: the three resets write one state, but for the cause and the cells' health. -/
theorem resetsTaken : Claims.ResetsTaken := by
  intro s old Whole
  have hwhole (cause : ResetCause) (health : Nat → CellId → Nat × Bool)
      (hh : ∀ l < 64, ∀ k, ((if cause = .link then old.matrix.health else []).getD l []).getD (cellIndex k) (0, false) =
        health l k) : Whole cause health (old.afterReset cause) := by
    refine ⟨rfl, rfl, rfl, rfl, rfl, ⟨rfl, fun c => getD_replicate _ c _⟩, rfl, fun n => getD_replicate _ n _,
      ⟨rfl, fun n => getD_replicate _ n _⟩, ⟨rfl, fun g => getD_replicate _ g _⟩, rfl, rfl, rfl, rfl,
      ⟨?_, fun l hl => ⟨?_, fun k => ?_⟩⟩, ⟨rfl, fun e => getD_replicate _ e _⟩, rfl, rfl, fun k => ?_, rfl⟩
    · simp [Part.afterReset, Matrix.atReset, Config.lines]
    · rw [afterReset_line cause old hl]; rfl
    · rw [Part.cell, afterReset_line cause old hl, atReset_cell, hh l hl k]; rfl
    · cases k <;> rfl
  refine ⟨⟨_, rfl, hwhole .powerOn _ fun l _ k => ?_⟩, ⟨_, rfl, hwhole .supplyDip _ fun l _ k => ?_⟩,
    fun t tag time hshape ht hf hend => ⟨_, exec_transmitEnd_reset ht hf hend, hwhole .link _ fun l hl k => ?_⟩⟩
  · rfl
  · rfl
  · exact health_getD hshape hl k

theorem reset_heldSlots : State.reset.part.heldSlots = [] := by
  simp [Part.heldSlots, State.reset, Part.atPowerOn, Channel.atReset]

theorem classRecord_none_sound : ClassRecord.none.Sound := by
  simp [ClassRecord.Sound, ClassRecord.none]

/-- ResetIsSound of O57. -/
theorem resetIsSound : Claims.ResetIsSound := by
  refine ⟨⟨by decide, by decide, by decide⟩, ⟨?_, ?_, fun ch h => ?_⟩, ⟨by decide, by decide⟩,
    ⟨classRecord_none_sound, classRecord_none_sound, classRecord_none_sound⟩, fun e h => ?_, rfl⟩
  · rw [reset_heldSlots]; exact List.nodup_nil
  · rw [reset_heldSlots]; exact fun n hn => absurd hn List.not_mem_nil
  · obtain rfl : ch = Channel.atReset := (List.mem_replicate.mp h).2
    decide
  · obtain rfl : e = Entry.empty := (List.mem_replicate.mp h).2
    simp [Entry.Sound, Entry.empty]

/-- Settles O57: the values each reset writes, and the soundness of the state after reset. -/
theorem resetLeavesAPart : Obligations.ResetLeavesAPart := ⟨resetsTaken, resetIsSound⟩

end Sys2Proof.Machine
end

section
/-! SUPPORT. The microsecond tick: the pins' changes, the tick before the motion, and the ring's test (R1, R8, R40, R79, R95). -/

namespace Sys2Proof.Machine

open Sys2Proof

/-! ### Changes of the pins -/

/-- What a table reads after one place in range is written. -/
theorem getD_set_of_lt {α : Type} {xs : List α} {i : Nat} (h : i < xs.length) (x d : α) (k : Nat) :
    (xs.set i x).getD k d = if k = i then x else xs.getD k d := by
  simp only [List.getD_eq_getElem?_getD, List.getElem?_set, h, if_true]
  split
  · rw [if_pos (Eq.symm ‹_›)]; rfl
  · rw [if_neg (fun hk => ‹¬i = k› hk.symm)]

theorem contact_pinChange {l : Nat} {c : CellId} {closed : Bool} {p : Part} (hl : l < p.pins.contacts.length)
    (hc : (p.pins.contacts.getD l []).length = 7) (k : Nat) (b : CellId) :
    (p.pinChange (.contact l c closed)).contact k b = if k = l ∧ b = c then closed else p.contact k b := by
  have hi : cellIndex c < (p.pins.contacts.getD l []).length := hc ▸ cellIndex_lt c
  have hcontact : (p.pinChange (.contact l c closed)).contact k b =
      ((p.pins.contacts.set l ((p.pins.contacts.getD l []).set (cellIndex c) closed)).getD k []).getD (cellIndex b) false := rfl
  rw [hcontact, getD_set_of_lt hl]
  by_cases hk : k = l
  · subst hk
    rw [if_pos rfl, getD_set_of_lt hi]
    have hinj : Function.Injective cellIndex := fun _ _ => cellIndex_inj
    simp [hinj.eq_iff, Part.contact]
  · rw [if_neg hk, if_neg (fun h => hk h.1)]; rfl

theorem mem_heldSlots {p : Part} {slot : Nat} : slot ∈ p.heldSlots ↔ ∃ ch ∈ p.channels, ∃ r ∈ ch.queue, r.slot = slot := by
  simp [Part.heldSlots]

/-- A bit error into a slot with none joins the others. -/
theorem addDamage_of_new {slot : Nat} {ds : List (Nat × SlotError)} (h : ∀ d ∈ ds, d.1 ≠ slot) (e : SlotError) :
    addDamage slot e ds = ds ++ [(slot, e)] := by
  have hno : ¬(ds.any fun d => decide (d.1 = slot)) = true := by
    rw [List.any_eq_true]
    rintro ⟨d, hd, hs⟩
    exact h d hd (of_decide_eq_true hs)
  rw [addDamage, if_neg hno]

/-- A bit error into a slot with one leaves it beyond correction, and the other slots as they were. -/
theorem mem_addDamage_of_held {slot : Nat} {ds : List (Nat × SlotError)} (h : ∃ d ∈ ds, d.1 = slot) (e : SlotError)
    (n : Nat) (f : SlotError) :
    (n, f) ∈ addDamage slot e ds ↔ if n = slot then f = .uncorrectable else (n, f) ∈ ds := by
  have hyes : (ds.any fun d => decide (d.1 = slot)) = true := by simpa using h
  rw [addDamage, if_pos hyes, List.mem_map]
  constructor
  · rintro ⟨d, hd, heq⟩
    split at heq
    · obtain ⟨rfl, rfl⟩ := Prod.mk.inj heq
      rw [if_pos rfl]
    · subst heq
      rw [if_neg ‹_›]; exact hd
  · split
    · rintro rfl
      obtain ⟨d, hd, hs⟩ := h
      exact ⟨d, hd, by rw [if_pos hs, ‹n = slot›]⟩
    · intro hmem
      exact ⟨(n, f), hmem, if_neg ‹_›⟩

/-- PinsChanged of O56: each pin takes its level and no other changes; a bit error comes only into a slot held. -/
theorem pinsChanged : Claims.PinsChanged := by
  intro p changed
  refine ⟨fun i h hi => ⟨_, rfl, fun k => getD_set_of_lt hi h false k⟩, fun m v hm => ⟨_, rfl, fun k => getD_set_of_lt hm v 0 k⟩,
    fun l v hl => ⟨_, rfl, fun k => getD_set_of_lt hl v 0 k⟩, fun b v hb => ⟨_, rfl, fun k => getD_set_of_lt hb v 0 k⟩,
    fun l c closed hl hc => ⟨_, rfl, contact_pinChange hl hc⟩, fun slot e => ?_⟩
  intro q
  refine ⟨fun hnone => ?_, fun hheld => ?_⟩
  · have hno : ¬p.heldSlots.contains slot = true := by
      rw [List.contains_iff_mem, mem_heldSlots]
      rintro ⟨ch, hch, r, hr, hs⟩
      exact hnone ch hch r hr hs
    exact if_neg hno
  · have hyes : p.heldSlots.contains slot = true := by rwa [List.contains_iff_mem, mem_heldSlots]
    have hq : q = { p with damage := addDamage slot e p.damage } := if_pos hyes
    rw [hq]
    exact ⟨rfl, fun hnew => addDamage_of_new hnew e, fun hold => mem_addDamage_of_held hold e⟩

/-- A change of the pins writes the pins and the bit errors alone. -/
theorem pinChange_eq (x : PinChange) (p : Part) :
    p.pinChange x = { p with pins := (p.pinChange x).pins, damage := (p.pinChange x).damage } := by
  cases x with
  | slotError slot e => simp only [Part.pinChange]; split <;> rfl
  | _ => rfl

/-- The changes of the pins do not look at the clock or the marks. -/
theorem pinChange_clock (x : PinChange) (p : Part) (c : Clock) (m : Marks) :
    ({ p with clock := c, marks := m } : Part).pinChange x =
      { p.pinChange x with clock := c, marks := m } := by
  cases x with
  | slotError slot e =>
    have hnew : ({ p with clock := c, marks := m } : Part).pinChange (.slotError slot e) =
        if p.heldSlots.contains slot = true then { p with clock := c, marks := m, damage := addDamage slot e p.damage }
        else { p with clock := c, marks := m } := rfl
    have hold : p.pinChange (.slotError slot e) =
        if p.heldSlots.contains slot = true then { p with damage := addDamage slot e p.damage } else p := rfl
    rw [hnew, hold]
    split <;> rfl
  | _ => rfl

/-- The tick begun: the clock and the marks written, the pins and bit errors as the changes leave them. -/
theorem onto_eq (changes : List PinChange) (p : Part) :
    p.onto changes =
      { p with
        clock := p.clock.advance
        marks := marksAt p.clock.advance.ticks
        pins := (changes.foldl (fun v x => v.pinChange x) p).pins
        damage := (changes.foldl (fun v x => v.pinChange x) p).damage } := by
  unfold Part.onto
  simp only
  generalize p.clock.advance = c
  generalize marksAt c.ticks = m
  induction changes generalizing p with
  | nil => rfl
  | cons x xs ih =>
    simp only [List.foldl_cons]
    rw [pinChange_clock, ih, pinChange_eq x p]

/-! ### The tick's modifiers and samples (R40, R79) -/

theorem takenModifier_eq (m : Option Modifier) (last : Nat × Nat) :
    takenModifier m last = m.map (Modifier.taken last) := by
  cases m with
  | none => rfl
  | some m =>
    obtain ⟨entry, fault, stuck⟩ := m
    cases fault <;> rfl

/-- The modifier a channel takes as the tick comes, spelt out. -/
theorem tickTake_eq (ch : Channel) :
    ch.tickTake =
      if ch.config.map ChConfig.kind = some .wheel ∧ ch.state ≠ .off then
        { ch with modifier := takenModifier ch.modifier (ch.output, 0), applied := takenModifier ch.modifier (ch.output, 0) }
      else if ch.config.map ChConfig.kind = some .pulse ∧ ch.state ≠ .off ∧ ch.period = none then
        { ch with modifier := takenModifier ch.modifier (0, 0), applied := takenModifier ch.modifier (0, 0) }
      else ch := by
  have hlook : ch.looking = true ↔ ch.config.map ChConfig.kind = some .pulse ∧ ch.state ≠ .off ∧ ch.period = none := by
    simp only [Channel.looking, Bool.and_eq_true, decide_eq_true_eq, Option.isNone_iff_eq_none, and_left_comm, and_assoc]
    rfl
  simp only [Channel.tickTake, take_eq, takenModifier_eq, hlook, Bool.and_eq_true, decide_eq_true_eq]
  rfl

/-! ### The engine's motion and the renders -/

theorem renderLooks_outer (p : Part) : p.renderLooks.outer = p.outer := rfl
theorem refreshPins_outer (p : Part) : p.refreshPins.outer = p.outer := rfl

/-- The engine's motion on a tick is the increment's, forward, where there is one (R8). -/
theorem turn_eq (p : Part) :
    p.turn = if p.engine.mode = .follow ∨ p.engine.increment = 0 then p
      else p.takeMove (p.engine.move true p.engine.increment) := by
  simp only [Part.turn, Bool.and_eq_true, decide_eq_true_eq]
  split_ifs <;> tauto

/-! ### The tick's test of the ring (R95) -/

/-- The ring's test writes the flush mark and the notices alone. -/
theorem ringTest_eq (p : Part) :
    p.ringTest = { p with
      marks := { p.marks with flush := p.ringTest.marks.flush }
      link := { p.link with notices := p.ringTest.link.notices } } := by
  have hraise : p.raise .capture = { p with link := { p.link with notices := (p.raise .capture).link.notices } } := by
    unfold Part.raise
    split <;> [rfl; (split <;> rfl)]
  unfold Part.ringTest
  split
  · rfl
  · split
    · rw [hraise]
    · rfl

theorem queued_iff (src : NoticeSource) (p : Part) : p.queued src = true ↔ ∃ n ∈ p.link.notices, n.source = src := by
  simp [Part.queued]

/-- A CAPTURE notice is queued after the test where one was, or where a batch has raised it. -/
theorem ringTest_queued (p : Part) :
    (∃ n ∈ p.ringTest.link.notices, n.source = .capture) ↔
      (∃ n ∈ p.link.notices, n.source = .capture) ∨
        p.capture.ring ≠ [] ∧ p.capture.batch ≤ p.capture.ring.length ∧ p.link.levels.capture ≠ 7 := by
  by_cases hq : p.queued .capture = true
  · rw [ringTest_of_queued (.inr hq)]
    exact ⟨.inl, fun _ => (queued_iff .capture p).mp hq⟩
  have hno : ¬∃ n ∈ p.link.notices, n.source = .capture := fun h => hq ((queued_iff .capture p).mpr h)
  have hq' : p.queued .capture = false := Bool.eq_false_iff.mpr hq
  by_cases hr : p.capture.ring = []
  · rw [ringTest_of_queued (.inl hr)]
    simp [hr]
  rcases Nat.lt_or_ge p.capture.ring.length p.capture.batch with hb | hb
  · rw [ringTest_of_short hr hq' hb]
    exact ⟨.inl, fun h => h.elim id fun h => absurd h.2.1 (Nat.not_le.mpr hb)⟩
  · rw [ringTest_of_batch hr hq' hb]
    by_cases hl : p.link.levels.capture = 7
    · rw [raise_of_off (src := .capture) hl]
      simp [hl]
    · rw [raise_of_new (src := .capture) hl hq']
      simp [hr, hb, hl]

/-- The flush interval is marked where the test finds it reached, short of a batch and with no notice queued or silenced. -/
theorem ringTest_flush {p : Part} (h : p.marks.flush = false) :
    p.ringTest.marks.flush = true ↔
      ¬(∃ n ∈ p.link.notices, n.source = .capture) ∧ p.capture.ring.length < p.capture.batch ∧ p.link.levels.capture ≠ 7 ∧
        ∃ r, p.capture.ring.head? = some r ∧ r.tick + p.capture.flush * 1000 ≤ p.clock.ticks := by
  by_cases hq : p.queued .capture = true
  · rw [ringTest_of_queued (.inr hq), h]
    simp [(queued_iff .capture p).mp hq]
  have hno : ¬∃ n ∈ p.link.notices, n.source = .capture := fun hn => hq ((queued_iff .capture p).mpr hn)
  have hq' : p.queued .capture = false := Bool.eq_false_iff.mpr hq
  match hr : p.capture.ring with
  | [] =>
    rw [ringTest_of_queued (.inl hr), h]
    simp
  | r :: rest =>
    have hne : p.capture.ring ≠ [] := by simp [hr]
    have hdue : p.flushDue = decide (r.tick + p.capture.flush * 1000 ≤ p.clock.ticks) := by simp only [Part.flushDue, hr]; rfl
    rcases Nat.lt_or_ge p.capture.ring.length p.capture.batch with hb | hb
    · rw [ringTest_of_short hne hq' hb, ← hr]
      have hhead : p.capture.ring.head? = some r := by rw [hr]; rfl
      simp only [hno, hb, hdue, hhead, Bool.and_eq_true, decide_eq_true_eq, not_false_eq_true, true_and,
        Option.some.injEq, exists_eq_left']
      exact and_comm
    · rw [ringTest_of_batch hne hq' hb, raise_marks, h]
      simp [← hr, Nat.not_lt.mpr hb]

section
variable (p : Part)
theorem ringTest_clock : p.ringTest.clock = p.clock := by rw [ringTest_eq]
theorem ringTest_marks : p.ringTest.marks = { p.marks with flush := p.ringTest.marks.flush } :=
  congrArg Part.marks (ringTest_eq p)
theorem ringTest_capture : p.ringTest.capture = p.capture := by rw [ringTest_eq]
theorem ringTest_engine : p.ringTest.engine = p.engine := by rw [ringTest_eq]
theorem ringTest_pins : p.ringTest.pins = p.pins := by rw [ringTest_eq]
theorem ringTest_triggers : p.ringTest.triggers = p.triggers := by rw [ringTest_eq]
theorem ringTest_guard : p.ringTest.guard = p.guard := by rw [ringTest_eq]
theorem ringTest_safe : p.ringTest.safe = p.safe := by rw [ringTest_eq]
theorem ringTest_patterns : p.ringTest.patterns = p.patterns := by rw [ringTest_eq]
theorem ringTest_monitors : p.ringTest.monitors = p.monitors := by rw [ringTest_eq]
end

/-! ### The whole tick -/

/-- A CAPTURE notice is queued on one side where it is on the other. -/
theorem queued_of_outer {p q : Part} (h : q.outer = p.outer) : q.queued .capture = p.queued .capture := by
  have hfilter (v : Part) : v.queued .capture = !(v.link.notices.filter fun n => n.source = .capture).isEmpty := by
    rw [Bool.eq_iff_iff]
    simp [Part.queued, List.filter_eq_nil_iff]
  rw [hfilter, hfilter, captureNotices_of_outer h]

/-- TickItself of O56: the tick begun, the motion handed on, the renders, and the ring's one test. -/
theorem tickItself : Claims.TickItself := by
  intro changes s p e ring queued ticks outside turned begun moved
  have hbegun : ((p.onto changes).tickTakes.sampleTriggers) = begun := by
    rw [onto_eq]
    simp only [Part.tickTakes, Part.sampleTriggers, TriggerInput.sample, funext tickTake_eq]
    rfl
  have hmoved : begun.turn = moved := by
    rw [turn_eq]
    by_cases hstill : e.mode = .follow ∨ e.increment = 0
    · rw [show moved = begun from if_pos hstill]
      exact if_pos hstill
    · rw [show moved = begun.takeMove (turned, _) from if_neg hstill]
      refine (if_neg hstill).trans (congrArg (fun em => begun.takeMove em) ?_)
      rcases Nat.lt_or_ge (e.acc + e.increment) 3019898880 with h | h
      · rw [show turned = { e with acc := e.acc + e.increment } from (if_neg hstill).trans (if_pos h)]
        exact move_forward_of_lt h
      · rw [show turned = { e with acc := e.acc + e.increment - 3019898880, cycle := (e.cycle + 1) % 4294967296 } from
          (if_neg hstill).trans (if_neg (Nat.not_lt.mpr h))]
        exact move_forward_of_le h
  have htick : exec (.microsecondTick changes) s =
      .next (s.withPart moved.renderLooks.renderWheels.refreshPins.ringTest) := by
    rw [← hmoved, ← hbegun]; rfl
  have hhold : exec (.rigTimeHold changes) s =
    acted s (if Config.lastRigTime ≤ p.clock.rigTime + 1 then s.part.tick changes else s.part) := rfl
  refine ⟨fun h => ?_, fun h => ?_, htick, _, htick, ?_⟩
  · rw [hhold, if_neg (by simp only [Config.lastRigTime]; omega)]; rfl
  · rw [hhold, if_pos (by simp only [Config.lastRigTime]; omega)]; rfl
  have hout : moved.renderLooks.renderWheels.refreshPins.outer = ({ begun with engine := turned } : Part).outer := by
    rw [refreshPins_outer, renderWheels_outer, renderLooks_outer]
    by_cases hstill : e.mode = .follow ∨ e.increment = 0
    · rw [show moved = begun from if_pos hstill, show turned = e from if_pos hstill]
    · rw [show moved = begun.takeMove (turned, _) from if_neg hstill]
      exact takeMove_outer _ _
  generalize moved.renderLooks.renderWheels.refreshPins = x at hout
  have hmarks : x.marks = begun.marks := (marks_of_outer hout :)
  have hcapture : x.capture = p.capture := (capture_of_outer hout :)
  have hlevels : x.link.levels = p.link.levels := (levels_of_outer hout :)
  have hqueued : (∃ n ∈ x.link.notices, n.source = .capture) ↔ queued := by
    rw [← queued_iff, queued_of_outer hout]
    exact queued_iff .capture p
  refine ⟨(ringTest_clock x).trans (clock_of_outer hout :), ?_, ?_, ?_, (ringTest_capture x).trans hcapture,
    (ringTest_engine x).trans (engine_of_outer hout :), (ringTest_pins x).trans (pins_of_outer hout :),
    (ringTest_triggers x).trans (triggers_of_outer hout :), (ringTest_guard x).trans (guard_of_outer hout :),
    (ringTest_safe x).trans (safe_of_outer hout :), (ringTest_patterns x).trans (patterns_of_outer hout :),
    (ringTest_monitors x).trans (monitors_of_outer hout :)⟩
  · rw [← hmarks]; exact ringTest_marks x
  · rw [ringTest_flush (by rw [hmarks]), hqueued, hcapture, hlevels, (clock_of_outer hout :)]
  · rw [ringTest_queued, hqueued, hcapture, hlevels]

end Sys2Proof.Machine
end

section
/-! SUPPORT. What a motion brings about: the travels, the marks counted, and the waiters met (R57, R69, R71, R75, R140). -/

namespace Sys2Proof.Machine

open Sys2Proof

/-! ### Travel (R57, R140) -/

/-- A table mapped by a function that keeps its default reads the mapped place. -/
theorem getD_map_of_fixed {α : Type} {f : α → α} {d : α} (h : f d = d) (xs : List α) (i : Nat) :
    (xs.map f).getD i d = f (xs.getD i d) := by
  simp only [List.getD_eq_getElem?_getD, List.getElem?_map]
  cases xs[i]? <;> simp [h]

/-- A channel with a motion's travel added to its record in play. -/
def Channel.travelled (now : Nat) (m : Move) (ch : Channel) : Channel :=
  match ch.state, ch.playing with
  | .running, some (pl, r) =>
    if r.basis = .angle && pl.startTick < now && !reachedLength now pl r then
      { ch with play := some { pl with travel := m.travel pl.travel } }
    else ch
  | _, _ => ch

/-- An entry with a motion's travel added to its duration. -/
def Entry.travelled (now : Nat) (m : Move) (e : Entry) : Entry :=
  match e.state, e.definition.map EntryDef.duration with
  | .active, some (.angle n) =>
    if e.activeTick < now && e.travel < n * Config.unitParts then { e with travel := m.travel e.travel } else e
  | _, _ => e

theorem addTravel_channel (m : Move) (p : Part) (c : Nat) :
    (p.addTravel m).channel c = (p.channel c).travelled p.clock.ticks m :=
  getD_map_of_fixed (f := Channel.travelled p.clock.ticks m) rfl p.channels c

theorem addTravel_entry (m : Move) (p : Part) (e : Nat) :
    (p.addTravel m).entry e = (p.entry e).travelled p.clock.ticks m :=
  getD_map_of_fixed (f := Entry.travelled p.clock.ticks m) rfl p.entries e

/-- A channel's travel is written into its record in play alone. -/
theorem channel_travelled_eq (now : Nat) (m : Move) (ch : Channel) :
    ch.travelled now m = { ch with play := (ch.travelled now m).play } := by
  unfold Channel.travelled
  split
  · split <;> rfl
  · rfl

theorem entry_travelled_eq (now : Nat) (m : Move) (e : Entry) :
    e.travelled now m = { e with travel := (e.travelled now m).travel } := by
  unfold Entry.travelled
  split
  · split <;> rfl
  · rfl

theorem reachedLength_angle {r : Segment} (h : r.basis = .angle) (now : Nat) (pl : Play) :
    reachedLength now pl r = decide (r.length * 65536 ≤ pl.travel) := by
  simp only [reachedLength, h]; rfl

/-- The play of a channel with a segment in play, after a motion (R57). -/
theorem channel_travelled_play {now : Nat} {m : Move} {ch : Channel} {pl : Play} {slot : Nat} {r : Segment}
    (hp : ch.play = some pl) (hq : ch.queue[pl.place]? = some { slot := slot, content := .segment r }) :
    (ch.travelled now m).play = some
      (if ch.state = .running ∧ r.basis = .angle ∧ pl.startTick < now ∧ pl.travel < r.length * 65536 then
        { pl with travel := m.travel pl.travel } else pl) := by
  have hplaying : ch.playing = some (pl, r) := by simp [Channel.playing, hp, hq]
  have hmoves : (decide (r.basis = .angle) && decide (pl.startTick < now) && !reachedLength now pl r) = true ↔
      r.basis = .angle ∧ pl.startTick < now ∧ pl.travel < r.length * 65536 := by
    cases hb : r.basis with
    | time => simp
    | angle => simp [reachedLength_angle hb]
  by_cases hs : ch.state = .running
  · simp only [Channel.travelled, hs, hplaying, true_and, hmoves]
    split
    · rfl
    · exact hp
  · have hstill : ch.travelled now m = ch := by
      unfold Channel.travelled
      split
      · exact absurd ‹_› hs
      · rfl
    rw [hstill, if_neg (fun h => hs h.1), hp]

/-- The travel of an entry's ANGLE duration, after a motion (R140). -/
theorem entry_travelled_angle {now : Nat} {m : Move} {e : Entry} {d : EntryDef} {n : Nat} (hd : e.definition = some d)
    (hn : d.duration = .angle n) :
    (e.travelled now m).travel =
      if e.state = .active ∧ e.activeTick < now ∧ e.travel < n * 65536 then m.travel e.travel else e.travel := by
  have hmoves : (decide (e.activeTick < now) && decide (e.travel < n * Config.unitParts)) = true ↔
      e.activeTick < now ∧ e.travel < n * 65536 := by
    rw [Bool.and_eq_true, decide_eq_true_eq, decide_eq_true_eq]; rfl
  by_cases hs : e.state = .active
  · simp only [Entry.travelled, hs, hd, Option.map_some, hn, true_and, hmoves]
    split <;> rfl
  · have hstill : e.travelled now m = e := by
      unfold Entry.travelled
      split
      · exact absurd ‹_› hs
      · rfl
    rw [hstill, if_neg (fun h => hs h.1)]

/-- An entry with no ANGLE duration travels nowhere. -/
theorem entry_travelled_still {now : Nat} {m : Move} {e : Entry} {d : EntryDef} (hd : e.definition = some d)
    (hn : ∀ n, d.duration ≠ .angle n) : e.travelled now m = e := by
  unfold Entry.travelled
  split
  · rename_i n _ hdur
    rw [hd] at hdur
    exact absurd (Option.some.inj hdur) (hn n)
  · rfl

/-! ### The marks counted (R75) -/

/-- Writing some places of a table in turn, each from what it reads, writes each of them once. -/
theorem foldl_set_eq_mapIdx {α : Type} (f : α → α) (d : α) (ns : List Nat) (h : ns.Nodup) (xs : List α) :
    ns.foldl (fun ys n => ys.set n (f (ys.getD n d))) xs = xs.mapIdx fun i x => if i ∈ ns then f x else x := by
  induction ns generalizing xs with
  | nil => exact List.ext_getElem (by simp) (by simp)
  | cons n ns ih =>
    obtain ⟨hn, hns⟩ := List.nodup_cons.mp h
    rw [List.foldl_cons, ih hns]
    refine List.ext_getElem (by simp) fun i h1 h2 => ?_
    simp only [List.getElem_mapIdx, List.getElem_set, List.mem_cons]
    by_cases hi : n = i
    · subst hi
      have hlt : n < xs.length := by simpa using h2
      simp [hn, List.getD_eq_getElem?_getD, hlt]
    · simp [hi, Ne.symm hi]

/-- The slots that a test of their contents picks, each written in turn by one operation, are the table with it done to those. -/
theorem foldl_slots {g : Nat → Part → Part} {f : Stamp → EventSlot → EventSlot}
    (hg : ∀ n q, g n q = q.setSlot n (f q.stamp (q.slot n))) (pick : EventSlot → Bool) {p : Part}
    (hlen : p.slots.length = 16) :
    ((List.range 16).filter fun n => pick (p.slot n)).foldl (fun q n => g n q) p =
      { p with slots := p.slots.map fun y => if pick y then f p.stamp y else y } := by
  have hfold (ns : List Nat) (q : Part) : ns.foldl (fun q n => g n q) q =
      { q with slots := ns.foldl (fun ys n => ys.set n (f q.stamp (ys.getD n EventSlot.atReset))) q.slots } := by
    induction ns generalizing q with
    | nil => rfl
    | cons n ns ih => rw [List.foldl_cons, ih, hg]; rfl
  rw [hfold, foldl_set_eq_mapIdx _ _ _ (List.nodup_range.filter _)]
  congr 1
  refine List.ext_getElem (by simp) fun i h1 h2 => ?_
  have hi : i < p.slots.length := by simpa using h2
  have hslot : p.slot i = p.slots[i] := by simp [Part.slot, List.getD_eq_getElem?_getD, hi]
  simp [hslot, hlen ▸ hi]

/-- A slot as it counts its marked angle. -/
def EventSlot.marked (st : Stamp) (y : EventSlot) : EventSlot :=
  match y.source with
  | .angleMark a => { y with count := (y.count + 1) % 4294967296, last := some (st, .angle a) }
  | _ => y

/-- Whether a slot's marked angle is one a motion passes. -/
def EventSlot.markPassed (m : Move) (y : EventSlot) : Bool :=
  match y.source with
  | .angleMark a => m.passes a
  | _ => false

/-- A slot written with what it holds changes nothing. -/
theorem setSlot_self (n : Nat) (p : Part) : p.setSlot n (p.slot n) = p := by
  have hset : p.slots.set n (p.slot n) = p.slots := by
    rcases Nat.lt_or_ge n p.slots.length with h | h
    · simp [Part.slot, List.getD_eq_getElem?_getD, h]
    · exact List.set_eq_of_length_le h
  rw [Part.setSlot, hset]

theorem countMark_eq (n : Nat) (p : Part) : p.countMark n = p.setSlot n ((p.slot n).marked p.stamp) := by
  cases hs : (p.slot n).source with
  | angleMark a => simp only [Part.countMark, EventSlot.marked, hs]; rw [← hs]; rfl
  | _ => simp only [Part.countMark, EventSlot.marked, hs, setSlot_self]

/-- What a motion does to the slots: each whose marked angle it passes counts it. -/
theorem passings_slots (m : Move) {p : Part} (h : p.slots.length = 16) :
    (p.passings m).1 = { p with slots := p.slots.map fun y => if y.markPassed m then y.marked p.stamp else y } :=
  foldl_slots countMark_eq (EventSlot.markPassed m) h

/-- MotionTaken of O56: the travels, the marks counted, and then what is met and the renders. -/
theorem motionTaken : Claims.MotionTaken := by
  intro x m p hlen now travelled counted q
  have htravel (n : Nat) : m.travel n = travelled n := rfl
  have hcounted : (q.slots.map fun y => if y.markPassed m then y.marked q.stamp else y) = counted := by
    refine List.map_congr_left fun y _ => ?_
    obtain ⟨source, count, last⟩ := y
    cases source <;> rfl
  refine ⟨fun c => ?_, fun c pl slot r hp hq => ?_, fun e => ?_, fun e d hd => ⟨fun hn => ?_, fun n hn => ?_⟩, rfl, ?_, rfl⟩
  · rw [addTravel_channel]; exact channel_travelled_eq now m _
  · rw [addTravel_channel]; exact channel_travelled_play hp hq
  · rw [addTravel_entry]; exact entry_travelled_eq now m _
  · rw [addTravel_entry]; exact congrArg Entry.travel (entry_travelled_still hd hn)
  · rw [addTravel_entry]; exact entry_travelled_angle hd hn
  · rw [passings_slots m (p := q) hlen, hcounted]

/-! ### The waiters met (R69, R71) -/

/-- A floor below 2^32 is at or before a cycle as MotionMeets spells it. -/
theorem atOrAfter_of_lt {c n : Nat} (h : n < 4294967296) :
    atOrAfter c n = true ↔ (c + (4294967296 - n)) % 4294967296 < 2147483648 := by
  simp only [atOrAfter, Config.mod32, Nat.mod_eq_of_lt h, decide_eq_true_eq]

/-- What a motion that passes no marked angle meets: the angle forms it meets, of the entries and then of the groups. -/
theorem metTasks_of_no_slot (m : Move) (p : Part) :
    p.metTasks [] (some m) =
      ((List.range 128).filterMap fun e => (p.entryMet [] (some m) e).bind fun point =>
        (p.entry e).waiting.map fun w => Task.due e w point) ++
      ((List.range 8).filterMap fun g => (p.group g).armed.bind fun a =>
        (p.met [] (some m) a.2).map fun _ => Task.startGroup g a.2) := by
  unfold Part.metTasks Part.dueTasks
  rw [List.filter_eq_nil_iff.mpr ?_, List.map_nil, List.append_nil]
  · rfl
  · intro e _
    split <;> simp

/-- Which waiting form a motion meets of itself. -/
theorem met_of_no_slot (m : Move) (w : Waiting) (p : Part) :
    p.met [] (some m) w =
      match w with
      | .angle a floor =>
        if m.passes a = true ∧ (∀ n ∈ floor, atOrAfter (m.passCycle a) n = true) then some (m.passCycle a) else none
      | _ => none := by
  cases w with
  | time t => rfl
  | event s n => rfl
  | angle a floor => simp [Part.met, Move.meets, Move.point, Option.all_eq_true]

/-- MotionMeets of O56: with no angle marked, what is met is the angle forms of the entries and of the groups. -/
theorem motionMeets : Claims.MotionMeets := by
  intro m p hlen hmarks floors hentries hgroups
  have hno : p.marksPassed m = [] := by
    refine List.filter_eq_nil_iff.mpr fun n hn => ?_
    split
    · exact absurd ‹_› (hmarks n (List.mem_range.mp hn) _)
    · simp
  have hpass : p.passings m = (p, p.metTasks [] (some m)) := by
    unfold Part.passings
    rw [hno]; rfl
  have hfloor (c : Nat) {w : Waiting} {a : Nat} {floor : Option Nat} (hw : w = .angle a floor) (hf : floors w) :
      (∀ n ∈ floor, atOrAfter c n = true) ↔ ∀ n ∈ floor, (c + (4294967296 - n)) % 4294967296 < 2147483648 := by
    refine forall₂_congr fun n hn => atOrAfter_of_lt (hf a n ?_)
    rw [hw, Option.mem_def.mp hn]
  refine ⟨by rw [hpass], ?_⟩
  rw [hpass, metTasks_of_no_slot]
  refine congrArg₂ (· ++ ·) ?_ ?_
  · refine List.filterMap_congr fun e _ => ?_
    unfold Part.entryMet
    cases hw : (p.entry e).waiting with
    | none => simp
    | some w =>
      cases w with
      | angle a floor =>
        simp only [Option.bind_some, Option.map_some, met_of_no_slot, hfloor _ rfl (hentries e _ hw)]
        split_ifs <;> simp_all
      | event s n => simp [met_of_no_slot]
      | time t => simp [met_of_no_slot]
  · refine List.filterMap_congr fun g _ => ?_
    cases ha : (p.group g).armed with
    | none => rfl
    | some h =>
      obtain ⟨c, w⟩ := h
      cases w with
      | angle a floor =>
        simp only [Option.bind_some, met_of_no_slot, hfloor _ rfl (hgroups g c _ ha)]
        split_ifs <;> rfl
      | event s n => rfl
      | time t => rfl

/-- Settles O56: the pins' changes, the tick, and what a motion does and meets. -/
theorem tickTaken : Obligations.TickTaken := ⟨pinsChanged, tickItself, motionTaken, motionMeets⟩

end Sys2Proof.Machine
end

section
/-! SUPPORT. Releases begun: what `beginRelease` leaves of the entry, of its lines, and of everything else (R110, R116, R143). -/

namespace Sys2Proof.Machine

open Sys2Proof

/-! ### The part but for its entries and its lines -/

/-- The part but for its entries and its lines. -/
def Part.bare (p : Part) : Part := { p with entries := [], matrix := { p.matrix with lines := [] } }

@[simp] theorem setEntry_bare (e : Nat) (x : Entry) (p : Part) : (p.setEntry e x).bare = p.bare := rfl
@[simp] theorem setLine_bare (l : Nat) (x : Line) (p : Part) : (p.setLine l x).bare = p.bare := rfl
@[simp] theorem setCell_bare (l : Nat) (c : CellId) (x : Cell) (p : Part) : (p.setCell l c x).bare = p.bare := rfl
@[simp] theorem commandOpen_bare (l : Nat) (c : CellId) (p : Part) : (p.commandOpen l c).bare = p.bare := rfl
@[simp] theorem commandClosed_bare (l : Nat) (c : CellId) (p : Part) : (p.commandClosed l c).bare = p.bare := rfl

@[simp] theorem raise_bare (src : NoticeSource) (p : Part) : (p.raise src).bare = p.bare.raise src := by
  have hlink : p.bare.link = p.link := rfl
  have hqueued : p.bare.queued src = p.queued src := rfl
  unfold Part.raise
  rw [hlink, hqueued]
  split <;> [rfl; (split <;> rfl)]

@[simp] theorem logError_bare (code : ErrCode) (sub : Subject) (d : Int) (p : Part) :
    (p.logError code sub d).bare = p.bare.logError code sub d := raise_bare _ _

@[simp] theorem commandClose_bare (l : Nat) (c : CellId) (p : Part) : (p.commandClose l c).bare = p.bare := by
  unfold Part.commandClose
  split <;> [rfl; (split <;> [rfl; (split <;> rfl)])]

@[simp] theorem giveCommands_bare (closing : Bool) (ts : List (Nat × CellId)) (p : Part) :
    (p.giveCommands closing ts).bare = p.bare :=
  foldl_keeps Part.bare (fun v t => by cases closing <;> simp) ts p

@[simp] theorem enterEntry_bare (e : Nat) (st : EntryState) (x : Entry) (p : Part) :
    (p.enterEntry e st x).bare = if (p.entry e).state = st then p.bare else p.bare.raise (.entry e) := by
  unfold Part.enterEntry
  simp only
  split <;> simp

@[simp] theorem recordCause_bare (e : Nat) (cause : EndCause) (p : Part) : (p.recordCause e cause).bare = p.bare := by
  unfold Part.recordCause
  simp only
  split <;> rfl

@[simp] theorem holdBackCloses_bare (e : Nat) (p : Part) : (p.holdBackCloses e).bare = p.bare := by
  unfold Part.holdBackCloses
  split
  · split
    · exact foldl_keeps Part.bare (fun v t => setCell_bare _ _ _ v) _ p
    · rfl
  · rfl

@[simp] theorem releaseClosing_bare (e : Nat) (fast : Bool) (broken : List Nat) (p : Part) :
    (p.releaseClosing e fast broken).1.bare = p.bare := by
  unfold Part.releaseClosing
  simp only
  split
  · rfl
  · exact giveCommands_bare ..

@[simp] theorem releaseOpening_bare (e : Nat) (fast : Bool) (p : Part) : (p.releaseOpening e fast).1.bare = p.bare := by
  unfold Part.releaseOpening
  simp only
  split
  · exact releaseClosing_bare ..
  · exact giveCommands_bare ..

/-- A release begun raises its entry's notice, and of the rest of the part changes nothing. -/
theorem beginRelease_bare {e : Nat} {p : Part} (h : (p.entry e).state ≠ .releasing) (fast : Bool) :
    (p.beginRelease e fast).1.bare = p.bare.raise (.entry e) := by
  unfold Part.beginRelease
  simp only [releaseOpening_bare]
  rw [foldl_keeps Part.bare (fun v l => setLine_bare l _ v), enterEntry_bare, if_neg h]

/-! ### Entries and lines of the shared operations -/

@[simp] theorem enterEntry_entries (e : Nat) (st : EntryState) (x : Entry) (p : Part) :
    (p.enterEntry e st x).entries = p.entries.set e { x with state := st } := by
  unfold Part.enterEntry
  simp only
  split <;> simp

@[simp] theorem enterEntry_matrix (e : Nat) (st : EntryState) (x : Entry) (p : Part) :
    (p.enterEntry e st x).matrix = p.matrix := by
  unfold Part.enterEntry
  simp only
  split <;> simp

theorem entry_of_entries {p q : Part} (h : q.entries = p.entries) (e : Nat) : q.entry e = p.entry e := by
  rw [Part.entry, h, Part.entry]

theorem line_of_lines {p q : Part} (h : q.matrix.lines = p.matrix.lines) (l : Nat) : q.line l = p.line l := by
  rw [Part.line, h, Part.line]

theorem entry_of_set {e : Nat} {x : Entry} {p q : Part} (h : q.entries = p.entries.set e x) (he : e < p.entries.length) :
    q.entry e = x := (entry_of_entries (q := q) (p := p.setEntry e x) h e).trans (entry_setEntry e x p he)

theorem entry_of_set_ne {e k : Nat} {x : Entry} {p q : Part} (h : q.entries = p.entries.set e x) (hk : k ≠ e) :
    q.entry k = p.entry k := (entry_of_entries (q := q) (p := p.setEntry e x) h k).trans (entry_setEntry_ne hk x p)

/-- A line in a state other than PASS is one of the part's lines. -/
theorem line_lt {l : Nat} {p : Part} (h : (p.line l).state ≠ .pass) : l < p.matrix.lines.length := by
  by_contra hl
  exact h (by simp [Part.line, List.getD_eq_getElem?_getD, hl, Line.atReset])

/-- The lines after one change made to each of some in turn, a change that made twice is made once; it may look at the outer
side, which stays. -/
theorem foldl_line {g : Part → Nat → Part} {f : Part → Line → Line} (hf : ∀ v x, f v (f v x) = f v x)
    (hg : ∀ q l, (g q l).matrix.lines = q.matrix.lines.set l (f q.outer (q.line l)))
    (ho : ∀ q l, (g q l).outer = q.outer) {ls : List Nat} {p : Part} (hls : ∀ k ∈ ls, k < p.matrix.lines.length) (l : Nat) :
    (ls.foldl g p).line l = if l ∈ ls then f p.outer (p.line l) else p.line l := by
  induction ls generalizing p with
  | nil => rfl
  | cons k ks ih =>
    have hk : k < p.matrix.lines.length := hls k List.mem_cons_self
    have hlen : (g p k).matrix.lines.length = p.matrix.lines.length := by rw [hg, List.length_set]
    have hset (j : Nat) : (g p k).line j = (p.setLine k (f p.outer (p.line k))).line j :=
      line_of_lines (q := g p k) (p := p.setLine k _) (hg p k) j
    rw [List.foldl_cons, ih (fun j hj => hlen ▸ hls j (List.mem_cons_of_mem k hj)), ho, hset]
    by_cases hlk : l = k
    · subst hlk
      rw [line_setLine _ _ _ hk, hf]
      simp
    · rw [line_setLine_ne hlk]
      simp [hlk]

/-! ### A release begun (R110) -/

theorem mem_heldLines_state {e : Nat} {d : Electrical} {p : Part} {l : Nat} (h : l ∈ p.heldLines e d) :
    (p.line l).state = .held e := of_decide_eq_true (List.mem_filter.mp h).2

theorem heldLines_lt {e : Nat} {d : Electrical} {p : Part} {l : Nat} (h : l ∈ p.heldLines e d) :
    l < p.matrix.lines.length :=
  line_lt (by rw [mem_heldLines_state h]; exact LineState.noConfusion)

theorem linesHeldBy_eq {e : Nat} {d : Electrical} {p : Part} (h : (p.entry e).electrical? = some d) :
    p.linesHeldBy e = p.heldLines e d := by
  simp only [Part.linesHeldBy, h]; rfl

/-- The lines an entry holds by the matrix's own record are the same wherever the lines' states are. -/
theorem heldLines_congr {e : Nat} {d : Electrical} {p q : Part}
    (h : ∀ l, (q.line l).state = .held e ↔ (p.line l).state = .held e) : q.heldLines e d = p.heldLines e d :=
  List.filter_congr fun l _ => decide_eq_decide.mpr (h l)

theorem openTargets_eq {e : Nat} {d : Electrical} {p : Part} (h : (p.entry e).electrical? = some d) :
    p.openTargets e = p.releaseOpens e d := by
  simp only [Part.openTargets, h, linesHeldBy_eq h]; rfl

theorem closeTargets_eq {e : Nat} {d : Electrical} {p : Part} (h : (p.entry e).electrical? = some d) :
    p.closeTargets e = p.releaseCloses e d := by
  simp only [Part.closeTargets, linesHeldBy_eq h]; rfl

/-- The cells a release opens are the fault cell of each held line that has it commanded CLOSED. -/
theorem releaseOpens_of_faultCell {e : Nat} {d : Electrical} {p : Part} {c : CellId} (h : d.faultCell = some c) :
    p.releaseOpens e d = ((p.heldLines e d).filter fun l => (p.cell l c).commanded).map fun l => (l, c) := by
  unfold Part.releaseOpens
  rw [h]
  induction p.heldLines e d with
  | nil => rfl
  | cons l ls ih =>
    rw [List.flatMap_cons, ih]
    cases hc : (p.cell l c).commanded <;> simp [hc]

theorem releaseOpens_of_none {e : Nat} {d : Electrical} {p : Part} (h : d.faultCell = none) : p.releaseOpens e d = [] := by
  simp [Part.releaseOpens, h]

/-- An entry as its release begins: RELEASING, its overcurrent watch and chatter ended. -/
def Entry.lettingGo (x : Entry) : Entry :=
  { x with state := .releasing, runs := [], chatter := none, untilWatch := false, seq := none }

/-- No close held back on a line is given any more. -/
def Part.dropClose (p : Part) (l : Nat) : Part := p.setLine l { p.line l with heldClose := none }

/-- The part as a release finds it: the entry RELEASING, and no close held back on its lines. -/
def Part.lettingGo (e : Nat) (d : Electrical) (p : Part) : Part :=
  (p.heldLines e d).foldl Part.dropClose (p.enterEntry e .releasing (p.entry e).lettingGo)

section
variable {e : Nat} {d : Electrical} {p : Part}

theorem beginRelease_eq (h : (p.entry e).electrical? = some d) (he : e < p.entries.length) (fast : Bool) :
    p.beginRelease e fast = (p.lettingGo e d).releaseOpening e fast := by
  have hentered : ((p.enterEntry e .releasing (p.entry e).lettingGo).entry e).electrical? = some d := by
    rw [entry_of_set (enterEntry_entries ..) he]; exact h
  have hheld : (p.enterEntry e .releasing (p.entry e).lettingGo).linesHeldBy e = p.heldLines e d := by
    rw [linesHeldBy_eq hentered]
    exact heldLines_congr fun l => by rw [line_of_lines (congrArg Matrix.lines (enterEntry_matrix ..))]
  unfold Part.lettingGo
  rw [← hheld]
  rfl

theorem lettingGo_entries : (p.lettingGo e d).entries = p.entries.set e (p.entry e).lettingGo := by
  unfold Part.lettingGo
  exact (foldl_keeps Part.entries (f := Part.dropClose) (fun _ _ => rfl) _ _).trans (enterEntry_entries ..)

theorem lettingGo_line (l : Nat) :
    (p.lettingGo e d).line l = if l ∈ p.heldLines e d then { p.line l with heldClose := none } else p.line l := by
  have henter (k : Nat) : (p.enterEntry e .releasing (p.entry e).lettingGo).line k = p.line k :=
    line_of_lines (congrArg Matrix.lines (enterEntry_matrix ..)) k
  unfold Part.lettingGo
  rw [foldl_line (g := Part.dropClose) (f := fun _ x => { x with heldClose := none }) (fun _ _ => rfl) (fun _ _ => rfl)
    (fun _ _ => rfl) (fun k hk => by rw [enterEntry_matrix]; exact heldLines_lt hk), henter]

/-- Letting go leaves every line's state and cells, and its last open. -/
theorem lettingGo_line_with (l : Nat) : (p.lettingGo e d).line l = { p.line l with
    heldClose := ((p.lettingGo e d).line l).heldClose } := by
  rw [lettingGo_line]
  split <;> rfl

theorem lettingGo_heldLines (k : Nat) (d' : Electrical) : (p.lettingGo e d).heldLines k d' = p.heldLines k d' :=
  heldLines_congr fun l => by rw [lettingGo_line_with]

theorem lettingGo_cell (l : Nat) (c : CellId) : (p.lettingGo e d).cell l c = p.cell l c := by
  rw [Part.cell, lettingGo_line_with]; rfl

theorem lettingGo_releaseOpens : (p.lettingGo e d).releaseOpens e d = p.releaseOpens e d := by
  simp only [Part.releaseOpens, lettingGo_heldLines, lettingGo_cell]

theorem lettingGo_releaseCloses : (p.lettingGo e d).releaseCloses e d = p.releaseCloses e d := by
  simp only [Part.releaseCloses, lettingGo_heldLines, lettingGo_cell]

theorem lettingGo_outer : (p.lettingGo e d).outer = p.outer := by
  unfold Part.lettingGo
  exact (foldl_keeps Part.outer (f := Part.dropClose) (fun _ _ => rfl) _ _).trans (enterEntry_outer ..)

theorem lettingGo_electrical (h : (p.entry e).electrical? = some d) (he : e < p.entries.length) :
    ((p.lettingGo e d).entry e).electrical? = some d := by
  rw [entry_of_set lettingGo_entries he]; exact h

/-- A release with nothing to command has ended at once. -/
theorem beginRelease_of_nothing (h : (p.entry e).electrical? = some d) (he : e < p.entries.length) (fast : Bool)
    (hno : ¬p.HasToRelease e d) :
    p.beginRelease e fast = ((p.lettingGo e d).setEntry e (p.entry e).lettingGo, [.released e []]) := by
  obtain ⟨hopens, hcloses⟩ : p.releaseOpens e d = [] ∧ p.releaseCloses e d = [] := by
    simpa [Part.HasToRelease] using hno
  have helec := lettingGo_electrical h he
  rw [beginRelease_eq h he]
  unfold Part.releaseOpening Part.releaseClosing
  simp only [openTargets_eq helec, closeTargets_eq helec, lettingGo_releaseOpens, lettingGo_releaseCloses, hopens, hcloses,
    entry_of_set lettingGo_entries he, List.isEmpty_nil, if_true]
  rfl

end

/-! ### The commands of a release's first step -/

theorem giveCommands_entries (closing : Bool) (ts : List (Nat × CellId)) (p : Part) :
    (p.giveCommands closing ts).entries = p.entries := by
  refine foldl_keeps Part.entries (fun v t => ?_) ts p
  cases closing with
  | false => rfl
  | true =>
    unfold Part.commandClose
    split_ifs <;> rfl

/-- A cell commanded the same way twice is commanded once. -/
theorem setCell_commanded_twice (b : Bool) (c : CellId) (x : Line) :
    (x.setCell c { x.cell c with commanded := b }).setCell c
      { (x.setCell c { x.cell c with commanded := b }).cell c with commanded := b } =
    x.setCell c { x.cell c with commanded := b } := by
  rcases Nat.lt_or_ge (cellIndex c) x.cells.length with h | h
  · simp [Line.setCell, Line.cell, List.getD_eq_getElem?_getD, h]
  · simp [Line.setCell, Line.cell, List.set_eq_of_length_le h]

theorem opened_opened (now : Nat) (c : CellId) (x : Line) : (x.opened now c).opened now c = x.opened now c :=
  congrArg (fun y : Line => { y with lastOpen := now, heldClose := none }) (setCell_commanded_twice false c x)

theorem closed_closed (c : CellId) (x : Line) : (x.closed c).closed c = x.closed c :=
  congrArg (fun y : Line => { y with heldClose := none }) (setCell_commanded_twice true c x)

/-- Opening one cell on each of some lines. -/
theorem giveCommands_open_line {ls : List Nat} {p : Part} (c : CellId) (hls : ∀ k ∈ ls, k < p.matrix.lines.length) (l : Nat) :
    (p.giveCommands false (ls.map fun k => (k, c))).line l =
      if l ∈ ls then (p.line l).opened p.clock.ticks c else p.line l := by
  unfold Part.giveCommands
  rw [List.foldl_map]
  exact foldl_line (g := fun q k => q.commandOpen k c) (f := fun v x => x.opened v.clock.ticks c)
    (fun v => opened_opened v.clock.ticks c) (fun _ _ => rfl) (fun _ _ => rfl) hls l

/-- Closing the series cell of each of some lines. -/
theorem giveCommands_close_line {ls : List Nat} {p : Part} (hls : ∀ k ∈ ls, k < p.matrix.lines.length) (l : Nat) :
    (p.giveCommands true (ls.map fun k => (k, .series))).line l =
      if l ∈ ls then (p.line l).closed .series else p.line l := by
  unfold Part.giveCommands
  rw [List.foldl_map]
  exact foldl_line (g := fun q k => q.commandClosed k .series) (f := fun _ x => x.closed .series) (fun _ => closed_closed .series)
    (fun _ _ => rfl) (fun _ _ => rfl) hls l

/-- The first step of a release: the cells commanded, and its readback one settle interval later. -/
def firstStep (fast closing : Bool) (targets : List (Nat × CellId)) (readAt : Nat) : Seq :=
  { phase := if closing then .closing else .opening, fast := fast, disarmed := false, broken := [], followed := none
    step := { closing := closing, verified := !fast, targets := targets, attempt := 1, readAt := some readAt } }

/-- Where no close is held back on a target, the readback comes one settle interval after the commands. -/
theorem readTick_of_none {ts : List (Nat × CellId)} {p : Part} (h : ∀ t ∈ ts, (p.line t.1).heldClose = none) :
    p.readTick ts = some (p.clock.ticks + p.matrix.settle) := by
  refine if_neg ?_
  rw [List.any_eq_true]
  rintro ⟨t, ht, hheld⟩
  rw [h t ht] at hheld
  cases hheld

theorem settle_of_outer {p q : Part} (h : q.outer = p.outer) : q.matrix.settle = p.matrix.settle :=
  (congrArg (fun v => v.matrix.settle) h :)

section
variable {e : Nat} {d : Electrical} {p : Part}

/-- The cells a release opens are one fault cell of some of the held lines. -/
theorem releaseOpens_eq_map {c : CellId} (h : d.faultCell = some c) :
    ∃ ls : List Nat, p.releaseOpens e d = ls.map (fun l => (l, c)) ∧ (∀ l ∈ ls, l < p.matrix.lines.length) ∧
      ∀ l, l ∈ ls ↔ l ∈ p.heldLines e d ∧ (p.cell l c).commanded = true :=
  ⟨_, releaseOpens_of_faultCell h, fun _ hl => heldLines_lt (List.mem_filter.mp hl).1, fun _ => List.mem_filter⟩

theorem releaseCloses_eq_map (e : Nat) (d : Electrical) (p : Part) :
    ∃ ls : List Nat, p.releaseCloses e d = ls.map (fun l => (l, CellId.series)) ∧ (∀ l ∈ ls, l < p.matrix.lines.length) ∧
      ∀ l, l ∈ ls ↔ l ∈ p.heldLines e d ∧ (p.cell l .series).commanded = false :=
  ⟨_, rfl, fun _ hl => heldLines_lt (List.mem_filter.mp hl).1, fun _ => by rw [List.mem_filter, Bool.not_eq_true']⟩

theorem lettingGo_lines_length : (p.lettingGo e d).matrix.lines.length = p.matrix.lines.length := by
  unfold Part.lettingGo
  refine (foldl_keeps (fun v => v.matrix.lines.length) (f := Part.dropClose) (fun v l => ?_) _ _).trans ?_
  · simp [Part.dropClose]
  · rw [enterEntry_matrix]

/-- A release that begins by opening fault cells. -/
theorem beginRelease_of_opens (h : (p.entry e).electrical? = some d) (he : e < p.entries.length) (fast : Bool)
    (hopens : p.releaseOpens e d ≠ []) :
    p.beginRelease e fast =
      (((p.lettingGo e d).giveCommands false (p.releaseOpens e d)).setEntry e { (p.entry e).lettingGo with
        seq := some (firstStep fast false (p.releaseOpens e d) (p.clock.ticks + p.matrix.settle)) }, []) := by
  have helec := lettingGo_electrical h he
  obtain ⟨c, hc⟩ : ∃ c, d.faultCell = some c := Option.ne_none_iff_exists'.mp fun hn => hopens (releaseOpens_of_none hn)
  obtain ⟨ls, hls, hlt, hmem⟩ := releaseOpens_eq_map (e := e) (p := p) hc
  have hread : ((p.lettingGo e d).giveCommands false (p.releaseOpens e d)).readTick (p.releaseOpens e d) =
      some (p.clock.ticks + p.matrix.settle) := by
    have hout : ((p.lettingGo e d).giveCommands false (p.releaseOpens e d)).outer = p.outer :=
      (giveCommands_outer ..).trans lettingGo_outer
    rw [readTick_of_none, clock_of_outer hout, settle_of_outer hout]
    rw [hls]
    intro t ht
    obtain ⟨l, hl, rfl⟩ := List.mem_map.mp ht
    rw [giveCommands_open_line c (fun k hk => by rw [lettingGo_lines_length]; exact hlt k hk), if_pos hl]
    rfl
  rw [beginRelease_eq h he]
  unfold Part.releaseOpening Part.beginAttempt
  simp only [openTargets_eq helec, lettingGo_releaseOpens, List.isEmpty_iff, hopens, if_false, hread]
  rw [entry_of_entries (giveCommands_entries ..), entry_of_set lettingGo_entries he]
  rfl

/-- A release that begins by closing series cells. -/
theorem beginRelease_of_closes (h : (p.entry e).electrical? = some d) (he : e < p.entries.length) (fast : Bool)
    (hopens : p.releaseOpens e d = []) (hcloses : p.releaseCloses e d ≠ []) :
    p.beginRelease e fast =
      (((p.lettingGo e d).giveCommands true (p.releaseCloses e d)).setEntry e { (p.entry e).lettingGo with
        seq := some (firstStep fast true (p.releaseCloses e d) (p.clock.ticks + p.matrix.settle)) }, []) := by
  have helec := lettingGo_electrical h he
  obtain ⟨ls, hls, hlt, hmem⟩ := releaseCloses_eq_map e d p
  have hread : ((p.lettingGo e d).giveCommands true (p.releaseCloses e d)).readTick (p.releaseCloses e d) =
      some (p.clock.ticks + p.matrix.settle) := by
    have hout : ((p.lettingGo e d).giveCommands true (p.releaseCloses e d)).outer = p.outer :=
      (giveCommands_outer ..).trans lettingGo_outer
    rw [readTick_of_none, clock_of_outer hout, settle_of_outer hout]
    rw [hls]
    intro t ht
    obtain ⟨l, hl, rfl⟩ := List.mem_map.mp ht
    rw [giveCommands_close_line (fun k hk => by rw [lettingGo_lines_length]; exact hlt k hk), if_pos hl]
    rfl
  rw [beginRelease_eq h he]
  unfold Part.releaseOpening Part.releaseClosing Part.beginAttempt
  simp only [openTargets_eq helec, closeTargets_eq helec, lettingGo_releaseOpens, lettingGo_releaseCloses,
    List.isEmpty_iff, hopens, hcloses, if_true, if_false, hread]
  rw [entry_of_entries (giveCommands_entries ..), entry_of_set lettingGo_entries he]
  rfl

theorem lettingGo_with_cause {x : Entry} {cause : EndCause} (h : x.endCause = some cause) (seq : Option Seq) :
    { x.lettingGo with seq := seq } = { x with
      state := .releasing, endCause := some cause, runs := [], chatter := none, untilWatch := false, seq := seq } := by
  rw [← h]
  rfl

/-- A release begun with something to command is the release its rule describes (R110). -/
theorem beginRelease_releasing (h : (p.entry e).electrical? = some d) (he : e < p.entries.length) (fast : Bool)
    {cause : EndCause} (hcause : (p.entry e).endCause = some cause) :
    p.Releasing fast e d cause (p.beginRelease e fast).1 := by
  unfold Part.Releasing
  intro now opens closes released
  have hentry (v : Part) (hv : v.entries = p.entries.set e (p.entry e).lettingGo) (x : Entry) : (v.setEntry e x).entry e = x :=
    entry_setEntry e x v (by rw [hv, List.length_set]; exact he)
  refine ⟨fun hopens => ?_, fun hopens hcloses => ?_⟩
  · rw [beginRelease_of_opens h he fast hopens]
    refine ⟨?_, fun l hl => ?_⟩
    · rw [hentry _ ((giveCommands_entries ..).trans lettingGo_entries)]
      exact lettingGo_with_cause hcause _
    · obtain ⟨c, hc⟩ : ∃ c, d.faultCell = some c := Option.ne_none_iff_exists'.mp fun hn => hopens (releaseOpens_of_none hn)
      obtain ⟨ls, hls, hlt, hmem⟩ := releaseOpens_eq_map (e := e) (p := p) hc
      show (Part.giveCommands false (p.releaseOpens e d) (p.lettingGo e d)).line l = _
      rw [hls, giveCommands_open_line c (fun k hk => by rw [lettingGo_lines_length]; exact hlt k hk), lettingGo_line, if_pos hl,
        clock_of_outer lettingGo_outer, hc]
      simp only [hmem, hl, true_and]
      rfl
  · rw [beginRelease_of_closes h he fast hopens hcloses]
    refine ⟨?_, fun l hl => ?_⟩
    · rw [hentry _ ((giveCommands_entries ..).trans lettingGo_entries)]
      exact lettingGo_with_cause hcause _
    · obtain ⟨ls, hls, hlt, hmem⟩ := releaseCloses_eq_map e d p
      show (Part.giveCommands true (p.releaseCloses e d) (p.lettingGo e d)).line l = _
      rw [hls, giveCommands_close_line (fun k hk => by rw [lettingGo_lines_length]; exact hlt k hk), lettingGo_line, if_pos hl]
      simp only [hmem, hl, true_and]
      cases (p.cell l .series).commanded <;> rfl

end

end Sys2Proof.Machine
end

section
/-! SUPPORT. Work on one entry: what it leaves of the other entries and of their lines, and what that says of work on each entry
in turn. -/

namespace Sys2Proof.Machine

open Sys2Proof

/-! ### Folds whose steps each leave alone what the others look at -/

section
variable {α : Type} {R : Nat → α → α → Prop} {step : α → Nat → α}

/-- What no number of a fold concerns, the fold leaves alone. -/
theorem foldl_frame (refl : ∀ j v, R j v v) (trans : ∀ {j u v w}, R j u v → R j v w → R j u w)
    (hstep : ∀ v k j, j ≠ k → R j v (step v k)) {ns : List Nat} {j : Nat} (hj : j ∉ ns) (v : α) : R j v (ns.foldl step v) := by
  induction ns generalizing v with
  | nil => exact refl j v
  | cons n ns ih =>
    obtain ⟨hjn, hjns⟩ := not_or.mp (List.mem_cons.not.mp hj)
    exact trans (hstep v n j hjn) (ih hjns _)

/-- A number of a fold is met once: with what it looks at as before, and left alone after. -/
theorem foldl_split (refl : ∀ j v, R j v v) (trans : ∀ {j u v w}, R j u v → R j v w → R j u w)
    (hstep : ∀ v k j, j ≠ k → R j v (step v k)) {ns : List Nat} (hns : ns.Nodup) {j : Nat} (hj : j ∈ ns) (v : α) :
    ∃ w, R j v w ∧ R j (step w j) (ns.foldl step v) := by
  induction ns generalizing v with
  | nil => cases hj
  | cons n ns ih =>
    obtain ⟨hn, hns⟩ := List.nodup_cons.mp hns
    by_cases hjn : j = n
    · subst hjn
      exact ⟨v, refl j v, foldl_frame refl trans hstep hn _⟩
    · obtain ⟨w, hw, hlast⟩ := ih hns ((List.mem_cons.mp hj).resolve_left hjn) (step v n)
      exact ⟨w, trans (hstep v n j hjn) hw, hlast⟩

/-- What each step of a fold does to something, read where the fold began, is what the fold does to it. -/
theorem foldl_reads {β : Type} (refl : ∀ j v, R j v v) (trans : ∀ {j u v w}, R j u v → R j v w → R j u w)
    (hstep : ∀ v k j, j ≠ k → R j v (step v k)) (read : α → β) {g : β → Nat → β} {ns : List Nat} (hns : ns.Nodup) {v : α}
    (h : ∀ n ∈ ns, ∀ w, R n v w → read (step w n) = g (read w) n) : read (ns.foldl step v) = ns.foldl g (read v) := by
  induction ns generalizing v with
  | nil => rfl
  | cons n ns ih =>
    obtain ⟨hn, hns⟩ := List.nodup_cons.mp hns
    have hne : ∀ m ∈ ns, m ≠ n := fun m hm hmn => hn (hmn ▸ hm)
    rw [List.foldl_cons, List.foldl_cons, ← h n List.mem_cons_self v (refl n v)]
    exact ih hns fun m hm w hw => h m (List.mem_cons_of_mem n hm) w (trans (hstep v n m (hne m hm)) hw)

end

/-! ### Beside the entries and the lines -/

/-- `q` is beside the entries and the lines as `p` is, but for what work on entries and groups writes. -/
structure Part.Beside (p q : Part) : Prop where
  outer    : q.outer = p.outer
  damage   : q.damage = p.damage
  channels : q.channels.length = p.channels.length
  slots    : q.slots.length = p.slots.length

/-- What work on an entry leaves alone beside the entries and the lines, whatever its class. -/
structure Part.Aside (p q : Part) : Prop where
  groups : q.groups = p.groups
  beside : p.Beside q

theorem Part.Beside.refl (p : Part) : p.Beside p := ⟨rfl, rfl, rfl, rfl⟩

theorem Part.Beside.trans {p q r : Part} (h : p.Beside q) (h' : q.Beside r) : p.Beside r :=
  ⟨h'.outer.trans h.outer, h'.damage.trans h.damage, h'.channels.trans h.channels, h'.slots.trans h.slots⟩

theorem Part.Aside.refl (p : Part) : p.Aside p := ⟨rfl, .refl p⟩

theorem Part.Aside.trans {p q r : Part} (h : p.Aside q) (h' : q.Aside r) : p.Aside r :=
  ⟨h'.groups.trans h.groups, h.beside.trans h'.beside⟩

/-- What stands beside the entries and the lines is read off the part without them. -/
theorem Part.Aside.of_bare {p q r : Part} (h : q.bare = r.bare) (hr : p.Aside r) : p.Aside q :=
  ⟨(congrArg Part.groups h :).trans hr.groups, (congrArg Part.outer h :).trans hr.beside.outer,
    (congrArg Part.damage h :).trans hr.beside.damage, (congrArg (fun v => v.channels.length) h :).trans hr.beside.channels,
    (congrArg (fun v => v.slots.length) h :).trans hr.beside.slots⟩

theorem aside_raise (e : Nat) (p : Part) : p.Aside (p.raise (.entry e)) :=
  ⟨by simp, by simp, by simp, by simp, by simp⟩

theorem aside_logError (code : ErrCode) (sub : Subject) (d : Int) (p : Part) : p.Aside (p.logError code sub d) :=
  ⟨by simp, by simp, by simp [Part.logError], by simp, by simp⟩

/-! ### One entry's work -/

/-- `q` is `p` after work on entry `k` alone: the other entries stand, and so does every line but those held for it, each of
which is still held or is PASS. -/
structure Part.Touches (k : Nat) (p q : Part) : Prop where
  aside      : p.Aside q
  count      : q.entries.length = p.entries.length
  size       : q.matrix.lines.length = p.matrix.lines.length
  entry      : ∀ j ≠ k, q.entry j = p.entry j
  definition : (q.entry k).definition = (p.entry k).definition
  line       : ∀ l, (p.line l).state ≠ .held k → q.line l = p.line l
  held       : ∀ l, (p.line l).state = .held k → (q.line l).state = .held k ∨ (q.line l).state = .pass

/-- Entry `e` and the lines that no other entry holds are in `q` as they are in `p`. -/
structure Part.SameAt (e : Nat) (p q : Part) : Prop where
  beside : p.Beside q
  count : q.entries.length = p.entries.length
  size  : q.matrix.lines.length = p.matrix.lines.length
  entry : q.entry e = p.entry e
  line  : ∀ l, (∀ k ≠ e, (p.line l).state ≠ .held k) → q.line l = p.line l
  held  : ∀ l, (q.line l).state = .held e → (p.line l).state = .held e

section
variable {k e : Nat} {p q r : Part}

theorem Part.Touches.refl (k : Nat) (p : Part) : p.Touches k p :=
  ⟨.refl p, rfl, rfl, fun _ _ => rfl, rfl, fun _ _ => rfl, fun _ h => .inl h⟩

theorem Part.Touches.trans (h : p.Touches k q) (h' : q.Touches k r) : p.Touches k r where
  aside := h.aside.trans h'.aside
  count := h'.count.trans h.count
  size := h'.size.trans h.size
  entry j hj := (h'.entry j hj).trans (h.entry j hj)
  definition := h'.definition.trans h.definition
  line l hl := by
    have hline := h.line l hl
    exact (h'.line l (hline ▸ hl)).trans hline
  held l hl := by
    rcases h.held l hl with hq | hq
    · exact h'.held l hq
    · exact .inr (by rw [h'.line l (by rw [hq]; exact LineState.noConfusion), hq])

theorem Part.SameAt.refl (e : Nat) (p : Part) : p.SameAt e p := ⟨.refl p, rfl, rfl, rfl, fun _ _ => rfl, fun _ h => h⟩

theorem Part.SameAt.trans (h : p.SameAt e q) (h' : q.SameAt e r) : p.SameAt e r where
  beside := h.beside.trans h'.beside
  count := h'.count.trans h.count
  size := h'.size.trans h.size
  entry := h'.entry.trans h.entry
  line l hl := by
    have hline := h.line l hl
    exact (h'.line l (hline ▸ hl)).trans hline
  held l hl := h.held l (h'.held l hl)

/-- Work on one entry leaves every other as it was. -/
theorem Part.Touches.sameAt (h : p.Touches k q) (hk : e ≠ k) : p.SameAt e q where
  beside := h.aside.beside
  count := h.count
  size := h.size
  entry := h.entry e hk
  line l hl := h.line l (hl k (Ne.symm hk))
  held l hl := by
    by_cases hp : (p.line l).state = .held k
    · rcases h.held l hp with hq | hq
      · rw [hl] at hq
        exact absurd (LineState.held.inj hq) hk
      · rw [hl] at hq
        cases hq
    · rwa [h.line l hp] at hl

/-- Entry `e` finds in `q` what it found in `p`: the time, its own contents, and the lines that no other entry holds. -/
structure Part.Alike (e : Nat) (p q : Part) : Prop where
  clock  : q.clock = p.clock
  settle : q.matrix.settle = p.matrix.settle
  entry  : q.entry e = p.entry e
  line   : ∀ l, (∀ k ≠ e, (p.line l).state ≠ .held k) → q.line l = p.line l
  held   : ∀ l, (q.line l).state = .held e → (p.line l).state = .held e

theorem Part.SameAt.alike (h : p.SameAt e q) : p.Alike e q :=
  ⟨clock_of_outer h.beside.outer, settle_of_outer h.beside.outer, h.entry, h.line, h.held⟩

theorem Part.Alike.trans (h : p.Alike e q) (h' : q.Alike e r) : p.Alike e r where
  clock := h'.clock.trans h.clock
  settle := h'.settle.trans h.settle
  entry := h'.entry.trans h.entry
  line l hl := by
    have hline := h.line l hl
    exact (h'.line l (hline ▸ hl)).trans hline
  held l hl := h.held l (h'.held l hl)

theorem line_of_others {l : Nat} (hl : (p.line l).state = .held e) : ∀ k ≠ e, (p.line l).state ≠ .held k :=
  fun _ hk hl' => hk (LineState.held.inj (hl'.symm.trans hl))

theorem Part.Alike.line_of_held (h : p.Alike e q) {l : Nat} (hl : (p.line l).state = .held e) : q.line l = p.line l :=
  h.line l (line_of_others hl)

theorem Part.Alike.held_iff (h : p.Alike e q) (l : Nat) : (q.line l).state = .held e ↔ (p.line l).state = .held e :=
  ⟨h.held l, fun hl => (h.line_of_held hl).symm ▸ hl⟩

theorem Part.Alike.heldLines (h : p.Alike e q) (d : Electrical) : q.heldLines e d = p.heldLines e d :=
  heldLines_congr h.held_iff

theorem Part.Alike.line_of_mem (h : p.Alike e q) {d : Electrical} {l : Nat} (hl : l ∈ p.heldLines e d) :
    q.line l = p.line l := h.line_of_held (mem_heldLines_state hl)

/-- What a release commands is the same in both. -/
theorem Part.Alike.releaseOpens (h : p.Alike e q) (d : Electrical) : q.releaseOpens e d = p.releaseOpens e d := by
  unfold Part.releaseOpens
  rw [h.heldLines]
  refine List.flatMap_congr fun l hl => ?_
  simp only [Part.cell, h.line_of_mem hl]

theorem Part.Alike.releaseCloses (h : p.Alike e q) (d : Electrical) : q.releaseCloses e d = p.releaseCloses e d := by
  unfold Part.releaseCloses
  rw [h.heldLines]
  refine congrArg _ (List.filter_congr fun l hl => ?_)
  simp only [Part.cell, h.line_of_mem hl]

theorem Part.Alike.hasToRelease (h : p.Alike e q) (d : Electrical) : q.HasToRelease e d ↔ p.HasToRelease e d := by
  rw [Part.HasToRelease, Part.HasToRelease, h.releaseOpens, h.releaseCloses]

end

section
variable {step : Part → Nat → Part} (htouch : ∀ (k : Nat) (p : Part), p.Touches k (step p k))
include htouch

theorem Part.SameAt.of_not_mem {ns : List Nat} {e : Nat} (he : e ∉ ns) (p : Part) : p.SameAt e (ns.foldl step p) :=
  foldl_frame (R := Part.SameAt) .refl .trans (fun v k _ hj => (htouch k v).sameAt hj) he p

theorem Part.SameAt.split {ns : List Nat} (hns : ns.Nodup) {e : Nat} (he : e ∈ ns) (p : Part) :
    ∃ v, p.SameAt e v ∧ (step v e).SameAt e (ns.foldl step p) :=
  foldl_split (R := Part.SameAt) .refl .trans (fun v k _ hj => (htouch k v).sameAt hj) hns he p

theorem Part.SameAt.reads {β : Type} (read : Part → β) {g : β → Nat → β} {ns : List Nat} (hns : ns.Nodup) {p : Part}
    (h : ∀ e ∈ ns, ∀ v, p.SameAt e v → read (step v e) = g (read v) e) : read (ns.foldl step p) = ns.foldl g (read p) :=
  foldl_reads (R := Part.SameAt) .refl .trans (fun v k _ hj => (htouch k v).sameAt hj) read hns h

end

end Sys2Proof.Machine
end

section
/-! SUPPORT. What each operation on an entry does: it touches that entry alone, and what it writes beside the entries and the
lines (R110, R113, R114, R136, R143, R144). -/

namespace Sys2Proof.Machine

open Sys2Proof

/-! ### Writing the entry alone -/

section
variable {e : Nat} {p q : Part}

theorem setEntry_self (e : Nat) (p : Part) : p.setEntry e (p.entry e) = p := by
  have hset : p.entries.set e (p.entry e) = p.entries := by
    rcases Nat.lt_or_ge e p.entries.length with h | h
    · simp [Part.entry, List.getD_eq_getElem?_getD, h]
    · exact List.set_eq_of_length_le h
  rw [Part.setEntry, hset]

theorem entry_of_le (he : p.entries.length ≤ e) : p.entry e = Entry.empty := by
  simp [Part.entry, List.getD_eq_getElem?_getD, Nat.not_lt.mpr he]

/-- A defined entry is one of the part's entries. -/
theorem entry_lt (h : (p.entry e).definition ≠ none) : e < p.entries.length := by
  by_contra he
  exact h (by rw [entry_of_le (Nat.le_of_not_lt he)]; rfl)

theorem lt_of_electrical {d : Electrical} (h : (p.entry e).electrical? = some d) : e < p.entries.length :=
  entry_lt fun hn => by simp [Entry.electrical?, hn] at h

/-- An entry written with its definition kept. -/
theorem touches_of_entries {x : Entry} (hx : x.definition = (p.entry e).definition) (ha : p.Aside q)
    (hl : q.matrix.lines = p.matrix.lines) (he : q.entries = p.entries.set e x) : p.Touches e q where
  aside := ha
  count := by rw [he, List.length_set]
  size := by rw [hl]
  entry j hj := entry_of_set_ne he hj
  definition := by
    rcases Nat.lt_or_ge e p.entries.length with h | h
    · rw [entry_of_set he h, hx]
    · rw [entry_of_entries (he.trans (List.set_eq_of_length_le h))]
  line l _ := line_of_lines hl l
  held l h := .inl ((congrArg Line.state (line_of_lines hl l)).trans h)

theorem touches_setEntry {x : Entry} (hx : x.definition = (p.entry e).definition) : p.Touches e (p.setEntry e x) :=
  touches_of_entries hx (.of_bare (setEntry_bare ..) (.refl p)) rfl rfl

theorem touches_enterEntry {x : Entry} (hx : x.definition = (p.entry e).definition) (st : EntryState) :
    p.Touches e (p.enterEntry e st x) := by
  refine touches_of_entries (x := { x with state := st }) hx ?_ (congrArg Matrix.lines (enterEntry_matrix ..))
    (enterEntry_entries ..)
  have hbare := enterEntry_bare e st x p
  split at hbare
  · exact .of_bare hbare (.refl p)
  · exact .of_bare (hbare.trans (raise_bare ..).symm) (aside_raise e p)

/-- The cause recorded: the one already there, if any (R143). -/
theorem recordCause_eq (e : Nat) (cause : EndCause) (p : Part) :
    p.recordCause e cause = p.setEntry e { p.entry e with endCause := some ((p.entry e).endCause.getD cause) } := by
  unfold Part.recordCause
  simp only
  cases hc : (p.entry e).endCause with
  | none => rfl
  | some c =>
    have hself : ({ p.entry e with endCause := some c } : Entry) = p.entry e := by rw [← hc]
    simp [hself, setEntry_self]

theorem touches_recordCause (e : Nat) (cause : EndCause) (p : Part) : p.Touches e (p.recordCause e cause) := by
  rw [recordCause_eq]
  exact touches_setEntry rfl

end

/-! ### Writing the lines it holds -/

section
variable {e : Nat} {d : Electrical} {p q : Part}

/-- Lines written that are held for the entry, each kept held or made PASS. -/
theorem touches_of_lines (ha : p.Aside q) (he : q.entries = p.entries) (hn : q.matrix.lines.length = p.matrix.lines.length)
    (hl : ∀ l, (p.line l).state ≠ .held e → q.line l = p.line l)
    (hs : ∀ l, (p.line l).state = .held e → (q.line l).state = .held e ∨ (q.line l).state = .pass) : p.Touches e q where
  aside := ha
  count := by rw [he]
  size := hn
  entry j _ := entry_of_entries he j
  definition := congrArg Entry.definition (entry_of_entries he e)
  line := hl
  held := hs

theorem line_setCell_ne {l k : Nat} (h : k ≠ l) (c : CellId) (x : Cell) (p : Part) : (p.setCell l c x).line k = p.line k :=
  line_setLine_ne h _ _

theorem line_setCell_state (l k : Nat) (c : CellId) (x : Cell) (p : Part) : ((p.setCell l c x).line k).state = (p.line k).state := by
  by_cases h : k = l
  · subst h
    rcases Nat.lt_or_ge k p.matrix.lines.length with hk | hk
    · exact (congrArg Line.state (line_setLine k ((p.line k).setCell c x) p hk) :)
    · exact congrArg Line.state (line_of_lines (List.set_eq_of_length_le hk) k)
  · rw [line_setCell_ne h]

theorem touches_setCell {l : Nat} (h : (p.line l).state = .held e) (c : CellId) (x : Cell) : p.Touches e (p.setCell l c x) :=
  touches_of_lines (.of_bare (setCell_bare ..) (.refl p)) rfl (List.length_set ..)
    (fun k hk => line_setCell_ne (fun hkl => hk (by rw [hkl]; exact h)) c x p) fun k hk => .inl ((line_setCell_state l k c x p).trans hk)

/-- Closes held back are of lines held for the entry, and keep every line's state. -/
theorem holdBackCloses_touches (e : Nat) (p : Part) :
    p.Touches e (p.holdBackCloses e) ∧ ∀ l, ((p.holdBackCloses e).line l).state = (p.line l).state := by
  have hfold (ts : List (Nat × CellId)) (p : Part) (h : ∀ t ∈ ts, (p.line t.1).state = .held e) :
      let q := ts.foldl (fun q t => q.setCell t.1 t.2 { q.cell t.1 t.2 with commanded := false }) p
      p.Touches e q ∧ ∀ l, (q.line l).state = (p.line l).state := by
    induction ts generalizing p with
    | nil => exact ⟨.refl e p, fun _ => rfl⟩
    | cons t ts ih =>
      have hstate (l : Nat) := line_setCell_state t.1 l t.2 { p.cell t.1 t.2 with commanded := false } p
      obtain ⟨htail, hkept⟩ := ih (p.setCell t.1 t.2 { p.cell t.1 t.2 with commanded := false }) fun u hu =>
        (hstate u.1).trans (h u (List.mem_cons_of_mem t hu))
      exact ⟨(touches_setCell (h t List.mem_cons_self) _ _).trans htail, fun l => (hkept l).trans (hstate l)⟩
  unfold Part.holdBackCloses
  split
  · split
    · exact hfold _ p fun t ht => of_decide_eq_true (List.mem_filter.mp ht).2
    · exact ⟨.refl e p, fun _ => rfl⟩
  · exact ⟨.refl e p, fun _ => rfl⟩

theorem holdBackCloses_entries (e : Nat) (p : Part) : (p.holdBackCloses e).entries = p.entries := by
  unfold Part.holdBackCloses
  split
  · split
    · exact foldl_keeps Part.entries (f := fun q (t : Nat × CellId) => q.setCell t.1 t.2 { q.cell t.1 t.2 with commanded := false })
        (fun _ _ => rfl) _ p
    · rfl
  · rfl

/-- Commands given to some lines: the other lines stand, and every line keeps its state. -/
structure Part.Rewires (ls : List Nat) (p q : Part) : Prop where
  size  : q.matrix.lines.length = p.matrix.lines.length
  line  : ∀ l, l ∉ ls → q.line l = p.line l
  state : ∀ l, (q.line l).state = (p.line l).state

theorem Part.Rewires.trans {ls : List Nat} {p q r : Part} (h : p.Rewires ls q) (h' : q.Rewires ls r) : p.Rewires ls r :=
  ⟨h'.size.trans h.size, fun l hl => (h'.line l hl).trans (h.line l hl), fun l => (h'.state l).trans (h.state l)⟩

theorem rewires_lettingGo (e : Nat) (d : Electrical) (p : Part) : p.Rewires (p.heldLines e d) (p.lettingGo e d) where
  size := lettingGo_lines_length
  line l hl := by rw [lettingGo_line, if_neg hl]
  state l := by rw [lettingGo_line_with]

theorem giveCommands_lines_length (closing : Bool) (ts : List (Nat × CellId)) (p : Part) :
    (p.giveCommands closing ts).matrix.lines.length = p.matrix.lines.length := by
  refine foldl_keeps (fun v => v.matrix.lines.length) (fun v t => ?_) ts p
  cases closing with
  | false => exact List.length_set ..
  | true =>
    simp only [Part.commandClose, if_true]
    split_ifs <;> simp [Part.commandClosed]

theorem rewires_open {ls held : List Nat} (c : CellId) (hls : ∀ k ∈ ls, k < p.matrix.lines.length) (hheld : ∀ k ∈ ls, k ∈ held) :
    p.Rewires held (p.giveCommands false (ls.map fun k => (k, c))) where
  size := giveCommands_lines_length ..
  line l hl := by rw [giveCommands_open_line c hls, if_neg fun h => hl (hheld l h)]
  state l := by
    rw [giveCommands_open_line c hls]
    split <;> rfl

theorem rewires_close {ls held : List Nat} (hls : ∀ k ∈ ls, k < p.matrix.lines.length) (hheld : ∀ k ∈ ls, k ∈ held) :
    p.Rewires held (p.giveCommands true (ls.map fun k => (k, .series))) where
  size := giveCommands_lines_length ..
  line l hl := by rw [giveCommands_close_line hls, if_neg fun h => hl (hheld l h)]
  state l := by
    rw [giveCommands_close_line hls]
    split <;> rfl

/-- A release begun commands the lines held for its entry alone, and keeps every line's state. -/
theorem rewires_beginRelease (h : (p.entry e).electrical? = some d) (fast : Bool) :
    p.Rewires (p.heldLines e d) (p.beginRelease e fast).1 := by
  have he := lt_of_electrical h
  have hgo := rewires_lettingGo e d p
  by_cases hopens : p.releaseOpens e d = []
  · by_cases hcloses : p.releaseCloses e d = []
    · rw [beginRelease_of_nothing h he fast (by simp [Part.HasToRelease, hopens, hcloses])]
      exact hgo.trans ⟨rfl, fun _ _ => rfl, fun _ => rfl⟩
    · obtain ⟨ls, hls, hlt, hmem⟩ := releaseCloses_eq_map e d p
      rw [beginRelease_of_closes h he fast hopens hcloses, hls]
      exact (hgo.trans (rewires_close (fun k hk => hgo.size ▸ hlt k hk) fun k hk => ((hmem k).mp hk).1)).trans
        ⟨rfl, fun _ _ => rfl, fun _ => rfl⟩
  · obtain ⟨c, hc⟩ : ∃ c, d.faultCell = some c := Option.ne_none_iff_exists'.mp fun hn => hopens (releaseOpens_of_none hn)
    obtain ⟨ls, hls, hlt, hmem⟩ := releaseOpens_eq_map (e := e) (p := p) hc
    rw [beginRelease_of_opens h he fast hopens, hls]
    exact (hgo.trans (rewires_open c (fun k hk => hgo.size ▸ hlt k hk) fun k hk => ((hmem k).mp hk).1)).trans
      ⟨rfl, fun _ _ => rfl, fun _ => rfl⟩

/-- A release begun writes its entry alone, which keeps its definition and becomes RELEASING. -/
theorem beginRelease_entries (h : (p.entry e).electrical? = some d) (fast : Bool) :
    ∃ seq, (p.beginRelease e fast).1.entries = p.entries.set e { (p.entry e).lettingGo with seq := seq } := by
  have he := lt_of_electrical h
  by_cases hopens : p.releaseOpens e d = []
  · by_cases hcloses : p.releaseCloses e d = []
    · rw [beginRelease_of_nothing h he fast (by simp [Part.HasToRelease, hopens, hcloses])]
      exact ⟨_, by rw [setEntry_entries, lettingGo_entries, List.set_set]⟩
    · rw [beginRelease_of_closes h he fast hopens hcloses]
      exact ⟨_, by rw [setEntry_entries, giveCommands_entries, lettingGo_entries, List.set_set]⟩
  · rw [beginRelease_of_opens h he fast hopens]
    exact ⟨_, by rw [setEntry_entries, giveCommands_entries, lettingGo_entries, List.set_set]⟩

theorem touches_beginRelease (h : (p.entry e).electrical? = some d) (hs : (p.entry e).state ≠ .releasing) (fast : Bool) :
    p.Touches e (p.beginRelease e fast).1 := by
  obtain ⟨seq, hent⟩ := beginRelease_entries h fast
  have hlines := rewires_beginRelease h fast
  have he := lt_of_electrical h
  exact
    { aside := .of_bare ((beginRelease_bare hs fast).trans (raise_bare ..).symm) (aside_raise e p)
      count := by rw [hent, List.length_set]
      size := hlines.size
      entry := fun j hj => entry_of_set_ne hent hj
      definition := by rw [entry_of_set hent he]; rfl
      line := fun l hl => hlines.line l fun hm => hl (mem_heldLines_state hm)
      held := fun l hl => .inl ((hlines.state l).trans hl) }

end

/-! ### A release ended, and an occurrence settled (R113, R136, R144) -/

section
variable {e : Nat} {d : Electrical} {p : Part}

theorem setLineState_lines (l : Nat) (st : LineState) (p : Part) :
    (p.setLineState l st).matrix.lines = p.matrix.lines.set l { p.line l with state := st } := by
  unfold Part.setLineState
  simp only
  split
  · rfl
  · rfl
  · split <;> simp

/-- A line held, or already PASS, that becomes PASS raises nothing. -/
theorem setLineState_pass_eq {l : Nat} (h : (p.line l).state = .held e ∨ (p.line l).state = .pass) :
    p.setLineState l .pass = p.setLine l { p.line l with state := .pass } := by
  unfold Part.setLineState
  rcases h with h | h
  · rw [h]
  · rw [h]; rfl

/-- Lines held for an entry that become PASS. -/
def Part.passLines (ls : List Nat) (p : Part) : Part := ls.foldl (fun q l => q.setLineState l .pass) p

theorem passLines_line {ls : List Nat} (hls : ∀ k ∈ ls, k < p.matrix.lines.length) (l : Nat) :
    (p.passLines ls).line l = if l ∈ ls then { p.line l with state := .pass } else p.line l :=
  foldl_line (g := fun q k => q.setLineState k .pass) (f := fun _ x => { x with state := .pass }) (fun _ _ => rfl)
    (fun q k => setLineState_lines k .pass q) (fun q k => setLineState_outer k .pass q) hls l

theorem passLines_lines_length (ls : List Nat) (p : Part) : (p.passLines ls).matrix.lines.length = p.matrix.lines.length :=
  foldl_keeps (fun v => v.matrix.lines.length) (fun v k => by rw [setLineState_lines, List.length_set]) ls p

theorem passLines_entries (ls : List Nat) (p : Part) : (p.passLines ls).entries = p.entries := by
  refine foldl_keeps Part.entries (fun v k => ?_) ls p
  unfold Part.setLineState
  simp only
  split
  · rfl
  · rfl
  · split <;> simp

theorem passLines_bare {ls : List Nat} (h : ∀ l ∈ ls, (p.line l).state = .held e ∨ (p.line l).state = .pass) :
    (p.passLines ls).bare = p.bare := by
  induction ls generalizing p with
  | nil => rfl
  | cons l ls ih =>
    have hl := h l List.mem_cons_self
    have hstep : p.setLineState l .pass = p.setLine l { p.line l with state := .pass } := setLineState_pass_eq hl
    have hrest : ((p.setLineState l .pass).passLines ls).bare = (p.setLineState l .pass).bare := ih fun k hk => by
      rw [hstep]
      by_cases hkl : k = l
      · subst hkl
        rcases Nat.lt_or_ge k p.matrix.lines.length with hlt | hge
        · exact .inr (congrArg Line.state (line_setLine k _ p hlt))
        · rw [line_of_lines (q := p.setLine k _) (p := p) (List.set_eq_of_length_le hge)]
          exact hl
      · rw [line_setLine_ne hkl]
        exact h k (List.mem_cons_of_mem l hk)
    exact hrest.trans ((congrArg Part.bare hstep).trans (setLine_bare ..))

/-- The part with a LEAK entry's termination taken off (R113). -/
def Part.unterminated (d : Electrical) (p : Part) : Part := if d.kind.leaks then p.setTermination d .none else p

theorem unterminated_eq (d : Electrical) (p : Part) :
    p.unterminated d = { p with matrix := { p.matrix with terminations := (p.unterminated d).matrix.terminations } } := by
  unfold Part.unterminated Part.setTermination
  split_ifs
  · split <;> rfl
  · rfl

/-- A part with all that an entry claims given back. -/
def Part.unclaimed (e : Nat) (d : Electrical) (p : Part) : Part :=
  { p with claims := p.claims.giveBack e (.electrical d) }

/-- A release that has ended with no line broken: its lines PASS, its step ended, and what it held given back. -/
theorem released_eq (h : (p.entry e).electrical? = some d) :
    (p.released e []).1 =
      ((((p.unterminated d).passLines (p.heldLines e d)).setEntry e { p.entry e with seq := none }).unclaimed e d) := by
  have hentries : (p.unterminated d).entries = p.entries := (congrArg Part.entries (unterminated_eq d p) :)
  have hlines : (p.unterminated d).matrix.lines = p.matrix.lines :=
    (congrArg (fun v => v.matrix.lines) (unterminated_eq d p) :)
  have hheld : (p.unterminated d).linesHeldBy e = p.heldLines e d := by
    rw [linesHeldBy_eq (d := d) (by rw [entry_of_entries hentries]; exact h)]
    exact heldLines_congr fun l => by rw [line_of_lines hlines]
  have hentry : ((p.unterminated d).passLines (p.heldLines e d)).entry e = p.entry e :=
    (entry_of_entries (passLines_entries ..) e).trans (entry_of_entries hentries e)
  rw [← hentry, ← hheld]
  unfold Part.released
  rw [h]
  rfl

theorem released_of_signal (h : (p.entry e).electrical? = none) : (p.released e []).1 = p := by
  unfold Part.released
  rw [h]

theorem released_entries (h : (p.entry e).electrical? = some d) :
    (p.released e []).1.entries = p.entries.set e { p.entry e with seq := none } := by
  rw [released_eq h]
  show (Part.entries (Part.passLines _ _)).set e _ = _
  rw [passLines_entries, unterminated_eq]

theorem released_line (h : (p.entry e).electrical? = some d) (l : Nat) :
    (p.released e []).1.line l = if l ∈ p.heldLines e d then { p.line l with state := .pass } else p.line l := by
  have hlines : (p.unterminated d).matrix.lines = p.matrix.lines :=
    (congrArg (fun v => v.matrix.lines) (unterminated_eq d p) :)
  rw [released_eq h]
  show ((p.unterminated d).passLines (p.heldLines e d)).line l = _
  rw [passLines_line (fun k hk => hlines ▸ heldLines_lt hk), line_of_lines hlines]

theorem released_bare (h : (p.entry e).electrical? = some d) :
    (p.released e []).1.bare = ((p.unterminated d).unclaimed e d).bare := by
  have hlines : (p.unterminated d).matrix.lines = p.matrix.lines :=
    (congrArg (fun v => v.matrix.lines) (unterminated_eq d p) :)
  have hpass : ((p.unterminated d).passLines (p.heldLines e d)).bare = (p.unterminated d).bare :=
    passLines_bare (e := e) fun l hl => .inl (by rw [line_of_lines hlines]; exact mem_heldLines_state hl)
  rw [released_eq h]
  exact congrArg (fun v => Part.unclaimed e d v) hpass

theorem aside_unterminated (d : Electrical) (p : Part) : p.Aside (p.unterminated d) := by
  rw [unterminated_eq]
  exact ⟨rfl, rfl, rfl, rfl, rfl⟩

theorem touches_released (e : Nat) (p : Part) : p.Touches e (p.released e []).1 := by
  cases h : (p.entry e).electrical? with
  | none => rw [released_of_signal h]; exact .refl e p
  | some d =>
    have hent := released_entries h
    have hline := released_line h
    exact
      { aside := .of_bare (released_bare h) ((aside_unterminated d p).trans ⟨rfl, rfl, rfl, rfl, rfl⟩)
        count := by rw [hent, List.length_set]
        size := by
          rw [released_eq h]
          show (Part.passLines _ _).matrix.lines.length = _
          rw [passLines_lines_length, unterminated_eq]
        entry := fun j hj => entry_of_set_ne hent hj
        definition := by rw [entry_of_set hent (lt_of_electrical h)]
        line := fun l hl => by rw [hline, if_neg fun hm => hl (mem_heldLines_state hm)]
        held := fun l hl => by
          rw [hline]
          split
          · exact .inr rfl
          · exact .inl hl }

/-- What beside the entries and the lines changes, work on no entry touches. -/
theorem touches_of_aside {q : Part} (ha : p.Aside q) (he : q.entries = p.entries) (hl : q.matrix.lines = p.matrix.lines) :
    p.Touches e q :=
  touches_of_lines ha he (by rw [hl]) (fun l _ => line_of_lines hl l)
    fun l h => .inl ((congrArg Line.state (line_of_lines hl l)).trans h)

/-- The logging of an occurrence that ends MISSED (R135). -/
def Part.loggedEnd (e : Nat) (cause : EndCause) (p : Part) : Part :=
  if cause = .missed then p.logError .entryMissed (.entry e) (min ((p.entry e).occurrences + 1) 65535 : Nat) else p

theorem aside_loggedEnd (e : Nat) (cause : EndCause) (p : Part) : p.Aside (p.loggedEnd e cause) := by
  unfold Part.loggedEnd
  split
  · exact aside_logError ..
  · exact .refl p

theorem touches_finish (e : Nat) (p : Part) : p.Touches e (p.finish e).1 := by
  unfold Part.finish
  simp only
  split
  · rename_i cause d hc hd
    have hlog : p.Touches e (p.loggedEnd e cause) := by
      refine touches_of_aside (aside_loggedEnd e cause p) ?_ ?_ <;> (unfold Part.loggedEnd; split <;> simp)
    refine hlog.trans (touches_enterEntry ?_ _)
    exact hlog.definition.symm
  · exact .refl e p

/-- In SAFE no occurrence leaves its entry ARMED. -/
theorem settledState_ne_armed (cause : EndCause) (n : Nat) : (settledState cause n true).1 ≠ .armed := by
  unfold settledState
  split
  · split <;> simp
  · split <;> simp
  · simp
  · simp

/-- An occurrence COMPLETED or MISSED in SAFE takes one of the repeats left, if any. -/
theorem settled_repeats (r : Nat) : (if 0 < r then (EntryState.loaded, r - 1) else (.done, 0)) =
    (if 0 < r then .loaded else .done, r - 1) := by
  by_cases h : 0 < r
  · rw [if_pos h, if_pos h]
  · rw [if_neg h, if_neg h, Nat.eq_zero_of_not_pos h]

theorem endedInSafe_eq (t : Nat) (cause : EndCause) (x : Entry) : x.endedInSafe t cause =
    x.ended (settledState cause x.repeatsRemaining true).1 none (settledState cause x.repeatsRemaining true).2 t cause := by
  have hrepeat : (if 0 < x.repeatsRemaining then (if true then EntryState.loaded else .armed, x.repeatsRemaining - 1)
      else (.done, 0)) = (if 0 < x.repeatsRemaining then .loaded else .done, x.repeatsRemaining - 1) :=
    settled_repeats x.repeatsRemaining
  cases cause with
  | completed => rw [settledState, hrepeat, Entry.endedInSafe]
  | missed => rw [settledState, hrepeat, Entry.endedInSafe]
  | _ => rfl

/-- An occurrence that ends in SAFE settles its entry and leaves no work (R144). -/
theorem finish_of_safe (hs : p.safe.isSome = true) {cause : EndCause} (hc : (p.entry e).endCause = some cause)
    (hd : (p.entry e).definition ≠ none) :
    p.finish e = ((p.loggedEnd e cause).enterEntry e ((p.entry e).endedInSafe p.clock.rigTime cause).state
      ((p.entry e).endedInSafe p.clock.rigTime cause), []) := by
  obtain ⟨d, hd⟩ := Option.ne_none_iff_exists'.mp hd
  have hin : p.inSafe = true := hs
  unfold Part.finish
  simp only [hc, hd, hin, if_neg (settledState_ne_armed cause _)]
  simp only [endedInSafe_eq, Entry.ended, hd]
  rfl

/-- A RELEASED occurrence counts on the slots, and no more. -/
theorem occur_released (e : Nat) (p : Part) :
    (p.occur (.entry e .released)).1 = { p with slots := (p.occur (.entry e .released)).1.slots } :=
  countAll_eq _ _ p

theorem occur_released_slots (e : Nat) (h : p.slots.length = 16) :
    (p.occur (.entry e .released)).1 = p.counted (.entry e .released) :=
  foldl_slots (f := fun st x => { x with count := (x.count + 1) % 4294967296, last := some (st, .entry e) })
    (fun _ _ => rfl) (fun x => x.source.matchesOcc (.entry e .released)) h

theorem touches_occur_released (k e : Nat) (p : Part) : p.Touches k (p.occur (.entry e .released)).1 := by
  rw [occur_released]
  refine touches_of_aside ⟨rfl, rfl, rfl, rfl, ?_⟩ rfl rfl
  exact foldl_keeps (fun v => v.slots.length) (f := fun q s => q.countOn (.entry e .released) s) (fun _ _ => List.length_set ..)
    _ p

end

end Sys2Proof.Machine
end

section
/-! SUPPORT. Work led from one part to another, whatever else stands after it; and parts in SAFE that nothing waits in, where
an ending brings about nothing more. -/

namespace Sys2Proof.Machine

open Sys2Proof

/-! ### Work done in so many pieces -/

/-- Some work leads from one part to another in at most `n` pieces, whatever stands after it. -/
def Leads (n : Nat) (ts : List Task) (p q : Part) : Prop :=
  ∃ m ≤ n, ∀ k rest, runTasks (k + m) (ts ++ rest) p = runTasks k rest q

theorem Leads.nil (p : Part) : Leads 0 [] p p := ⟨0, le_rfl, fun _ _ => rfl⟩

theorem Leads.mono {n m : Nat} {ts : List Task} {p q : Part} (h : Leads n ts p q) (hnm : n ≤ m) : Leads m ts p q := by
  obtain ⟨k, hk, hrun⟩ := h
  exact ⟨k, hk.trans hnm, hrun⟩

theorem Leads.append {n m : Nat} {ts us : List Task} {p q r : Part} (h : Leads n ts p q) (h' : Leads m us q r) :
    Leads (n + m) (ts ++ us) p r := by
  obtain ⟨a, ha, hrun⟩ := h
  obtain ⟨b, hb, hrun'⟩ := h'
  refine ⟨b + a, by omega, fun k rest => ?_⟩
  rw [← Nat.add_assoc, List.append_assoc, hrun, hrun']

theorem Leads.task {n : Nat} {t : Task} {p q : Part} (ht : t.dueEntry = none) (h : Leads n (p.doTask t).2 (p.doTask t).1 q) :
    Leads (n + 1) [t] p q := by
  obtain ⟨m, hm, hrun⟩ := h
  refine ⟨m + 1, by omega, fun k rest => ?_⟩
  rw [← Nat.add_assoc, List.singleton_append, runTasks_cons ht, hrun]

/-- Work none of which does anything. -/
theorem Leads.still {ts : List Task} {p : Part} (h : ∀ t ∈ ts, t.dueEntry = none ∧ p.doTask t = (p, [])) :
    Leads ts.length ts p p := by
  induction ts with
  | nil => exact .nil p
  | cons t ts ih =>
    obtain ⟨hdue, hdo⟩ := h t List.mem_cons_self
    have ht : Leads (0 + 1) [t] p p := .task hdue (by rw [hdo]; exact .nil p)
    exact (ht.append (ih fun u hu => h u (List.mem_cons_of_mem t hu))).mono (by simp [Nat.add_comm])

theorem settleAll_of_leads {n : Nat} {ts : List Task} {p q : Part} (h : Leads n ts p q) (hn : n ≤ taskLimit) :
    settleAll (p, ts) = q := by
  obtain ⟨m, hm, hrun⟩ := h
  obtain ⟨k, hk⟩ : ∃ k, taskLimit = k + m := ⟨taskLimit - m, (Nat.sub_add_cancel (hm.trans hn)).symm⟩
  have hlast := hrun k []
  rw [List.append_nil, runTasks_nil, ← hk] at hlast
  exact hlast

/-! ### Parts in SAFE that nothing waits in -/

/-- Nothing waits in an entry, and what is ACTIVE in it has its cause recorded, unless it has no definition. -/
structure Entry.Quiet (x : Entry) : Prop where
  unarmed   : x.state ≠ .armed
  unblocked : x.state = .blocked → x.definition = none
  ended     : x.state = .active → x.definition = none ∨ x.endCause ≠ none

/-- The part is in SAFE, its entries are quiet and its groups unarmed. -/
structure Part.Quiet (p : Part) : Prop where
  safe      : p.safe.isSome = true
  entries   : ∀ e, (p.entry e).Quiet
  ungrouped : ∀ g, (p.group g).armed = none

section
variable {e k : Nat} {p q : Part}

/-- Work on one entry that leaves it quiet leaves the part quiet. -/
theorem Part.Quiet.of_touches (h : p.Quiet) (ht : p.Touches e q) (he : (q.entry e).Quiet) : q.Quiet where
  safe := by rw [safe_of_outer ht.aside.beside.outer]; exact h.safe
  entries j := by
    by_cases hj : j = e
    · exact hj ▸ he
    · rw [ht.entry j hj]; exact h.entries j
  ungrouped g := by
    rw [Part.group, ht.aside.groups]
    exact h.ungrouped g

theorem Part.Quiet.judge (h : p.Quiet) (e : Nat) (back : List Nat) : p.judge e back = (p, []) := by
  unfold Part.judge
  split
  · unfold Part.askClaims
    rw [(h.entries e).unblocked ‹_›]
    rfl
  · rfl

theorem Part.Quiet.endActive (h : p.Quiet) (e : Nat) (cause : EndCause) : p.endActive e cause = (p, []) := by
  unfold Part.endActive
  simp only
  split
  · rename_i hs hc hd
    rcases (h.entries e).ended hs with hn | hn
    · simp [hn] at hd
    · exact absurd hc hn
  · rename_i hs hc hd
    rcases (h.entries e).ended hs with hn | hn
    · simp [hn] at hd
    · exact absurd hc hn
  · rfl

/-- An occurrence counted meets nobody but entries that watch its slot, and these have ended already. -/
theorem Part.Quiet.metTasks (h : p.Quiet) (slots : List Nat) : Leads 128 (p.metTasks slots none) p p := by
  have hdue : p.dueTasks slots none = [] := by
    refine List.filterMap_eq_nil_iff.mpr fun e _ => ?_
    rw [Part.entryMet, if_neg (h.entries e).unarmed]
    rfl
  unfold Part.metTasks
  rw [hdue, List.filterMap_eq_nil_iff.mpr fun g _ => by rw [h.ungrouped g]; rfl, List.nil_append, List.nil_append]
  refine (Leads.still fun t ht => ?_).mono ?_
  · obtain ⟨e, -, rfl⟩ := List.mem_map.mp ht
    refine ⟨rfl, ?_⟩
    simp only [Part.doTask, h.endActive, ite_self]
  · rw [List.length_map]
    exact (List.length_filter_le ..).trans (by rw [List.length_range]; exact le_rfl)

theorem insertBlocked_length (x : Nat × Nat) (xs : List (Nat × Nat)) : (insertBlocked x xs).length = xs.length + 1 := by
  induction xs with
  | nil => rfl
  | cons y ys ih =>
    unfold insertBlocked
    split
    · simp [ih]
    · rfl

/-- A fold whose steps each add at most one to a list. -/
theorem foldl_length_le {α β : Type} {f : List α → β → List α} (h : ∀ acc x, (f acc x).length ≤ acc.length + 1) (xs : List β)
    (acc : List α) : (xs.foldl f acc).length ≤ acc.length + xs.length := by
  induction xs generalizing acc with
  | nil => exact le_rfl
  | cons x xs ih =>
    have hstep := h acc x
    have hrest := ih (f acc x)
    rw [List.foldl_cons, List.length_cons]
    omega

/-- An arbiter's pass judges at most every entry once. -/
theorem arbiterPass_length_le (back : List Nat) (p : Part) : (p.arbiterPass back).length ≤ 128 := by
  rw [Part.arbiterPass, List.length_map, Part.blockedSet]
  refine (foldl_length_le (fun acc e => ?_) (List.range 128) []).trans (by simp)
  split
  · rw [insertBlocked_length]
  · exact Nat.le_succ _

theorem Part.Quiet.arbiterPass (h : p.Quiet) (back : List Nat) (q : Part) : Leads 128 (q.arbiterPass back) p p := by
  refine (Leads.still fun t ht => ?_).mono (arbiterPass_length_le back q)
  obtain ⟨b, -, rfl⟩ := List.mem_map.mp ht
  exact ⟨rfl, h.judge b.1 back⟩

/-! ### An ending in a quiet part -/

/-- An entry whose occurrence has ended, with its claims given back: RELEASED is counted and the entry settled. -/
def Part.settleEntry (e : Nat) (p : Part) : Part := ((p.occur (.entry e .released)).1.finish e).1

/-- An ending that stands to be done: an ELECTRICAL entry's release ends, with no line broken, and the occurrence settles. -/
def Part.ending (e : Nat) (p : Part) : Part := (p.released e []).1.settleEntry e

theorem touches_settleEntry (e : Nat) (p : Part) : p.Touches e (p.settleEntry e) :=
  (touches_occur_released e e p).trans (touches_finish e _)

theorem touches_ending (e : Nat) (p : Part) : p.Touches e (p.ending e) :=
  (touches_released e p).trans (touches_settleEntry e _)

/-- An ended entry waits for another start, is done, or is aborted. -/
theorem endedInSafe_state (t : Nat) (cause : EndCause) (x : Entry) :
    (x.endedInSafe t cause).state = .loaded ∨ (x.endedInSafe t cause).state = .done ∨
      (x.endedInSafe t cause).state = .aborted := by
  have hrepeat : (if 0 < x.repeatsRemaining then EntryState.loaded else .done) = .loaded ∨
      (if 0 < x.repeatsRemaining then EntryState.loaded else .done) = .done :=
    ite_eq_or_eq ..
  cases cause with
  | completed => exact hrepeat.imp_right .inl
  | missed => exact hrepeat.imp_right .inl
  | disarmed => exact .inl rfl
  | _ => exact .inr (.inr rfl)

theorem endedInSafe_quiet (t : Nat) (cause : EndCause) (x : Entry) : (x.endedInSafe t cause).Quiet := by
  rcases endedInSafe_state t cause x with h | h | h <;> constructor <;> simp [h]

theorem endedInSafe_without_seq (t : Nat) (cause : EndCause) (x : Entry) :
    ({ x with seq := none } : Entry).endedInSafe t cause = x.endedInSafe t cause := by
  cases cause <;> rfl

/-- An entry settled in SAFE: RELEASED counted, then a MISSED occurrence logged, then the entry in its new state. -/
theorem settleEntry_eq (hs : p.safe.isSome = true) {cause : EndCause} (hc : (p.entry e).endCause = some cause)
    (hd : (p.entry e).definition ≠ none) :
    p.settleEntry e = ((p.occur (.entry e .released)).1.loggedEnd e cause).enterEntry e
      ((p.entry e).endedInSafe p.clock.rigTime cause).state ((p.entry e).endedInSafe p.clock.rigTime cause) := by
  have hoccur := occur_released e p
  have hentry : (p.occur (.entry e .released)).1.entry e = p.entry e := by rw [hoccur]; rfl
  unfold Part.settleEntry
  rw [finish_of_safe (cause := cause) (by rw [hoccur]; exact hs) (by rw [hentry]; exact hc) (by rw [hentry]; exact hd), hentry]
  rw [hoccur]

theorem loggedEnd_entries (e : Nat) (cause : EndCause) (p : Part) : (p.loggedEnd e cause).entries = p.entries := by
  unfold Part.loggedEnd
  split <;> simp

theorem settleEntry_entries (hs : p.safe.isSome = true) {cause : EndCause} (hc : (p.entry e).endCause = some cause)
    (hd : (p.entry e).definition ≠ none) :
    (p.settleEntry e).entries = p.entries.set e ((p.entry e).endedInSafe p.clock.rigTime cause) := by
  rw [settleEntry_eq hs hc hd, enterEntry_entries, loggedEnd_entries, occur_released]

theorem finish_matrix (e : Nat) (p : Part) : (p.finish e).1.matrix = p.matrix := by
  unfold Part.finish
  simp only
  split
  · rw [enterEntry_matrix]
    split <;> simp
  · rfl

theorem settleEntry_matrix (e : Nat) (p : Part) : (p.settleEntry e).matrix = p.matrix := by
  rw [Part.settleEntry, finish_matrix, occur_released]

/-- What an ending finds recorded: the entry's definition and the cause of its end. -/
structure Entry.Ending (x : Entry) (cause : EndCause) : Prop where
  defined : x.definition ≠ none
  cause   : x.endCause = some cause

theorem Part.Quiet.settleEntry (h : p.Quiet) {cause : EndCause} (hx : (p.entry e).Ending cause) : (p.settleEntry e).Quiet := by
  refine h.of_touches (touches_settleEntry e p) ?_
  rw [entry_of_set (settleEntry_entries h.safe hx.cause hx.defined) (entry_lt hx.defined)]
  exact endedInSafe_quiet _ _ _

/-- The work of an ending, done in a quiet part: nobody takes the claims, nobody waits for RELEASED. -/
theorem Part.Quiet.leads_settle (h : p.Quiet) {cause : EndCause} (hx : (p.entry e).Ending cause) (v : Part) (back : List Nat) :
    Leads 258 (v.arbiterPass back ++ [.occur (.entry e .released), .finish e]) p (p.settleEntry e) := by
  have hoccur := occur_released e p
  have hq : (p.occur (.entry e .released)).1.Quiet := by
    rw [hoccur]
    exact ⟨h.safe, h.entries, h.ungrouped⟩
  have hentry : (p.occur (.entry e .released)).1.entry e = p.entry e := by rw [hoccur]; rfl
  have hfinish : ((p.occur (.entry e .released)).1.finish e).2 = [] := by
    rw [finish_of_safe (cause := cause) hq.safe (by rw [hentry]; exact hx.cause) (by rw [hentry]; exact hx.defined)]
  have hcount : Leads (128 + 1) [.occur (.entry e .released)] p (p.occur (.entry e .released)).1 := by
    refine .task rfl ?_
    have hmet := hq.metTasks (p.matching (.entry e .released))
    rw [show p.doTask (.occur (.entry e .released)) = p.occur (.entry e .released) from rfl]
    exact hmet
  have hsettle : Leads (0 + 1) [.finish e] (p.occur (.entry e .released)).1 (p.settleEntry e) := by
    refine .task rfl ?_
    show Leads 0 ((p.occur (.entry e .released)).1.finish e).2 (p.settleEntry e) (p.settleEntry e)
    rw [hfinish]
    exact .nil _
  exact ((h.arbiterPass back v).append (hcount.append hsettle)).mono (by omega)

/-- The work `ts` ends entry `e`: its release ends, or what it held has been given back, and it settles. -/
def Part.EndingWork (e : Nat) (ts : List Task) (p : Part) : Prop :=
  (∃ cause, (p.entry e).Ending cause) ∧
  (((p.entry e).electrical? ≠ none ∧ ts = [.released e []]) ∨
    ((p.entry e).electrical? = none ∧ ∃ v back, ts = Part.arbiterPass back v ++ [.occur (.entry e .released), .finish e]))

theorem Part.EndingWork.of_entry {ts : List Task} (h : p.EndingWork e ts) (he : q.entry e = p.entry e) : q.EndingWork e ts := by
  unfold Part.EndingWork
  rw [he]
  exact h

theorem ending_of_signal (h : (p.entry e).electrical? = none) : p.ending e = p.settleEntry e := by
  rw [Part.ending, released_of_signal h]

/-- An ended release leaves a quiet part quiet, and the cause recorded. -/
theorem Part.Quiet.released (h : p.Quiet) {cause : EndCause} (hx : (p.entry e).Ending cause) :
    (p.released e []).1.Quiet ∧ ((p.released e []).1.entry e).Ending cause := by
  cases hd : (p.entry e).electrical? with
  | none => rw [released_of_signal hd]; exact ⟨h, hx⟩
  | some d =>
    have hentry := entry_of_set (released_entries hd) (lt_of_electrical hd)
    rw [hentry]
    exact ⟨h.of_touches (touches_released e p) (by rw [hentry]; exact ⟨(h.entries e).1, (h.entries e).2, (h.entries e).3⟩),
      ⟨hx.defined, hx.cause⟩⟩

theorem Part.Quiet.leads_ending (h : p.Quiet) {ts : List Task} (hw : p.EndingWork e ts) :
    Leads 259 ts p (p.ending e) ∧ (p.ending e).Quiet := by
  obtain ⟨⟨cause, hx⟩, ⟨hd, rfl⟩ | ⟨hd, v, back, rfl⟩⟩ := hw
  · obtain ⟨hquiet, hx'⟩ := h.released hx
    refine ⟨.task rfl ?_, hquiet.settleEntry hx'⟩
    obtain ⟨d, hd⟩ := Option.ne_none_iff_exists'.mp hd
    obtain ⟨v, back, hts⟩ : ∃ v back, (p.released e []).2 =
        Part.arbiterPass back v ++ [.occur (.entry e .released), .finish e] := by
      unfold Part.released
      rw [hd]
      exact ⟨_, _, rfl⟩
    show Leads 258 (p.released e []).2 (p.released e []).1 _
    rw [hts]
    exact hquiet.leads_settle hx' v back
  · rw [ending_of_signal hd]
    exact ⟨(h.leads_settle hx v back).mono (by omega), h.settleEntry hx⟩

end

end Sys2Proof.Machine
end

section
/-! SUPPORT. The steps of entry to SAFE, each in equations: a wait dropped, a fast release begun, a signal ended (R114, R116,
R147). -/

namespace Sys2Proof.Machine

open Sys2Proof

section
variable {e : Nat} {d : Electrical} {p q : Part}

/-! ### What parts alike to an entry come to -/

theorem line_setCell (h : (p.line l).state = .held e) (c : CellId) (x : Cell) (k : Nat) :
    (p.setCell l c x).line k = if k = l then (p.line l).setCell c x else p.line k := by
  split
  · rename_i hk
    rw [hk]
    exact line_setLine l _ p (line_lt (by rw [h]; exact LineState.noConfusion))
  · exact line_setCell_ne ‹_› c x p

theorem Part.Alike.setCell (h : p.Alike e q) {l : Nat} (hl : (p.line l).state = .held e) (c : CellId) (x : Cell) :
    (p.setCell l c x).Alike e (q.setCell l c x) where
  clock := h.clock
  settle := h.settle
  entry := h.entry
  line k hk := by
    rw [line_setCell ((h.line_of_held hl).symm ▸ hl), line_setCell hl, h.line_of_held hl]
    split
    · rfl
    · exact h.line k fun j hj => by
        have := hk j hj
        rwa [line_setCell_state] at this
  held k hk := by
    rw [line_setCell_state] at hk ⊢
    exact h.held k hk

theorem Part.Alike.holdBackCloses (h : p.Alike e q) : (p.holdBackCloses e).Alike e (q.holdBackCloses e) := by
  have hfold (ts : List (Nat × CellId)) {p q : Part} (h : p.Alike e q) (hts : ∀ t ∈ ts, (p.line t.1).state = .held e) :
      (ts.foldl (fun v t => v.setCell t.1 t.2 { v.cell t.1 t.2 with commanded := false }) p).Alike e
        (ts.foldl (fun v t => v.setCell t.1 t.2 { v.cell t.1 t.2 with commanded := false }) q) := by
    induction ts generalizing p q with
    | nil => exact h
    | cons t ts ih =>
      have ht := hts t List.mem_cons_self
      have hcell : q.cell t.1 t.2 = p.cell t.1 t.2 := by rw [Part.cell, h.line_of_held ht, Part.cell]
      refine ih ?_ fun u hu => ?_
      · show Part.Alike e _ (q.setCell t.1 t.2 { q.cell t.1 t.2 with commanded := false })
        rw [hcell]
        exact h.setCell ht t.2 _
      · rw [line_setCell_state]
        exact hts u (List.mem_cons_of_mem t hu)
  unfold Part.holdBackCloses
  rw [h.entry]
  cases (p.entry e).seq with
  | none => exact h
  | some s =>
    have hnow : q.now = p.now := congrArg Clock.ticks h.clock
    have htargets : (s.step.targets.filter fun t => (q.line t.1).state = .held e) =
        s.step.targets.filter fun t => (p.line t.1).state = .held e :=
      List.filter_congr fun t _ => decide_eq_decide.mpr (h.held_iff t.1)
    simp only [hnow, htargets]
    split
    · exact hfold _ h fun t ht => of_decide_eq_true (List.mem_filter.mp ht).2
    · exact h

/-- A release as its rule describes it, read in either of two parts alike to its entry. -/
theorem Part.Alike.releasing {r : Part} {fast : Bool} {cause : EndCause} (h : p.Alike e q)
    (hr : q.Releasing fast e d cause r) : p.Releasing fast e d cause r := by
  obtain ⟨hopens, hcloses⟩ := hr
  rw [h.releaseOpens, h.heldLines, h.clock, h.entry, h.settle] at hopens
  rw [h.releaseOpens, h.releaseCloses, h.heldLines, h.clock, h.entry, h.settle] at hcloses
  refine ⟨fun ho => ?_, fun ho hc => ?_⟩
  · obtain ⟨hentry, hlines⟩ := hopens ho
    refine ⟨hentry, fun l hl => ?_⟩
    refine (hlines l hl).trans ?_
    unfold Part.cell
    rw [h.line_of_mem hl]
  · obtain ⟨hentry, hlines⟩ := hcloses ho hc
    refine ⟨hentry, fun l hl => ?_⟩
    refine (hlines l hl).trans ?_
    unfold Part.cell
    rw [h.line_of_mem hl]

end

/-! ### The classes of entries -/

section
variable {x : Entry} {d : Electrical} {c : Nat} {f : SigFault}

theorem signal_iff : x.signal? = some (c, f) ↔ x.definition.map EntryDef.cls = some (.signal c f) := by
  cases hx : x.definition with
  | none => simp [Entry.signal?, hx]
  | some y => cases hy : y.cls <;> simp [Entry.signal?, hx, hy]

theorem electrical_iff : x.electrical? = some d ↔ x.definition.map EntryDef.cls = some (.electrical d) := by
  cases hx : x.definition with
  | none => simp [Entry.electrical?, hx]
  | some y => cases hy : y.cls <;> simp [Entry.electrical?, EntryDef.electrical?, hx, hy]

theorem defined_of_electrical (h : x.electrical? = some d) : x.definition ≠ none := fun hn => by
  simp [Entry.electrical?, hn] at h

theorem defined_of_signal (h : x.signal? = some (c, f)) : x.definition ≠ none := fun hn => by
  simp [Entry.signal?, hn] at h

theorem not_electrical_of_signal (h : x.signal? = some (c, f)) : x.electrical? = none := by
  rw [signal_iff] at h
  cases hd : x.electrical? with
  | none => rfl
  | some d => rw [electrical_iff, h] at hd; cases hd

/-- A defined entry that is not ELECTRICAL is SIGNAL. -/
theorem signal_of_defined (hd : x.definition ≠ none) (he : x.electrical? = none) : ∃ c f, x.signal? = some (c, f) := by
  obtain ⟨y, hy⟩ := Option.ne_none_iff_exists'.mp hd
  cases hcls : y.cls with
  | electrical d => simp [Entry.electrical?, EntryDef.electrical?, hy, hcls] at he
  | signal c f => exact ⟨c, f, by simp [Entry.signal?, hy, hcls]⟩

end

/-! ### A wait dropped (R147) -/

section
variable {e : Nat} {d : Electrical} {p : Part}

theorem safeWaiting_of_armed (h : (p.entry e).state = .armed) :
    p.safeWaiting e = (p.enterEntry e .loaded { p.entry e with waiting := none }, []) := by
  unfold Part.safeWaiting
  simp only [h]

theorem safeWaiting_of_blocked (h : (p.entry e).state = .blocked) : p.safeWaiting e = (p.recordCause e .safe).finish e := by
  unfold Part.safeWaiting
  simp only [h]

theorem safeWaiting_of_other (ha : (p.entry e).state ≠ .armed) (hb : (p.entry e).state ≠ .blocked) :
    p.safeWaiting e = (p, []) := by
  unfold Part.safeWaiting
  dsimp only
  split
  · exact absurd ‹_› ha
  · exact absurd ‹_› hb
  · rfl

theorem touches_safeWaiting (e : Nat) (p : Part) : p.Touches e (p.safeWaiting e).1 := by
  by_cases ha : (p.entry e).state = .armed
  · rw [safeWaiting_of_armed ha]
    refine touches_enterEntry ?_ _
    rfl
  · by_cases hb : (p.entry e).state = .blocked
    · rw [safeWaiting_of_blocked hb]
      exact (touches_recordCause e .safe p).trans (touches_finish e _)
    · rw [safeWaiting_of_other ha hb]
      exact .refl e p

theorem recordCause_entry (he : e < p.entries.length) (cause : EndCause) :
    (p.recordCause e cause).entry e = { p.entry e with endCause := some ((p.entry e).endCause.getD cause) } := by
  rw [recordCause_eq, entry_setEntry _ _ _ he]

theorem recordCause_safe (e : Nat) (cause : EndCause) (p : Part) : (p.recordCause e cause).safe = p.safe :=
  safe_of_outer (recordCause_outer ..)

theorem endedInSafe_of_cause (t : Nat) (cause c : EndCause) (x : Entry) :
    ({ x with endCause := some c } : Entry).endedInSafe t cause = x.endedInSafe t cause := by
  cases cause <;> rfl

/-- A BLOCKED entry's occurrence ends as the part enters SAFE. -/
theorem safeWaiting_of_defined (h : (p.entry e).state = .blocked) (hs : p.safe.isSome = true)
    (hd : (p.entry e).definition ≠ none) :
    p.safeWaiting e =
      let cause := (p.entry e).endCause.getD .safe
      (((p.recordCause e .safe).loggedEnd e cause).enterEntry e ((p.entry e).endedInSafe p.clock.rigTime cause).state
        ((p.entry e).endedInSafe p.clock.rigTime cause), []) := by
  have hentry := recordCause_entry (entry_lt hd) .safe
  rw [safeWaiting_of_blocked h, finish_of_safe (cause := (p.entry e).endCause.getD .safe) (by rw [recordCause_safe]; exact hs)
    (by rw [hentry]) (by rw [hentry]; exact hd), hentry, clock_of_outer (recordCause_outer ..), endedInSafe_of_cause]

theorem safeWaiting_of_undefined (h : (p.entry e).state = .blocked) (hd : (p.entry e).definition = none) :
    p.safeWaiting e = (p.recordCause e .safe, []) := by
  have hdef : ((p.recordCause e .safe).entry e).definition = none := (touches_recordCause e .safe p).definition.trans hd
  rw [safeWaiting_of_blocked h]
  unfold Part.finish
  simp only [hdef]
  split
  · rename_i hn
    cases hn
  · rfl

theorem safeWaiting_tasks (hs : p.safe.isSome = true) (e : Nat) : (p.safeWaiting e).2 = [] := by
  by_cases ha : (p.entry e).state = .armed
  · rw [safeWaiting_of_armed ha]
  · by_cases hb : (p.entry e).state = .blocked
    · by_cases hd : (p.entry e).definition = none
      · rw [safeWaiting_of_undefined hb hd]
      · rw [safeWaiting_of_defined hb hs hd]
    · rw [safeWaiting_of_other ha hb]

/-! ### An inserted entry let go (R114, R116, R147) -/

/-- The part that a fast release begins from: an insertion step is abandoned, its closes of the tick not given. -/
def Part.abandoned (e : Nat) (p : Part) : Part := if (p.entry e).state = .inserting then p.holdBackCloses e else p

theorem abandoned_entries (e : Nat) (p : Part) : (p.abandoned e).entries = p.entries := by
  unfold Part.abandoned
  split
  · exact holdBackCloses_entries e p
  · rfl

theorem abandoned_bare (e : Nat) (p : Part) : (p.abandoned e).bare = p.bare := by
  unfold Part.abandoned
  split
  · exact holdBackCloses_bare e p
  · rfl

theorem touches_abandoned (e : Nat) (p : Part) :
    p.Touches e (p.abandoned e) ∧ ∀ l, ((p.abandoned e).line l).state = (p.line l).state := by
  unfold Part.abandoned
  split
  · exact holdBackCloses_touches e p
  · exact ⟨.refl e p, fun _ => rfl⟩

theorem Part.Alike.abandoned {q : Part} (h : p.Alike e q) : (p.abandoned e).Alike e (q.abandoned e) := by
  unfold Part.abandoned
  rw [h.entry]
  split
  · exact h.holdBackCloses
  · exact h

/-- The closes held back are those of the entry's step, whatever else is written in it. -/
theorem holdBackCloses_setEntry {x : Entry} (he : e < p.entries.length) (hx : x.seq = (p.entry e).seq) :
    (p.setEntry e x).holdBackCloses e = (p.holdBackCloses e).setEntry e x := by
  have hfold (ts : List (Nat × CellId)) (p : Part) :
      ts.foldl (fun v t => v.setCell t.1 t.2 { v.cell t.1 t.2 with commanded := false }) (p.setEntry e x) =
        (ts.foldl (fun v t => v.setCell t.1 t.2 { v.cell t.1 t.2 with commanded := false }) p).setEntry e x := by
    induction ts generalizing p with
    | nil => rfl
    | cons t ts ih => exact ih (p.setCell t.1 t.2 { p.cell t.1 t.2 with commanded := false })
  unfold Part.holdBackCloses
  rw [entry_setEntry _ _ _ he, hx]
  cases (p.entry e).seq with
  | none => rfl
  | some s =>
    by_cases hc : (s.step.closing && decide (s.followed = some p.now)) = true
    · exact (if_pos hc).trans ((hfold _ p).trans (congrArg (Part.setEntry e x) (if_pos hc).symm))
    · exact (if_neg hc).trans (congrArg (Part.setEntry e x) (if_neg hc).symm)

theorem abandoned_recordCause (he : e < p.entries.length) (cause : EndCause) :
    (p.recordCause e cause).abandoned e = (p.abandoned e).recordCause e cause := by
  have hentry := entry_of_entries (abandoned_entries e p) e
  rw [recordCause_eq, recordCause_eq, hentry]
  unfold Part.abandoned
  rw [entry_setEntry _ _ _ he]
  split
  · exact holdBackCloses_setEntry he rfl
  · rfl

/-- The part as a fast release by entry to SAFE begins. -/
def Part.unfastened (e : Nat) (p : Part) : Part := (p.abandoned e).recordCause e .safe

theorem unfastened_entry (he : e < p.entries.length) :
    (p.unfastened e).entry e = { p.entry e with endCause := some ((p.entry e).endCause.getD .safe) } := by
  have hentries := abandoned_entries e p
  rw [Part.unfastened, recordCause_entry (by rw [hentries]; exact he), entry_of_entries hentries]

theorem unfastened_matrix (e : Nat) (p : Part) : (p.unfastened e).matrix = (p.abandoned e).matrix := by
  rw [Part.unfastened, recordCause_eq]
  rfl

theorem touches_unfastened (e : Nat) (p : Part) : p.Touches e (p.unfastened e) :=
  (touches_abandoned e p).1.trans (touches_recordCause e .safe _)

theorem unfastened_bare (e : Nat) (p : Part) : (p.unfastened e).bare = p.bare :=
  (recordCause_bare ..).trans (abandoned_bare e p)

/-- An INSERTING or ACTIVE entry that is ELECTRICAL is let go in a fast release. -/
theorem safeInserted_of_electrical (hd : (p.entry e).electrical? = some d)
    (hs : (p.entry e).state = .inserting ∨ (p.entry e).state = .active) :
    p.safeInserted e = (p.unfastened e).beginRelease e true := by
  have he := lt_of_electrical hd
  have hrecord := abandoned_recordCause he .safe
  unfold Part.safeInserted Part.unfastened
  rw [← hrecord]
  unfold Part.abandoned
  rw [recordCause_entry he]
  rcases hs with hs | hs
  · simp only [hd, hs, if_true]
  · simp only [hd, hs, if_neg, reduceCtorEq, not_false_eq_true]

/-- An ACTIVE entry that is SIGNAL ends at once, unless its end is recorded already. -/
theorem safeInserted_of_signal {c : Nat} {f : SigFault} (hf : (p.entry e).signal? = some (c, f))
    (hs : (p.entry e).state = .active) (hc : (p.entry e).endCause = none) :
    p.safeInserted e = (p.recordCause e .safe).endSignal e c f := by
  unfold Part.safeInserted Part.endActive
  simp only [not_electrical_of_signal hf, hs, hc, signal_iff.mp hf]

/-- Any other entry is left as it is. -/
theorem safeInserted_of_other (he : ∀ d, (p.entry e).electrical? = some d →
      (p.entry e).state ≠ .inserting ∧ (p.entry e).state ≠ .active)
    (hs : (p.entry e).signal? ≠ none → (p.entry e).state = .active → (p.entry e).endCause ≠ none) :
    p.safeInserted e = (p, []) := by
  unfold Part.safeInserted
  dsimp only
  split
  · exact absurd ‹_› (he _ ‹_›).1
  · exact absurd ‹_› (he _ ‹_›).2
  · unfold Part.endActive
    dsimp only
    split
    · rename_i hd _ _ _ _ _ _ _ hcls
      rw [electrical_iff.mpr hcls] at hd
      cases hd
    · rename_i hact _ _ _ _ _ _ hc hcls
      exact absurd hc (hs (by rw [signal_iff.mpr hcls]; exact Option.some_ne_none _) hact)
    · rfl
  · rfl

/-! ### A signal ended (R139, R143) -/

/-- A channel drops the modifier that an entry has put on it. -/
def Part.dropModifier (e c : Nat) (p : Part) : Part :=
  if (p.channel c).modifier.any (fun m => m.entry = e) then p.setChannel c { p.channel c with modifier := none } else p

/-- A signal ended: the modifier dropped and the claims given back. -/
def Part.signalOff (e c : Nat) (f : SigFault) (p : Part) : Part :=
  { p.dropModifier e c with claims := p.claims.giveBack e (.signal c f) }

theorem endSignal_eq (e c : Nat) (f : SigFault) (p : Part) :
    p.endSignal e c f = (p.signalOff e c f,
      (p.signalOff e c f).arbiterPass [] ++ [.occur (.entry e .released), .finish e]) := by
  have hclaims : (p.dropModifier e c).claims = p.claims := by
    unfold Part.dropModifier
    split <;> rfl
  unfold Part.signalOff
  rw [← hclaims]
  rfl

theorem signalOff_entries (e c : Nat) (f : SigFault) (p : Part) : (p.signalOff e c f).entries = p.entries := by
  unfold Part.signalOff Part.dropModifier
  split <;> rfl

theorem signalOff_matrix (e c : Nat) (f : SigFault) (p : Part) : (p.signalOff e c f).matrix = p.matrix := by
  unfold Part.signalOff Part.dropModifier
  split <;> rfl

theorem signalOff_bare (e c : Nat) (f : SigFault) (p : Part) : (p.signalOff e c f).bare = p.bare.signalOff e c f := by
  have hchannel : p.bare.channel c = p.channel c := rfl
  unfold Part.signalOff Part.dropModifier
  rw [hchannel]
  split <;> rfl

theorem touches_signalOff (e c : Nat) (f : SigFault) (p : Part) : p.Touches e (p.signalOff e c f) := by
  refine touches_of_aside ?_ (signalOff_entries ..) (congrArg Matrix.lines (signalOff_matrix ..))
  unfold Part.signalOff Part.dropModifier
  split
  · exact ⟨rfl, rfl, rfl, List.length_set .., rfl⟩
  · exact ⟨rfl, rfl, rfl, rfl, rfl⟩

/-! ### What an inserted entry comes to -/

/-- The occurrence of an entry ends on the tick of entry to SAFE: its fast release has nothing to command, or it is a
signal's. -/
def Part.EndsAtOnce (e : Nat) (p : Part) : Prop :=
  (∃ d, (p.entry e).electrical? = some d ∧ ((p.entry e).state = .inserting ∨ (p.entry e).state = .active) ∧
    ¬(p.abandoned e).HasToRelease e d) ∨
  ((p.entry e).signal? ≠ none ∧ (p.entry e).state = .active ∧ (p.entry e).endCause = none)

theorem Part.Alike.endsAtOnce {q : Part} (h : p.Alike e q) : q.EndsAtOnce e ↔ p.EndsAtOnce e := by
  simp only [Part.EndsAtOnce, h.entry, h.abandoned.hasToRelease]

theorem unfastened_hasToRelease (e : Nat) (d : Electrical) (p : Part) :
    (p.unfastened e).HasToRelease e d ↔ (p.abandoned e).HasToRelease e d := by
  have hline (l : Nat) : (p.unfastened e).line l = (p.abandoned e).line l :=
    line_of_lines (congrArg Matrix.lines (unfastened_matrix e p)) l
  simp only [Part.HasToRelease, Part.releaseOpens, Part.releaseCloses, Part.heldLines, Part.cell, hline]

/-- The three things that entry to SAFE finds of an inserted entry. -/
theorem inserted_cases (e : Nat) (p : Part) :
    (∃ d, (p.entry e).electrical? = some d ∧ ((p.entry e).state = .inserting ∨ (p.entry e).state = .active)) ∨
    (∃ c f, (p.entry e).signal? = some (c, f) ∧ (p.entry e).state = .active ∧ (p.entry e).endCause = none) ∨
    p.safeInserted e = (p, []) ∧ ¬p.EndsAtOnce e ∧
      (∀ d, (p.entry e).electrical? = some d → (p.entry e).state ≠ .inserting ∧ (p.entry e).state ≠ .active) ∧
      ((p.entry e).signal? ≠ none → (p.entry e).state = .active → (p.entry e).endCause ≠ none) := by
  by_cases he : ∃ d, (p.entry e).electrical? = some d ∧ ((p.entry e).state = .inserting ∨ (p.entry e).state = .active)
  · exact .inl he
  · by_cases hs : ∃ c f, (p.entry e).signal? = some (c, f) ∧ (p.entry e).state = .active ∧ (p.entry e).endCause = none
    · exact .inr (.inl hs)
    · have he' : ∀ d, (p.entry e).electrical? = some d → (p.entry e).state ≠ .inserting ∧ (p.entry e).state ≠ .active :=
        fun d hd => not_or.mp fun hstate => he ⟨d, hd, hstate⟩
      have hs' : (p.entry e).signal? ≠ none → (p.entry e).state = .active → (p.entry e).endCause ≠ none := by
        intro hsig hact hc
        obtain ⟨⟨c, f⟩, hf⟩ := Option.ne_none_iff_exists'.mp hsig
        exact hs ⟨c, f, hf, hact, hc⟩
      refine .inr (.inr ⟨safeInserted_of_other he' hs', ?_, he', hs'⟩)
      rintro (⟨d, hd, hstate, -⟩ | ⟨hsig, hact, hc⟩)
      · exact he ⟨d, hd, hstate⟩
      · exact hs' hsig hact hc

theorem touches_safeInserted (e : Nat) (p : Part) : p.Touches e (p.safeInserted e).1 := by
  rcases inserted_cases e p with ⟨d, hd, hs⟩ | ⟨c, f, hf, hs, hc⟩ | ⟨h, -⟩
  · have hentry := unfastened_entry (p := p) (lt_of_electrical hd)
    rw [safeInserted_of_electrical hd hs]
    refine (touches_unfastened e p).trans (touches_beginRelease (d := d) (by rw [hentry]; exact hd) ?_ true)
    rw [hentry]
    rcases hs with hs | hs <;> (show (p.entry e).state ≠ _; rw [hs]; exact EntryState.noConfusion)
  · rw [safeInserted_of_signal hf hs hc, endSignal_eq]
    exact (touches_recordCause e .safe p).trans (touches_signalOff e c f _)
  · rw [h]
    exact .refl e p

theorem beginRelease_of_something (h : (p.entry e).electrical? = some d) (fast : Bool) (hyes : p.HasToRelease e d) :
    (p.beginRelease e fast).2 = [] := by
  by_cases hopens : p.releaseOpens e d = []
  · rw [beginRelease_of_closes h (lt_of_electrical h) fast hopens (hyes.resolve_left (not_not.mpr hopens))]
  · rw [beginRelease_of_opens h (lt_of_electrical h) fast hopens]

/-- An ELECTRICAL entry that is inserted ends at once exactly where its release has nothing to command. -/
theorem endsAtOnce_of_electrical (hd : (p.entry e).electrical? = some d)
    (hs : (p.entry e).state = .inserting ∨ (p.entry e).state = .active) :
    p.EndsAtOnce e ↔ ¬(p.unfastened e).HasToRelease e d := by
  rw [unfastened_hasToRelease]
  constructor
  · rintro (⟨d', hd', -, hno⟩ | ⟨hsig, -⟩)
    · rwa [Option.some.inj (hd.symm.trans hd')]
    · obtain ⟨⟨c, f⟩, hf⟩ := Option.ne_none_iff_exists'.mp hsig
      exact absurd (hd.symm.trans (not_electrical_of_signal hf)) (Option.some_ne_none d)
  · exact fun hno => .inl ⟨d, hd, hs, hno⟩

/-- The work that entry to SAFE leaves of an inserted entry: the work of its ending, where its occurrence ends at once. -/
theorem safeInserted_work (e : Nat) (p : Part) :
    (p.EndsAtOnce e → (p.safeInserted e).1.EndingWork e (p.safeInserted e).2) ∧
    (¬p.EndsAtOnce e → (p.safeInserted e).2 = []) := by
  rcases inserted_cases e p with ⟨d, hd, hs⟩ | ⟨c, f, hf, hs, hc⟩ | ⟨h, hno, -⟩
  · have he := lt_of_electrical hd
    have hd' : ((p.unfastened e).entry e).electrical? = some d := by rw [unfastened_entry he]; exact hd
    have he' := lt_of_electrical hd'
    rw [endsAtOnce_of_electrical hd hs, safeInserted_of_electrical hd hs]
    refine ⟨fun hno => ?_, fun hyes => beginRelease_of_something hd' true (not_not.mp hyes)⟩
    rw [beginRelease_of_nothing hd' he' true hno]
    have hentry : (((p.unfastened e).lettingGo e d).setEntry e ((p.unfastened e).entry e).lettingGo).entry e =
        ((p.unfastened e).entry e).lettingGo := entry_setEntry _ _ _ (by rw [lettingGo_entries, List.length_set]; exact he')
    unfold Part.EndingWork
    rw [hentry, unfastened_entry he]
    exact ⟨⟨_, defined_of_electrical hd, rfl⟩, .inl ⟨fun hn => Option.some_ne_none d (hd.symm.trans hn), rfl⟩⟩
  · have he := entry_lt (defined_of_signal hf)
    have hentry : ((p.recordCause e .safe).signalOff e c f).entry e = { p.entry e with endCause := some .safe } := by
      rw [entry_of_entries (signalOff_entries ..), recordCause_entry he, hc]
      rfl
    rw [safeInserted_of_signal hf hs hc, endSignal_eq]
    refine ⟨fun _ => ?_, fun hno => absurd (.inr ⟨by rw [hf]; exact Option.some_ne_none _, hs, hc⟩) hno⟩
    unfold Part.EndingWork
    rw [hentry]
    exact ⟨⟨_, defined_of_signal hf, rfl⟩, .inr ⟨not_electrical_of_signal hf, _, _, rfl⟩⟩
  · rw [h]
    exact ⟨fun hyes => absurd hyes hno, fun _ => rfl⟩

/-! ### Quiet entries -/

/-- An entry as entry to SAFE drops its wait (R147). -/
def Entry.waitDropped (time : Nat) (x : Entry) : Entry :=
  match x.state, x.definition with
  | .armed, _ => { x with state := .loaded, waiting := none }
  | .blocked, some _ => x.endedInSafe time (x.endCause.getD .safe)
  | .blocked, none => { x with endCause := some (x.endCause.getD .safe) }
  | _, _ => x

theorem waitDropped_of_armed {x : Entry} (h : x.state = .armed) (time : Nat) :
    x.waitDropped time = { x with state := .loaded, waiting := none } := by
  unfold Entry.waitDropped
  rw [h]

theorem waitDropped_of_blocked {x : Entry} (h : x.state = .blocked) (hd : x.definition ≠ none) (time : Nat) :
    x.waitDropped time = x.endedInSafe time (x.endCause.getD .safe) := by
  obtain ⟨d, hd⟩ := Option.ne_none_iff_exists'.mp hd
  unfold Entry.waitDropped
  rw [h, hd]

theorem waitDropped_of_undefined {x : Entry} (h : x.state = .blocked) (hd : x.definition = none) (time : Nat) :
    x.waitDropped time = { x with endCause := some (x.endCause.getD .safe) } := by
  unfold Entry.waitDropped
  rw [h, hd]

theorem waitDropped_of_other {x : Entry} (ha : x.state ≠ .armed) (hb : x.state ≠ .blocked) (time : Nat) :
    x.waitDropped time = x := by
  unfold Entry.waitDropped
  split
  · exact absurd ‹_› ha
  · exact absurd ‹_› hb
  · exact absurd ‹_› hb
  · rfl

/-- A wait dropped leaves no entry ARMED, none inserted that was not, and no defined one BLOCKED. -/
theorem waitDropped_state (time : Nat) (x : Entry) :
    (x.waitDropped time).state ≠ .armed ∧
    ((x.waitDropped time).state = .blocked → (x.waitDropped time).definition = none) ∧
    ((x.waitDropped time).state = .inserting ∨ (x.waitDropped time).state = .active → x.waitDropped time = x) := by
  by_cases ha : x.state = .armed
  · rw [waitDropped_of_armed ha]
    exact ⟨EntryState.noConfusion, fun h => EntryState.noConfusion h, fun h => by rcases h with h | h <;> cases h⟩
  · by_cases hb : x.state = .blocked
    · by_cases hd : x.definition = none
      · rw [waitDropped_of_undefined hb hd]
        exact ⟨ha, fun _ => hd, fun h => by rcases h with h | h <;> exact absurd (hb.symm.trans h) EntryState.noConfusion⟩
      · have hquiet := endedInSafe_quiet time (x.endCause.getD .safe) x
        have hstate := endedInSafe_state time (x.endCause.getD .safe) x
        rw [waitDropped_of_blocked hb hd]
        exact ⟨hquiet.unarmed, hquiet.unblocked, fun h => by rcases hstate with h' | h' | h' <;> rw [h'] at h <;> simp at h⟩
    · rw [waitDropped_of_other ha hb]
      exact ⟨ha, fun h => absurd h hb, fun _ => rfl⟩

theorem safeWaiting_entry (hs : p.safe.isSome = true) (e : Nat) :
    (p.safeWaiting e).1.entry e = (p.entry e).waitDropped p.clock.rigTime := by
  rcases Nat.lt_or_ge e p.entries.length with he | he
  · by_cases ha : (p.entry e).state = .armed
    · rw [safeWaiting_of_armed ha, entry_of_set (enterEntry_entries ..) he, waitDropped_of_armed ha]
    · by_cases hb : (p.entry e).state = .blocked
      · by_cases hd : (p.entry e).definition = none
        · rw [safeWaiting_of_undefined hb hd, recordCause_entry he, waitDropped_of_undefined hb hd]
        · have hlen : ((p.recordCause e .safe).loggedEnd e ((p.entry e).endCause.getD .safe)).entries.length =
              p.entries.length := by rw [loggedEnd_entries, recordCause_eq, setEntry_entries, List.length_set]
          rw [safeWaiting_of_defined hb hs hd, waitDropped_of_blocked hb hd]
          dsimp only
          rw [entry_of_set (enterEntry_entries ..) (by rw [hlen]; exact he)]
      · rw [safeWaiting_of_other ha hb, waitDropped_of_other ha hb]
  · have hempty : p.entry e = Entry.empty := entry_of_le he
    rw [safeWaiting_of_other (by rw [hempty]; exact EntryState.noConfusion) (by rw [hempty]; exact EntryState.noConfusion), hempty]
    rfl

/-- An inserted entry let go, where nothing waits in it, leaves it quiet. -/
theorem safeInserted_quiet (ha : (p.entry e).state ≠ .armed) (hb : (p.entry e).state = .blocked → (p.entry e).definition = none) :
    ((p.safeInserted e).1.entry e).Quiet := by
  rcases inserted_cases e p with ⟨d, hd, hs⟩ | ⟨c, f, hf, hs, hc⟩ | ⟨h, -, hels, hsig⟩
  · have he := lt_of_electrical hd
    have hd' : ((p.unfastened e).entry e).electrical? = some d := by rw [unfastened_entry he]; exact hd
    obtain ⟨seq, hent⟩ := beginRelease_entries hd' true
    rw [safeInserted_of_electrical hd hs, entry_of_set hent (lt_of_electrical hd')]
    exact ⟨EntryState.noConfusion, fun h => EntryState.noConfusion h, fun h => EntryState.noConfusion h⟩
  · have hentry : ((p.recordCause e .safe).signalOff e c f).entry e = { p.entry e with endCause := some .safe } := by
      rw [entry_of_entries (signalOff_entries ..), recordCause_entry (entry_lt (defined_of_signal hf)), hc]
      rfl
    rw [safeInserted_of_signal hf hs hc, endSignal_eq, hentry]
    exact ⟨ha, hb, fun _ => .inr (Option.some_ne_none _)⟩
  · rw [h]
    refine ⟨ha, hb, fun hact => ?_⟩
    by_cases hd : (p.entry e).definition = none
    · exact .inl hd
    · cases he : (p.entry e).electrical? with
      | some d => exact absurd hact (hels d he).2
      | none =>
        obtain ⟨c, f, hf⟩ := signal_of_defined hd he
        exact .inr (hsig (by rw [hf]; exact Option.some_ne_none _) hact)

end

end Sys2Proof.Machine
end

section
/-! SUPPORT. Entry to SAFE as five passes, each over the entries, the groups or the channels in turn (R157). -/

namespace Sys2Proof.Machine

open Sys2Proof

/-! ### Passes that leave work -/

section
variable {f : Nat → Part → Part × List Task}

theorem forEach_cons (f : Nat → Part → Part × List Task) (n : Nat) (ns : List Nat) (p : Part) :
    p.forEach f (n :: ns) = (((f n p).1.forEach f ns).1, (f n p).2 ++ ((f n p).1.forEach f ns).2) := by
  have hacc (ns : List Nat) (p : Part) (ts : List Task) :
      ns.foldl (fun (q, ts) n => let r := f n q; (r.1, ts ++ r.2)) (p, ts) = ((p.forEach f ns).1, ts ++ (p.forEach f ns).2) := by
    induction ns generalizing p ts with
    | nil => simp [Part.forEach]
    | cons n ns ih =>
      unfold Part.forEach
      rw [List.foldl_cons, List.foldl_cons, ih, ih]
      simp
  unfold Part.forEach
  rw [List.foldl_cons, hacc]
  rfl

theorem forEach_fst (f : Nat → Part → Part × List Task) (ns : List Nat) (p : Part) :
    (p.forEach f ns).1 = ns.foldl (fun v n => (f n v).1) p := by
  induction ns generalizing p with
  | nil => rfl
  | cons n ns ih => rw [forEach_cons, List.foldl_cons, ih]

/-- A pass whose steps leave no work in SAFE leaves none. -/
theorem forEach_of_no_work (htouch : ∀ n v, Part.Touches n v (f n v).1) (h : ∀ n v, v.safe.isSome = true → (f n v).2 = [])
    (ns : List Nat) {p : Part} (hs : p.safe.isSome = true) : p.forEach f ns = (ns.foldl (fun v n => (f n v).1) p, []) := by
  induction ns generalizing p with
  | nil => rfl
  | cons n ns ih =>
    have hs' : (f n p).1.safe.isSome = true := by rw [safe_of_outer (htouch n p).aside.beside.outer]; exact hs
    rw [forEach_cons, ih hs', h n p hs]
    rfl

end

/-! ### The passes -/

/-- The waits dropped of some entries. -/
def Part.waitsDropped (es : List Nat) (p : Part) : Part := es.foldl (fun v e => (v.safeWaiting e).1) p

/-- The conditions dropped of some groups. -/
def Part.groupsDropped (gs : List Nat) (p : Part) : Part := gs.foldl (fun v g => v.safeGroup g) p

/-- Some entries let go. -/
def Part.letGo (es : List Nat) (p : Part) : Part := es.foldl (fun v e => (v.safeInserted e).1) p

/-- The endings of some entries done. -/
def Part.endings (es : List Nat) (p : Part) : Part := es.foldl (fun v e => v.ending e) p

/-- Some channels held. -/
def Part.channelsHeld (cs : List Nat) (p : Part) : Part := cs.foldl (fun v c => v.safeChannel c) p

/-- The entries that end at once on entry to SAFE: those that the certificate lists, but for any without a definition. -/
def Part.safeEnds (p : Part) : List Nat :=
  (List.range 128).filter fun e => p.endsInSafe.contains e && (p.entry e).definition.isSome

section
variable {p : Part}

theorem releasesAtOnce_iff (e : Nat) (d : Electrical) (p : Part) : p.releasesAtOnce e d = true ↔ ¬p.HasToRelease e d := by
  simp [Part.releasesAtOnce, Part.HasToRelease]

theorem mem_endsInSafe (e : Nat) (hd : (p.entry e).definition ≠ none) : e ∈ p.endsInSafe ↔ e < 128 ∧ p.EndsAtOnce e := by
  unfold Part.endsInSafe
  rw [List.mem_filter, List.mem_range]
  refine and_congr_right fun _ => ?_
  dsimp only
  split
  · rename_i d he hs
    rw [endsAtOnce_of_electrical he (.inl hs), unfastened_hasToRelease, Part.abandoned, if_pos hs, releasesAtOnce_iff]
  · rename_i d he hs
    rw [endsAtOnce_of_electrical he (.inr hs), unfastened_hasToRelease, Part.abandoned, if_neg (by rw [hs]; exact
      EntryState.noConfusion), releasesAtOnce_iff]
  · rename_i he hs
    obtain ⟨c, f, hf⟩ := signal_of_defined hd he
    simp [Part.EndsAtOnce, he, hs, hf]
  · rename_i hins hact hsig
    refine iff_of_false Bool.false_ne_true ?_
    rintro (⟨d, he, hs | hs, -⟩ | ⟨hf, hs, -⟩)
    · exact hins d he hs
    · exact hact d he hs
    · obtain ⟨⟨c, f⟩, hf⟩ := Option.ne_none_iff_exists'.mp hf
      exact hsig (not_electrical_of_signal hf) hs

theorem mem_safeEnds (e : Nat) : e ∈ p.safeEnds ↔ e < 128 ∧ p.EndsAtOnce e := by
  unfold Part.safeEnds
  rw [List.mem_filter, List.mem_range, Bool.and_eq_true, List.contains_iff_mem, Option.isSome_iff_ne_none]
  constructor
  · rintro ⟨-, hm, hd⟩
    exact (mem_endsInSafe e hd).mp hm
  · rintro ⟨he, hends⟩
    have hd : (p.entry e).definition ≠ none := by
      rcases hends with ⟨d, hd, -⟩ | ⟨hsig, -⟩
      · exact defined_of_electrical hd
      · obtain ⟨⟨c, f⟩, hf⟩ := Option.ne_none_iff_exists'.mp hsig
        exact defined_of_signal hf
    exact ⟨he, (mem_endsInSafe e hd).mpr ⟨he, hends⟩, hd⟩

theorem safeEnds_nodup : p.safeEnds.Nodup := List.nodup_range.filter _

theorem entry_sound (h : p.EntriesSound) (e : Nat) : (p.entry e).Sound := by
  by_cases he : e < p.entries.length
  · have hget : p.entry e = p.entries[e] := by simp [Part.entry, List.getD_eq_getElem?_getD, he]
    rw [hget]
    exact h _ (List.getElem_mem he)
  · have hget : p.entry e = Entry.empty := by simp [Part.entry, List.getD_eq_getElem?_getD, he]
    rw [hget]
    exact ⟨fun hn => absurd rfl hn, fun hs => by rcases hs with hs | hs <;> cases hs⟩

theorem defined_of_sound (h : p.EntriesSound) {e : Nat} (hs : (p.entry e).state ≠ .empty) : (p.entry e).definition ≠ none :=
  Option.isSome_iff_ne_none.mp ((entry_sound h e).1 hs)

theorem endsInSafe_state {e : Nat} (h : e ∈ p.endsInSafe) : (p.entry e).state = .inserting ∨ (p.entry e).state = .active := by
  have htest := (List.mem_filter.mp h).2
  dsimp only at htest
  split at htest
  · exact .inl ‹_›
  · exact .inr ‹_›
  · exact .inr ‹_›
  · cases htest

/-- With sound entries the list is the certificate's. -/
theorem safeEnds_eq (h : p.EntriesSound) : p.safeEnds = p.endsInSafe := by
  have hmem (e : Nat) (he : e ∈ p.endsInSafe) : (p.entry e).definition.isSome = true := by
    refine Option.isSome_iff_ne_none.mpr (defined_of_sound h ?_)
    rcases endsInSafe_state he with hs | hs <;> (rw [hs]; exact EntryState.noConfusion)
  refine List.filter_congr fun e he => Bool.eq_iff_iff.mpr ?_
  rw [Bool.and_eq_true, List.contains_iff_mem]
  exact ⟨fun hm => (List.mem_filter.mp hm.1).2, fun ht => ⟨List.mem_filter.mpr ⟨he, ht⟩, hmem e (List.mem_filter.mpr ⟨he, ht⟩)⟩⟩

end

/-! ### The passes keep what they do not work on -/

section
variable {p : Part}

/-- What neither a group written nor its cause raised changes, the pass over the groups keeps. -/
theorem groupsDropped_keeps {β : Type} (read : Part → β) (hset : ∀ g x q, read (Part.setGroup g x q) = read q)
    (hraise : ∀ g q, read (Part.raise (.group g) q) = read q) (gs : List Nat) (p : Part) :
    read (p.groupsDropped gs) = read p := by
  refine foldl_keeps read (f := fun v g => v.safeGroup g) (fun v g => ?_) gs p
  unfold Part.safeGroup
  split
  · rw [hraise, hset]
  · rfl

theorem groupsDropped_entries (gs : List Nat) (p : Part) : (p.groupsDropped gs).entries = p.entries :=
  groupsDropped_keeps Part.entries (by simp) (by simp) gs p

theorem groupsDropped_matrix (gs : List Nat) (p : Part) : (p.groupsDropped gs).matrix = p.matrix :=
  groupsDropped_keeps Part.matrix (by simp) (by simp) gs p

theorem groupsDropped_beside (gs : List Nat) (p : Part) : p.Beside (p.groupsDropped gs) :=
  ⟨groupsDropped_keeps Part.outer (by simp) (by simp) gs p, groupsDropped_keeps Part.damage (by simp) (by simp) gs p,
    groupsDropped_keeps (fun v => v.channels.length) (by simp) (by simp) gs p,
    groupsDropped_keeps (fun v => v.slots.length) (by simp) (by simp) gs p⟩

theorem groupsDropped_sameAt (gs : List Nat) (e : Nat) (p : Part) : p.SameAt e (p.groupsDropped gs) where
  beside := groupsDropped_beside gs p
  count := by rw [groupsDropped_entries]
  size := by rw [groupsDropped_matrix]
  entry := entry_of_entries (groupsDropped_entries gs p) e
  line l _ := line_of_lines (congrArg Matrix.lines (groupsDropped_matrix gs p)) l
  held l h := (congrArg Line.state (line_of_lines (congrArg Matrix.lines (groupsDropped_matrix gs p)) l)).symm.trans h

theorem safeGroup_group (h g : Nat) (p : Part) :
    (p.safeGroup h).group g = if g = h then { p.group g with armed := none } else p.group g := by
  have hraise (q : Part) : (q.raise (.group h)).group g = q.group g := by simp [Part.group]
  unfold Part.safeGroup
  by_cases hgh : g = h
  · subst hgh
    rw [if_pos rfl]
    split
    · rw [hraise]
      refine group_setGroup g _ p ?_
      by_contra hlt
      simp_all [Part.group, List.getD_eq_getElem?_getD, Group.atReset]
    · rename_i hs
      have hnone : (p.group g).armed = none := by simpa using hs
      rw [← hnone]
  · rw [if_neg hgh]
    split
    · rw [hraise, group_setGroup_ne hgh]
    · rfl

/-- A group after the pass has no condition, and is else as it was. -/
theorem groupsDropped_group {gs : List Nat} (hgs : gs.Nodup) {g : Nat} (hg : g ∈ gs) (p : Part) :
    (p.groupsDropped gs).group g = { p.group g with armed := none } := by
  obtain ⟨v, hv, hlast⟩ := foldl_split (R := fun g (p q : Part) => q.group g = p.group g) (step := fun v g => v.safeGroup g)
    (fun _ _ => rfl) (fun h h' => h'.trans h) (fun v k j hj => by rw [safeGroup_group, if_neg hj]) hgs hg p
  rw [Part.groupsDropped, hlast, safeGroup_group, if_pos rfl, hv]

/-! ### The work of the entries let go -/

/-- The work that letting go leaves, done in a quiet part where the entries are as letting go left them. -/
theorem letGo_leads {es : List Nat} (hes : es.Nodup) {ends : Nat → Bool} {p : Part}
    (hends : ∀ e ∈ es, ends e = true ↔ p.EndsAtOnce e) {q : Part} (hq : q.Quiet)
    (hqe : ∀ e ∈ es, q.entry e = (p.letGo es).entry e) :
    Leads (259 * es.length) (p.forEach Part.safeInserted es).2 q (q.endings (es.filter ends)) ∧
      (q.endings (es.filter ends)).Quiet := by
  induction es generalizing p q with
  | nil => exact ⟨.nil q, hq⟩
  | cons e es ih =>
    obtain ⟨he, hes⟩ := List.nodup_cons.mp hes
    have hne : ∀ k ∈ es, k ≠ e := fun k hk hke => he (hke ▸ hk)
    have hstep : p.Touches e (p.safeInserted e).1 := touches_safeInserted e p
    have hentry : q.entry e = (p.safeInserted e).1.entry e :=
      (hqe e List.mem_cons_self).trans (Part.SameAt.of_not_mem touches_safeInserted he (p.safeInserted e).1).entry
    have hends' : ∀ k ∈ es, ends k = true ↔ (p.safeInserted e).1.EndsAtOnce k := fun k hk =>
      (hends k (List.mem_cons_of_mem e hk)).trans (hstep.sameAt (hne k hk)).alike.endsAtOnce.symm
    have hqe' : ∀ k ∈ es, q.entry k = ((p.safeInserted e).1.letGo es).entry k := fun k hk =>
      hqe k (List.mem_cons_of_mem e hk)
    obtain ⟨hwork, hnone⟩ := safeInserted_work e p
    rw [forEach_cons, List.length_cons, Nat.mul_add, Nat.add_comm]
    cases hend : ends e with
    | false =>
      have hno : ¬p.EndsAtOnce e := fun h => by simp [(hends e List.mem_cons_self).mpr h] at hend
      obtain ⟨hrun, hquiet⟩ := ih hes hends' hq hqe'
      rw [List.filter_cons_of_neg (by simp [hend]), hnone hno]
      exact ⟨hrun.mono (by omega), hquiet⟩
    | true =>
      have hends_e : p.EndsAtOnce e := (hends e List.mem_cons_self).mp hend
      obtain ⟨hrun, hquiet⟩ := hq.leads_ending ((hwork hends_e).of_entry hentry)
      obtain ⟨hrest, hlast⟩ := ih hes hends' hquiet fun k hk =>
        ((touches_ending e q).entry k (hne k hk)).trans (hqe' k hk)
      rw [List.filter_cons_of_pos hend]
      exact ⟨(hrun.append hrest).mono (by omega), hlast⟩

/-- The part as the guard notices the entry to SAFE, before any block takes part. -/
def Part.intoSafe (cause : SafeCause) (p : Part) : Part :=
  ({ p with safe := some { cause := cause, time := p.clock.rigTime } }).raise .guard

theorem waitsDropped_sameAt {es : List Nat} {e : Nat} (he : e ∉ es) (p : Part) : p.SameAt e (p.waitsDropped es) :=
  Part.SameAt.of_not_mem touches_safeWaiting he p

theorem letGo_sameAt {es : List Nat} {e : Nat} (he : e ∉ es) (p : Part) : p.SameAt e (p.letGo es) :=
  Part.SameAt.of_not_mem touches_safeInserted he p

theorem endings_sameAt {es : List Nat} {e : Nat} (he : e ∉ es) (p : Part) : p.SameAt e (p.endings es) :=
  Part.SameAt.of_not_mem touches_ending he p

/-- An entry met by the pass over the waits: in a part in which it stands as before, and it is not met again. -/
theorem waitsDropped_split {e : Nat} (he : e < 128) (p : Part) :
    ∃ v, p.SameAt e v ∧ (v.safeWaiting e).1.SameAt e (p.waitsDropped (List.range 128)) :=
  Part.SameAt.split touches_safeWaiting List.nodup_range (List.mem_range.mpr he) p

theorem letGo_split {e : Nat} (he : e < 128) (p : Part) :
    ∃ v, p.SameAt e v ∧ (v.safeInserted e).1.SameAt e (p.letGo (List.range 128)) :=
  Part.SameAt.split touches_safeInserted List.nodup_range (List.mem_range.mpr he) p

theorem safe_of_beside {p q : Part} (h : p.Beside q) : q.safe = p.safe := safe_of_outer h.outer

theorem clock_of_beside {p q : Part} (h : p.Beside q) : q.clock = p.clock := clock_of_outer h.outer

theorem waitsDropped_entry (hs : p.safe.isSome = true) (hlen : p.entries.length = 128) (e : Nat) :
    (p.waitsDropped (List.range 128)).entry e = (p.entry e).waitDropped p.clock.rigTime := by
  rcases Nat.lt_or_ge e 128 with he | he
  · obtain ⟨v, hv, hlast⟩ := waitsDropped_split he p
    rw [hlast.entry, safeWaiting_entry (by rw [safe_of_beside hv.beside]; exact hs), hv.entry, clock_of_beside hv.beside]
  · rw [(waitsDropped_sameAt (by simp [he]) p).entry, entry_of_le (hlen ▸ he)]
    rfl

/-- The part with the waits and the groups' conditions dropped. -/
def Part.safeUnwaiting (p : Part) : Part := (p.waitsDropped (List.range 128)).groupsDropped (List.range 8)

theorem safeUnwaiting_sameAt {e : Nat} (he : 128 ≤ e) (p : Part) : p.SameAt e p.safeUnwaiting :=
  (waitsDropped_sameAt (by simp [he]) p).trans (groupsDropped_sameAt _ e _)

theorem safeUnwaiting_beside (p : Part) : p.Beside p.safeUnwaiting := (safeUnwaiting_sameAt le_rfl p).beside

theorem safeUnwaiting_entry (hs : p.safe.isSome = true) (hlen : p.entries.length = 128) (e : Nat) :
    p.safeUnwaiting.entry e = (p.entry e).waitDropped p.clock.rigTime := by
  rw [← waitsDropped_entry hs hlen]
  exact entry_of_entries (groupsDropped_entries ..) e

theorem safeUnwaiting_group (hgroups : p.groups.length = 8) (g : Nat) :
    p.safeUnwaiting.group g = { p.group g with armed := none } := by
  have hwaits : (p.waitsDropped (List.range 128)).groups = p.groups :=
    foldl_keeps Part.groups (f := fun v e => (v.safeWaiting e).1) (fun v e => (touches_safeWaiting e v).aside.groups) _ p
  rcases Nat.lt_or_ge g 8 with hg | hg
  · rw [Part.safeUnwaiting, groupsDropped_group List.nodup_range (List.mem_range.mpr hg), Part.group, hwaits]
    rfl
  · have hlen : p.safeUnwaiting.groups.length = p.groups.length :=
      (groupsDropped_keeps (fun v => v.groups.length) (by simp) (by simp) _ _).trans (congrArg List.length hwaits)
    have hdefault (q : Part) (h : q.groups.length = 8) : q.group g = Group.atReset := by
      simp [Part.group, List.getD_eq_getElem?_getD, h, hg]
    rw [hdefault _ (hlen.trans hgroups), hdefault p hgroups]
    rfl

/-- An entry that is inserted waits for nothing. -/
theorem safeUnwaiting_sameAt_of_inserted {e : Nat} (h : (p.entry e).state = .inserting ∨ (p.entry e).state = .active) :
    p.SameAt e p.safeUnwaiting := by
  rcases Nat.lt_or_ge e 128 with he | he
  · obtain ⟨v, hv, hlast⟩ := waitsDropped_split he p
    rw [safeWaiting_of_other] at hlast
    · exact (hv.trans hlast).trans (groupsDropped_sameAt _ e _)
    · rw [hv.entry]
      rcases h with h | h <;> (rw [h]; exact EntryState.noConfusion)
    · rw [hv.entry]
      rcases h with h | h <;> (rw [h]; exact EntryState.noConfusion)
  · exact safeUnwaiting_sameAt he p

theorem endsAtOnce_state {e : Nat} (h : p.EndsAtOnce e) : (p.entry e).state = .inserting ∨ (p.entry e).state = .active := by
  rcases h with ⟨-, -, hs, -⟩ | ⟨-, hs, -⟩
  · exact hs
  · exact .inr hs

/-- Dropping the waits makes no difference to which entries end at once. -/
theorem safeUnwaiting_endsAtOnce (hs : p.safe.isSome = true) (hlen : p.entries.length = 128) (e : Nat) :
    p.safeUnwaiting.EndsAtOnce e ↔ p.EndsAtOnce e := by
  constructor
  · intro h
    have hentry := safeUnwaiting_entry hs hlen e
    have hstate := endsAtOnce_state h
    rw [hentry] at hstate
    have hsame := (waitDropped_state p.clock.rigTime (p.entry e)).2.2 hstate
    exact (safeUnwaiting_sameAt_of_inserted (hsame ▸ hstate)).alike.endsAtOnce.mp h
  · intro h
    exact (safeUnwaiting_sameAt_of_inserted (endsAtOnce_state h)).alike.endsAtOnce.mpr h

/-- The part with every entry let go that is inserted, before the endings. -/
def Part.safeLetGo (p : Part) : Part := p.safeUnwaiting.letGo (List.range 128)

/-- The waits and the groups' conditions dropped, and what is inserted let go: the part is quiet. -/
theorem safeLetGo_quiet (hs : p.safe.isSome = true) (hentries : p.entries.length = 128) (hgroups : p.groups.length = 8) :
    p.safeLetGo.Quiet where
  safe := by
    rw [Part.safeLetGo, safe_of_beside (letGo_sameAt (e := 128) (by simp) _).beside, safe_of_beside (safeUnwaiting_beside p)]
    exact hs
  entries e := by
    have hwaitless := waitDropped_state p.clock.rigTime (p.entry e)
    have hentry := safeUnwaiting_entry hs hentries e
    rcases Nat.lt_or_ge e 128 with he | he
    · obtain ⟨v, hv, hlast⟩ := letGo_split he p.safeUnwaiting
      rw [Part.safeLetGo, hlast.entry]
      refine safeInserted_quiet ?_ ?_ <;> rw [hv.entry, hentry]
      · exact hwaitless.1
      · exact hwaitless.2.1
    · rw [Part.safeLetGo, (letGo_sameAt (by simp [he]) _).entry, hentry, entry_of_le (hentries ▸ he)]
      exact ⟨EntryState.noConfusion, fun h => EntryState.noConfusion h, fun h => EntryState.noConfusion h⟩
  ungrouped g := by
    have hgroup : p.safeLetGo.groups = p.safeUnwaiting.groups :=
      foldl_keeps Part.groups (f := fun v e => (v.safeInserted e).1) (fun v e => (touches_safeInserted e v).aside.groups) _ _
    rw [Part.group, hgroup]
    exact congrArg Group.armed (safeUnwaiting_group hgroups g)

theorem intoSafe_eq (cause : SafeCause) (p : Part) : p.intoSafe cause =
    { p with safe := some { cause := cause, time := p.clock.rigTime }, link := (p.raise .guard).link } := by
  have hqueued : ({ p with safe := some { cause := cause, time := p.clock.rigTime } } : Part).queued .guard = p.queued .guard := rfl
  unfold Part.intoSafe Part.raise
  rw [hqueued]
  dsimp only
  split_ifs <;> rfl

theorem intoSafe_alike (cause : SafeCause) (e : Nat) (p : Part) : p.Alike e (p.intoSafe cause) := by
  rw [intoSafe_eq]
  exact ⟨rfl, rfl, rfl, fun _ _ => rfl, fun _ h => h⟩

/-- The engine held, last of all. -/
def Part.engineHeld (p : Part) : Part := p.setEngine (p.engine.safeHold p.guard.safeRate)

/-- The work that letting go leaves, done: the entries that end at once end, and the part is quiet. -/
theorem safeLetGo_leads (cause : SafeCause) (hentries : p.entries.length = 128) (hgroups : p.groups.length = 8) :
    Leads (259 * 128) ((p.intoSafe cause).safeUnwaiting.forEach Part.safeInserted (List.range 128)).2
        (p.intoSafe cause).safeLetGo ((p.intoSafe cause).safeLetGo.endings p.safeEnds) ∧
      ((p.intoSafe cause).safeLetGo.endings p.safeEnds).Quiet := by
  have hinto := intoSafe_eq cause p
  have hs : (p.intoSafe cause).safe.isSome = true := by rw [hinto]; rfl
  have hlen : (p.intoSafe cause).entries.length = 128 := by rw [hinto]; exact hentries
  have hmem : ∀ e ∈ List.range 128, (p.endsInSafe.contains e && (p.entry e).definition.isSome) = true ↔
      (p.intoSafe cause).safeUnwaiting.EndsAtOnce e := fun e he => by
    have hlt := List.mem_range.mp he
    have hlist := mem_safeEnds (p := p) e
    rw [Part.safeEnds, List.mem_filter, and_iff_right he, and_iff_right hlt] at hlist
    rw [hlist, safeUnwaiting_endsAtOnce hs hlen, (intoSafe_alike cause e p).endsAtOnce]
  have hleads := letGo_leads List.nodup_range hmem (safeLetGo_quiet hs hlen (by rw [hinto]; exact hgroups)) fun _ _ => rfl
  rw [List.length_range] at hleads
  exact hleads

/-- Entry to SAFE, pass by pass. -/
theorem enterSafe_eq (cause : SafeCause) (hentries : p.entries.length = 128) (hgroups : p.groups.length = 8) :
    p.enterSafe cause =
      (((p.intoSafe cause).safeLetGo.endings p.safeEnds).channelsHeld (List.range 32)).engineHeld := by
  have hs : (p.intoSafe cause).safe.isSome = true := by rw [intoSafe_eq]; rfl
  have hwaits : settleAll ((p.intoSafe cause).forEach Part.safeWaiting (List.range 128)) =
      (p.intoSafe cause).waitsDropped (List.range 128) := by
    rw [forEach_of_no_work touches_safeWaiting (fun n v h => safeWaiting_tasks h n) _ hs, settleAll_nil]
    rfl
  have hends : settleAll ((p.intoSafe cause).safeUnwaiting.forEach Part.safeInserted (List.range 128)) =
      (p.intoSafe cause).safeLetGo.endings p.safeEnds := by
    rw [← Prod.mk.eta (p := Part.forEach _ _ _), forEach_fst]
    exact settleAll_of_leads (safeLetGo_leads cause hentries hgroups).1 (by unfold taskLimit; omega)
  rw [Part.safeUnwaiting, ← hwaits] at hends
  unfold Part.enterSafe
  extract_lets p1 p2 p3 p4 p5
  have hp4 : p4 = (p.intoSafe cause).safeLetGo.endings p.safeEnds := hends
  have hp5 : p5 = p4.channelsHeld (List.range 32) := rfl
  rw [← hp4, ← hp5]
  clear_value p5
  rfl

end

end Sys2Proof.Machine
end

section
/-! SUPPORT. What entry to SAFE makes of each entry and of its lines (R114, R116, R144, R147). -/

namespace Sys2Proof.Machine

open Sys2Proof

/-! ### Endings -/

section
variable {e : Nat} {d : Electrical} {p q r : Part}

/-- Only the cause and what an ended entry keeps decide what it has ended as. -/
theorem endedInSafe_of_lettingGo (t : Nat) (cause : EndCause) (c : Option EndCause) (x : Entry) :
    ({ x with endCause := c } : Entry).lettingGo.endedInSafe t cause = x.endedInSafe t cause := by
  cases cause <;> rfl

theorem ending_entry (hs : p.safe.isSome = true) {cause : EndCause} (hx : (p.entry e).Ending cause) :
    (p.ending e).entry e = (p.entry e).endedInSafe p.clock.rigTime cause := by
  cases hd : (p.entry e).electrical? with
  | none => rw [ending_of_signal hd, entry_of_set (settleEntry_entries hs hx.cause hx.defined) (entry_lt hx.defined)]
  | some d =>
    have hout := released_outer e [] p
    have hentry := entry_of_set (released_entries hd) (lt_of_electrical hd)
    have hdef : ((p.released e []).1.entry e).definition ≠ none := by rw [hentry]; exact hx.defined
    rw [Part.ending, entry_of_set (settleEntry_entries (by rw [safe_of_outer hout]; exact hs) (by rw [hentry]; exact hx.cause)
      hdef) (entry_lt hdef), hentry, clock_of_outer hout, endedInSafe_without_seq]

theorem ending_line (h : (p.entry e).electrical? = some d) (l : Nat) :
    (p.ending e).line l = if l ∈ p.heldLines e d then { p.line l with state := .pass } else p.line l := by
  rw [Part.ending, line_of_lines (congrArg Matrix.lines (settleEntry_matrix ..)), released_line h]

/-- A release as its rule describes it is of the entry and the lines held for it alone. -/
theorem releasing_congr {fast : Bool} {cause : EndCause} (h : p.Releasing fast e d cause q) (he : r.entry e = q.entry e)
    (hl : ∀ l ∈ p.heldLines e d, r.line l = q.line l) : p.Releasing fast e d cause r := by
  obtain ⟨hopens, hcloses⟩ := h
  refine ⟨fun ho => ?_, fun ho hc => ?_⟩
  · obtain ⟨hentry, hlines⟩ := hopens ho
    exact ⟨he.trans hentry, fun l hm => (hl l hm).trans (hlines l hm)⟩
  · obtain ⟨hentry, hlines⟩ := hcloses ho hc
    exact ⟨he.trans hentry, fun l hm => (hl l hm).trans (hlines l hm)⟩

theorem abandoned_heldLines (e : Nat) (d : Electrical) (p : Part) : (p.abandoned e).heldLines e d = p.heldLines e d :=
  heldLines_congr fun l => by rw [(touches_abandoned e p).2 l]

theorem unfastened_line (e l : Nat) (p : Part) : (p.unfastened e).line l = (p.abandoned e).line l :=
  line_of_lines (congrArg Matrix.lines (unfastened_matrix e p)) l

theorem unfastened_heldLines (e : Nat) (d : Electrical) (p : Part) : (p.unfastened e).heldLines e d = p.heldLines e d :=
  (heldLines_congr fun l => by rw [unfastened_line]).trans (abandoned_heldLines e d p)

/-- A release read with the cause recorded before it, or with the closes held back alone. -/
theorem releasing_of_unfastened {fast : Bool} {cause : EndCause} (he : e < p.entries.length)
    (h : (p.unfastened e).Releasing fast e d cause q) : (p.abandoned e).Releasing fast e d cause q := by
  obtain ⟨hopens, hcloses⟩ := h
  have hclock : (p.unfastened e).clock = (p.abandoned e).clock := clock_of_outer (recordCause_outer ..)
  have hsettle : (p.unfastened e).matrix.settle = (p.abandoned e).matrix.settle := by rw [unfastened_matrix]
  have hentry : (p.abandoned e).entry e = p.entry e := entry_of_entries (abandoned_entries e p) e
  simp only [Part.releaseOpens, Part.releaseCloses, Part.heldLines, Part.cell, unfastened_line, hclock, hsettle,
    unfastened_entry he] at hopens hcloses
  unfold Part.Releasing
  rw [hentry]
  exact ⟨hopens, hcloses⟩

/-- An inserted ELECTRICAL entry let go, with something to command: its release. -/
theorem safeInserted_releasing (hd : (p.entry e).electrical? = some d)
    (hs : (p.entry e).state = .inserting ∨ (p.entry e).state = .active) :
    (p.abandoned e).Releasing true e d ((p.entry e).endCause.getD .safe) (p.safeInserted e).1 := by
  have he := lt_of_electrical hd
  have hentry := unfastened_entry (p := p) he
  have hd' : ((p.unfastened e).entry e).electrical? = some d := by rw [hentry]; exact hd
  rw [safeInserted_of_electrical hd hs]
  exact releasing_of_unfastened he (beginRelease_releasing hd' (lt_of_electrical hd') true (by rw [hentry]))

/-- With nothing to command, only the entry is written and no close stays held back. -/
theorem safeInserted_nothing (hd : (p.entry e).electrical? = some d)
    (hs : (p.entry e).state = .inserting ∨ (p.entry e).state = .active) (hno : ¬(p.abandoned e).HasToRelease e d) :
    (p.safeInserted e).1.entry e =
      ({ p.entry e with endCause := some ((p.entry e).endCause.getD .safe) } : Entry).lettingGo ∧
    ∀ l, (p.safeInserted e).1.line l =
      if l ∈ p.heldLines e d then { (p.abandoned e).line l with heldClose := none } else (p.abandoned e).line l := by
  have hentry := unfastened_entry (p := p) (lt_of_electrical hd)
  have hd' : ((p.unfastened e).entry e).electrical? = some d := by rw [hentry]; exact hd
  have he' := lt_of_electrical hd'
  rw [safeInserted_of_electrical hd hs, beginRelease_of_nothing hd' he' true ((unfastened_hasToRelease ..).not.mpr hno)]
  refine ⟨?_, fun l => ?_⟩
  · rw [entry_setEntry _ _ _ (by rw [lettingGo_entries, List.length_set]; exact he'), hentry]
  · show ((p.unfastened e).lettingGo e d).line l = _
    rw [lettingGo_line, unfastened_heldLines, unfastened_line]

/-- Letting go leaves every line's state. -/
theorem safeInserted_line_state (e l : Nat) (p : Part) : ((p.safeInserted e).1.line l).state = (p.line l).state := by
  rcases inserted_cases e p with ⟨d, hd, hs⟩ | ⟨c, f, hf, hs, hc⟩ | ⟨h, -⟩
  · have hd' : ((p.unfastened e).entry e).electrical? = some d := by rw [unfastened_entry (lt_of_electrical hd)]; exact hd
    rw [safeInserted_of_electrical hd hs, (rewires_beginRelease hd' true).state, unfastened_line, (touches_abandoned e p).2]
  · rw [safeInserted_of_signal hf hs hc, endSignal_eq, line_of_lines (congrArg Matrix.lines (signalOff_matrix ..)),
      recordCause_eq]
    rfl
  · rw [h]

end

/-! ### The part with its entries settled -/

/-- The part with every entry settled by entry to SAFE, before the channels and the engine take part. -/
def Part.safeSettled (cause : SafeCause) (p : Part) : Part := (p.intoSafe cause).safeLetGo.endings p.safeEnds

section
variable {cause : SafeCause} {e : Nat} {d : Electrical} {p : Part}

theorem intoSafe_safe (cause : SafeCause) (p : Part) :
    (p.intoSafe cause).safe = some { cause := cause, time := p.clock.rigTime } := by rw [intoSafe_eq]

theorem intoSafe_clock (cause : SafeCause) (p : Part) : (p.intoSafe cause).clock = p.clock := (intoSafe_alike cause 0 p).clock

theorem intoSafe_isSome (cause : SafeCause) (p : Part) : (p.intoSafe cause).safe.isSome = true := by rw [intoSafe_safe]; rfl

theorem intoSafe_entries (cause : SafeCause) (p : Part) : (p.intoSafe cause).entries = p.entries := by rw [intoSafe_eq]

theorem not_mem_safeEnds (h : ¬p.EndsAtOnce e) : e ∉ p.safeEnds := fun hm => h ((mem_safeEnds e).mp hm).2

/-- An entry that entry to SAFE has nothing inserted to let go of stands as its wait's dropping has left it. -/
theorem safeSettled_still (hlen : p.entries.length = 128)
    (hels : ∀ d, (p.entry e).electrical? = some d → (p.entry e).state ≠ .inserting ∧ (p.entry e).state ≠ .active)
    (hsig : (p.entry e).signal? ≠ none → (p.entry e).state = .active → (p.entry e).endCause ≠ none) :
    (p.intoSafe cause).safeUnwaiting.SameAt e (p.safeSettled cause) := by
  have hno : ¬p.EndsAtOnce e := by
    rintro (⟨d, hd, hs | hs, -⟩ | ⟨hf, hact, hc⟩)
    · exact (hels d hd).1 hs
    · exact (hels d hd).2 hs
    · exact hsig hf hact hc
  have hlet : (p.intoSafe cause).safeUnwaiting.SameAt e (p.intoSafe cause).safeLetGo := by
    rcases Nat.lt_or_ge e 128 with he | he
    · obtain ⟨v, hv, hlast⟩ := letGo_split he (p.intoSafe cause).safeUnwaiting
      have hentry : v.entry e = (p.entry e).waitDropped p.clock.rigTime := by
        rw [hv.entry, safeUnwaiting_entry (intoSafe_isSome ..) (by rw [intoSafe_entries]; exact hlen),
          (intoSafe_alike cause e p).entry, intoSafe_clock]
      have hkept := (waitDropped_state p.clock.rigTime (p.entry e)).2.2
      rw [safeInserted_of_other] at hlast
      · exact hv.trans hlast
      · intro d hd
        rw [hentry] at hd ⊢
        refine ⟨fun hs => ?_, fun hs => ?_⟩
        · have hsame := hkept (.inl hs)
          rw [hsame] at hd hs
          exact (hels d hd).1 hs
        · have hsame := hkept (.inr hs)
          rw [hsame] at hd hs
          exact (hels d hd).2 hs
      · intro hf hs
        rw [hentry] at hf hs ⊢
        have hsame := hkept (.inr hs)
        rw [hsame] at hf hs ⊢
        exact hsig hf hs
    · exact letGo_sameAt (by simp [he]) _
  exact hlet.trans (endings_sameAt (not_mem_safeEnds hno) _)

/-- An inserted entry as letting go meets it, and how it stands after. -/
theorem letGo_of_inserted (hs : (p.entry e).state = .inserting ∨ (p.entry e).state = .active) (he : e < 128) :
    ∃ v, p.Alike e v ∧ v.safe.isSome = true ∧ (v.safeInserted e).1.SameAt e (p.intoSafe cause).safeLetGo := by
  have hinto := intoSafe_alike cause e p
  have hunwait := safeUnwaiting_sameAt_of_inserted (p := p.intoSafe cause) (e := e) (by rw [hinto.entry]; exact hs)
  obtain ⟨v, hv, hlast⟩ := letGo_split he (p.intoSafe cause).safeUnwaiting
  refine ⟨v, (hinto.trans hunwait.alike).trans hv.alike, ?_, hlast⟩
  rw [safe_of_beside (hunwait.trans hv).beside]
  exact intoSafe_isSome cause p

/-- An inserted ELECTRICAL entry with something to command is in its fast release. -/
theorem safeSettled_releasing (hd : (p.entry e).electrical? = some d)
    (hs : (p.entry e).state = .inserting ∨ (p.entry e).state = .active) (he : e < 128)
    (hyes : (p.abandoned e).HasToRelease e d) :
    (p.abandoned e).Releasing true e d ((p.entry e).endCause.getD .safe) (p.safeSettled cause) := by
  obtain ⟨v, hv, -, hlast⟩ := letGo_of_inserted (cause := cause) hs he
  have hno : ¬p.EndsAtOnce e := by
    rw [endsAtOnce_of_electrical hd hs, unfastened_hasToRelease]
    exact not_not.mpr hyes
  have hsame := hlast.trans (endings_sameAt (not_mem_safeEnds hno) _)
  have hrel := hv.abandoned.releasing (safeInserted_releasing (by rw [hv.entry]; exact hd) (by rw [hv.entry]; exact hs))
  rw [hv.entry] at hrel
  refine releasing_congr hrel hsame.entry fun l hl => hsame.alike.line_of_held ?_
  rw [safeInserted_line_state, (hv.held_iff l), ← (touches_abandoned e p).2 l]
  exact mem_heldLines_state hl

/-- An inserted ELECTRICAL entry with nothing to command has ended, and its lines are PASS. -/
theorem safeSettled_passed (hd : (p.entry e).electrical? = some d)
    (hs : (p.entry e).state = .inserting ∨ (p.entry e).state = .active) (he : e < 128)
    (hno : ¬(p.abandoned e).HasToRelease e d) :
    (p.safeSettled cause).entry e = (p.entry e).endedInSafe p.clock.rigTime ((p.entry e).endCause.getD .safe) ∧
    ∀ l ∈ p.heldLines e d, (p.safeSettled cause).line l =
      { (p.abandoned e).line l with state := .pass, heldClose := none } := by
  obtain ⟨v, hv, hsafe, hlast⟩ := letGo_of_inserted (cause := cause) hs he
  have hends : e ∈ p.safeEnds := (mem_safeEnds e).mpr ⟨he, .inl ⟨d, hd, hs, hno⟩⟩
  obtain ⟨w, hw, hend⟩ := Part.SameAt.split touches_ending safeEnds_nodup hends (p.intoSafe cause).safeLetGo
  obtain ⟨hentry, hlines⟩ := safeInserted_nothing (by rw [hv.entry]; exact hd) (by rw [hv.entry]; exact hs)
    ((hv.abandoned.hasToRelease d).not.mpr hno)
  have hsame := hlast.trans hw
  rw [hv.entry, ← hsame.entry] at hentry
  have hd' : (w.entry e).electrical? = some d := by rw [hentry]; exact hd
  have hx : (w.entry e).Ending ((p.entry e).endCause.getD .safe) := by
    rw [hentry]
    exact ⟨defined_of_electrical hd, rfl⟩
  have hsafe' : w.safe.isSome = true := by
    rw [safe_of_beside hsame.beside, safe_of_beside (touches_safeInserted e v).aside.beside]
    exact hsafe
  have hclock : w.clock = p.clock := by
    rw [clock_of_beside hsame.beside, clock_of_beside (touches_safeInserted e v).aside.beside, hv.clock]
  refine ⟨?_, fun l hl => ?_⟩
  · rw [Part.safeSettled, Part.endings, hend.entry, ending_entry hsafe' hx, hentry, hclock, endedInSafe_of_lettingGo]
  · have hheld : (v.line l).state = .held e := (hv.held_iff l).mpr (mem_heldLines_state hl)
    have hheld' : ((v.safeInserted e).1.line l).state = .held e := (safeInserted_line_state e l v).trans hheld
    have hw_line : w.line l = (v.safeInserted e).1.line l := hsame.alike.line_of_held hheld'
    have hmem (u : Part) (hu : (u.line l).state = .held e) : l ∈ u.heldLines e d :=
      List.mem_filter.mpr ⟨(List.mem_filter.mp hl).1, decide_eq_true hu⟩
    have hpass : (w.ending e).line l = { (p.abandoned e).line l with state := .pass, heldClose := none } := by
      rw [ending_line hd', if_pos (hmem w (by rw [hw_line]; exact hheld')), hw_line, hlines, if_pos (hmem v hheld),
        hv.abandoned.line_of_held (by rw [(touches_abandoned e p).2]; exact mem_heldLines_state hl)]
    rw [Part.safeSettled, Part.endings, hend.line l (by rw [hpass]; exact fun _ _ => LineState.noConfusion), hpass]

/-- An ACTIVE SIGNAL entry has ended with cause SAFE, unless its end was recorded. -/
theorem safeSettled_signal {c : Nat} {f : SigFault} (hf : (p.entry e).signal? = some (c, f)) (hs : (p.entry e).state = .active)
    (hc : (p.entry e).endCause = none) (he : e < 128) :
    (p.safeSettled cause).entry e = (p.entry e).ended .aborted none 0 p.clock.rigTime .safe := by
  obtain ⟨v, hv, hsafe, hlast⟩ := letGo_of_inserted (cause := cause) (.inr hs) he
  have hends : e ∈ p.safeEnds := (mem_safeEnds e).mpr ⟨he, .inr ⟨by rw [hf]; exact Option.some_ne_none _, hs, hc⟩⟩
  obtain ⟨w, hw, hend⟩ := Part.SameAt.split touches_ending safeEnds_nodup hends (p.intoSafe cause).safeLetGo
  have hsame := hlast.trans hw
  have hf' : (v.entry e).signal? = some (c, f) := by rw [hv.entry]; exact hf
  have hentry : w.entry e = { p.entry e with endCause := some .safe } := by
    rw [hsame.entry, safeInserted_of_signal hf' (by rw [hv.entry]; exact hs) (by rw [hv.entry]; exact hc), endSignal_eq,
      entry_of_entries (signalOff_entries ..), recordCause_entry (entry_lt (defined_of_signal hf')), hv.entry, hc]
    rfl
  have hsafe' : w.safe.isSome = true := by
    rw [safe_of_beside hsame.beside, safe_of_beside (touches_safeInserted e v).aside.beside]
    exact hsafe
  have hclock : w.clock = p.clock := by
    rw [clock_of_beside hsame.beside, clock_of_beside (touches_safeInserted e v).aside.beside, hv.clock]
  rw [Part.safeSettled, Part.endings, hend.entry,
    ending_entry hsafe' (cause := .safe) (by rw [hentry]; exact ⟨defined_of_signal hf, rfl⟩), hentry, hclock]
  rfl

/-! ### Lines (R104) -/

theorem safeWaiting_matrix (e : Nat) (p : Part) : (p.safeWaiting e).1.matrix = p.matrix := by
  by_cases ha : (p.entry e).state = .armed
  · rw [safeWaiting_of_armed ha, enterEntry_matrix]
  · by_cases hb : (p.entry e).state = .blocked
    · have hrecord : (p.recordCause e .safe).matrix = p.matrix := by rw [recordCause_eq]; rfl
      rw [safeWaiting_of_blocked hb, finish_matrix, hrecord]
    · rw [safeWaiting_of_other ha hb]

theorem safeUnwaiting_matrix (p : Part) : p.safeUnwaiting.matrix = p.matrix :=
  (groupsDropped_matrix ..).trans
    (foldl_keeps Part.matrix (f := fun v e => (v.safeWaiting e).1) (fun v e => safeWaiting_matrix e v) _ p)

theorem intoSafe_line (cause : SafeCause) (l : Nat) (p : Part) : (p.intoSafe cause).line l = p.line l := by
  rw [intoSafe_eq]
  rfl

/-- A line that a SIGNAL entry holds, ended by entry to SAFE, stands. -/
theorem safeSettled_line_of_signal {c : Nat} {f : SigFault} (hf : (p.entry e).signal? = some (c, f))
    (hs : (p.entry e).state = .active) (hc : (p.entry e).endCause = none) (he : e < 128) {l : Nat}
    (hl : ∀ k ≠ e, (p.line l).state ≠ .held k) : (p.safeSettled cause).line l = p.line l := by
  obtain ⟨v, hv, hsafe, hlast⟩ := letGo_of_inserted (cause := cause) (.inr hs) he
  have hends : e ∈ p.safeEnds := (mem_safeEnds e).mpr ⟨he, .inr ⟨by rw [hf]; exact Option.some_ne_none _, hs, hc⟩⟩
  obtain ⟨w, hw, hend⟩ := Part.SameAt.split touches_ending safeEnds_nodup hends (p.intoSafe cause).safeLetGo
  have hsame := hlast.trans hw
  have hf' : (v.entry e).signal? = some (c, f) := by rw [hv.entry]; exact hf
  have hmatrix : (v.safeInserted e).1.matrix = v.matrix := by
    rw [safeInserted_of_signal hf' (by rw [hv.entry]; exact hs) (by rw [hv.entry]; exact hc), endSignal_eq, signalOff_matrix,
      recordCause_eq]
    rfl
  have hlet : (v.safeInserted e).1.line l = p.line l := (line_of_lines (congrArg Matrix.lines hmatrix) l).trans (hv.line l hl)
  have hw_line : w.line l = p.line l := (hsame.line l (by rw [hlet]; exact hl)).trans hlet
  have hsignal : (w.entry e).electrical? = none := by
    have hdef : (w.entry e).definition = (p.entry e).definition := by
      rw [hsame.entry, (touches_safeInserted e v).definition, hv.entry]
    rw [Entry.electrical?, hdef]
    exact not_electrical_of_signal hf
  have hending : (w.ending e).line l = p.line l := by
    rw [ending_of_signal hsignal, line_of_lines (congrArg Matrix.lines (settleEntry_matrix ..)), hw_line]
  rw [Part.safeSettled, Part.endings, hend.line l (by rw [hending]; exact hl), hending]

/-- A line that no inserted ELECTRICAL entry holds stands. -/
theorem safeSettled_line (hlen : p.entries.length = 128) {l : Nat}
    (h : ∀ e < 128, (p.entry e).electrical?.isSome = true → (p.entry e).state = .inserting ∨ (p.entry e).state = .active →
      (p.line l).state ≠ .held e) : (p.safeSettled cause).line l = p.line l := by
  have hstill (e : Nat) (hl : ∀ k ≠ e, (p.line l).state ≠ .held k)
      (hels : ∀ d, (p.entry e).electrical? = some d → (p.entry e).state ≠ .inserting ∧ (p.entry e).state ≠ .active)
      (hsig : (p.entry e).signal? ≠ none → (p.entry e).state = .active → (p.entry e).endCause ≠ none) :
      (p.safeSettled cause).line l = p.line l := by
    have hunwait : (p.intoSafe cause).safeUnwaiting.line l = p.line l :=
      (line_of_lines (congrArg Matrix.lines (safeUnwaiting_matrix _)) l).trans (intoSafe_line cause l p)
    rw [(safeSettled_still hlen hels hsig).line l (by rw [hunwait]; exact hl), hunwait]
  by_cases hheld : ∃ e, (p.line l).state = .held e
  · obtain ⟨e, he⟩ := hheld
    have hl := line_of_others he
    rcases inserted_cases e p with ⟨d, hd, hs⟩ | ⟨c, f, hf, hs, hc⟩ | ⟨-, -, hels, hsig⟩
    · exact absurd he (h e (hlen ▸ lt_of_electrical hd) (by rw [hd]; rfl) hs)
    · exact safeSettled_line_of_signal hf hs hc (hlen ▸ entry_lt (defined_of_signal hf)) hl
    · exact hstill e hl hels hsig
  · have hempty : p.entry 128 = Entry.empty := entry_of_le (hlen ▸ le_rfl)
    refine hstill 128 (fun k _ hk => hheld ⟨k, hk⟩) (fun d hd => ?_) (fun hf => ?_)
    · rw [hempty] at hd
      cases hd
    · rw [hempty] at hf
      exact absurd rfl hf

/-! ### Each entry, as the certificate describes it -/

/-- An entry that is not inserted, once its wait is dropped. -/
theorem safeSettled_entry_still (hlen : p.entries.length = 128) (hi : (p.entry e).state ≠ .inserting)
    (ha : (p.entry e).state ≠ .active) :
    (p.safeSettled cause).entry e = (p.entry e).waitDropped p.clock.rigTime := by
  rw [(safeSettled_still hlen (fun _ _ => ⟨hi, ha⟩) (fun _ h => absurd h ha)).entry,
    safeUnwaiting_entry (intoSafe_isSome ..) (by rw [intoSafe_entries]; exact hlen), (intoSafe_alike cause e p).entry,
    intoSafe_clock]

theorem abandoned_of_inserting (h : (p.entry e).state = .inserting) : p.abandoned e = p.holdBackCloses e := if_pos h

theorem abandoned_of_active (h : (p.entry e).state = .active) : p.abandoned e = p :=
  if_neg (by rw [h]; exact EntryState.noConfusion)

/-- With the entries and the lines as entry to SAFE settles them, each entry is as the certificate describes it. -/
theorem safeEntry_of_settled (hlen : p.entries.length = 128) (hsound : p.EntriesSound) {q : Part} (he : e < 128)
    (hentries : q.entries = (p.safeSettled cause).entries) (hlines : q.matrix.lines = (p.safeSettled cause).matrix.lines) :
    p.SafeEntry e q := by
  have hentry : q.entry e = (p.safeSettled cause).entry e := entry_of_entries hentries e
  have hline (l : Nat) : q.line l = (p.safeSettled cause).line l := line_of_lines hlines l
  refine ⟨fun hs => ?_, fun hs => ?_, fun d hd hs => ?_, fun d hd hs => ?_, fun c f hf hs hc => ?_, fun hs => ?_⟩
  · rw [hentry, safeSettled_entry_still hlen (by rw [hs]; exact EntryState.noConfusion) (by rw [hs]; exact EntryState.noConfusion),
      waitDropped_of_armed hs]
  · rw [hentry, safeSettled_entry_still hlen (by rw [hs]; exact EntryState.noConfusion) (by rw [hs]; exact EntryState.noConfusion),
      waitDropped_of_blocked hs (defined_of_sound hsound (by rw [hs]; exact EntryState.noConfusion))]
  · have hv := abandoned_of_inserting hs
    refine ⟨fun hyes => ?_, fun hno => ?_⟩
    · have hrel := safeSettled_releasing (cause := cause) hd (.inl hs) he (by rw [hv]; exact hyes)
      rw [hv] at hrel
      exact releasing_congr hrel hentry fun l _ => hline l
    · obtain ⟨hended, hpassed⟩ := safeSettled_passed (cause := cause) hd (.inl hs) he (by rw [hv]; exact hno)
      rw [hv] at hpassed
      exact ⟨hentry.trans hended, fun l hl _ => (hline l).trans (hpassed l hl)⟩
  · have hv := abandoned_of_active hs
    refine ⟨fun hyes => ?_, fun hno => ?_⟩
    · have hrel := safeSettled_releasing (cause := cause) hd (.inr hs) he (by rw [hv]; exact hyes)
      rw [hv] at hrel
      exact releasing_congr hrel hentry fun l _ => hline l
    · obtain ⟨hended, hpassed⟩ := safeSettled_passed (cause := cause) hd (.inr hs) he (by rw [hv]; exact hno)
      rw [hv] at hpassed
      exact ⟨hentry.trans hended, fun l hl _ => (hline l).trans (hpassed l hl)⟩
  · exact hentry.trans (safeSettled_signal hf hs hc he)
  · have hother : (p.entry e).state ≠ .inserting ∧ (p.entry e).state ≠ .active ∧ (p.entry e).state ≠ .armed ∧
        (p.entry e).state ≠ .blocked := by
      rcases hs with hs | hs | hs | hs | hs <;> simp [hs]
    obtain ⟨hi, hact, ha, hb⟩ := hother
    rw [hentry, safeSettled_entry_still hlen hi hact, waitDropped_of_other ha hb]

theorem releasing_state {v q : Part} {fast : Bool} {c : EndCause} (h : v.Releasing fast e d c q) (hyes : v.HasToRelease e d) :
    (q.entry e).state = .releasing := by
  by_cases ho : v.releaseOpens e d = []
  · exact congrArg Entry.state (h.2 ho (hyes.resolve_left (not_not.mpr ho))).1
  · exact congrArg Entry.state (h.1 ho).1

/-- Once settled, no sound entry is BLOCKED or INSERTING, and no ELECTRICAL one ACTIVE. -/
theorem safeSettled_waitless (hlen : p.entries.length = 128) (hsound : p.EntriesSound) (e : Nat) :
    ((p.safeSettled cause).entry e).state ≠ .blocked ∧ ((p.safeSettled cause).entry e).state ≠ .inserting ∧
      (((p.safeSettled cause).entry e).electrical?.isSome = true → ((p.safeSettled cause).entry e).state ≠ .active) := by
  have hended (t : Nat) (c : EndCause) (x : Entry) : (x.endedInSafe t c).state ≠ .blocked ∧
      (x.endedInSafe t c).state ≠ .inserting ∧
      ((x.endedInSafe t c).electrical?.isSome = true → (x.endedInSafe t c).state ≠ .active) := by
    rcases endedInSafe_state t c x with h | h | h <;> simp [h]
  rcases inserted_cases e p with ⟨d, hd, hs⟩ | ⟨c, f, hf, hs, hc⟩ | ⟨-, -, hels, hsig⟩
  · have he : e < 128 := hlen ▸ lt_of_electrical hd
    by_cases hyes : (p.abandoned e).HasToRelease e d
    · have hstate := releasing_state (safeSettled_releasing (cause := cause) hd hs he hyes) hyes
      simp [hstate]
    · rw [(safeSettled_passed (cause := cause) hd hs he hyes).1]
      exact hended _ _ _
  · rw [safeSettled_signal hf hs hc (hlen ▸ entry_lt (defined_of_signal hf))]
    simp [Entry.ended]
  · rw [(safeSettled_still hlen hels hsig).entry,
      safeUnwaiting_entry (intoSafe_isSome ..) (by rw [intoSafe_entries]; exact hlen), (intoSafe_alike cause e p).entry]
    by_cases ha : (p.entry e).state = .armed
    · rw [waitDropped_of_armed ha]
      simp
    · by_cases hb : (p.entry e).state = .blocked
      · rw [waitDropped_of_blocked hb (defined_of_sound hsound (by rw [hb]; exact EntryState.noConfusion))]
        exact hended _ _ _
      · rw [waitDropped_of_other ha hb]
        refine ⟨hb, fun hi => ?_, fun hsome => ?_⟩
        · obtain ⟨d, hd⟩ := Option.isSome_iff_exists.mp ((entry_sound hsound e).2 (.inl hi))
          exact (hels d hd).1 hi
        · obtain ⟨d, hd⟩ := Option.isSome_iff_exists.mp hsome
          exact (hels d hd).2

end

end Sys2Proof.Machine
end

section
/-! SUPPORT. What entry to SAFE says: the causes raised and the errors logged, step by step (R135, R151). -/

namespace Sys2Proof.Machine

open Sys2Proof

/-! ### What is told -/

/-- The part as its notices and its log know it: everything blanked that neither a cause nor a logging reads. -/
def Part.told (p : Part) : Part :=
  { p with
    safe := none, channels := [], damage := [], slots := [], groups := [], entries := [], claims := Claims.atReset
    matrix := { p.matrix with lines := [], terminations := [] } }

theorem raise_told (src : NoticeSource) (p : Part) : (p.raise src).told = p.told.raise src := by
  have hlink : p.told.link = p.link := rfl
  have hqueued : p.told.queued src = p.queued src := rfl
  unfold Part.raise
  rw [hlink, hqueued]
  split_ifs <;> rfl

theorem logError_told (code : ErrCode) (sub : Subject) (d : Int) (p : Part) :
    (p.logError code sub d).told = p.told.logError code sub d := raise_told _ _

theorem told_of_bare {p q : Part} (h : q.bare = p.bare) : q.told = p.told := (congrArg Part.told h :)

theorem intoSafe_told (cause : SafeCause) (p : Part) : (p.intoSafe cause).told = p.told.raise .guard :=
  raise_told ..

/-- An end told of: a MISSED occurrence is logged, and the entry's cause raised. -/
def Part.endTold (x : Entry) (e : Nat) (v : Part) : Part :=
  (if x.endCause = some .missed then v.logError .entryMissed (.entry e) (min (x.occurrences + 1) 65535) else v).raise
    (.entry e)

theorem endTold_told (x : Entry) (e : Nat) (v : Part) : (v.endTold x e).told = v.told.endTold x e := by
  unfold Part.endTold
  rw [raise_told]
  split
  · rw [logError_told]
  · rfl

/-- A wait dropped, told of. -/
def Part.waitTold (x : Entry) (e : Nat) (v : Part) : Part :=
  match x.state with
  | .armed => v.raise (.entry e)
  | .blocked => v.endTold x e
  | _ => v

theorem waitTold_told (x : Entry) (e : Nat) (v : Part) : (v.waitTold x e).told = v.told.waitTold x e := by
  unfold Part.waitTold
  split
  · exact raise_told ..
  · exact endTold_told ..
  · rfl

/-- A release begun by entry to SAFE, told of. -/
def Part.releaseTold (x : Entry) (e : Nat) (v : Part) : Part :=
  if x.electrical?.isSome ∧ (x.state = .inserting ∨ x.state = .active) then v.raise (.entry e) else v

theorem releaseTold_told (x : Entry) (e : Nat) (v : Part) : (v.releaseTold x e).told = v.told.releaseTold x e := by
  unfold Part.releaseTold
  split
  · exact raise_told ..
  · rfl

section
variable {e : Nat} {p : Part}

theorem occur_released_told (e : Nat) (p : Part) : (p.occur (.entry e .released)).1.told = p.told := by
  rw [occur_released]
  rfl

/-- An entry that enters another state, told of. -/
theorem enterEntry_told {st : EntryState} (h : (p.entry e).state ≠ st) (x : Entry) :
    (p.enterEntry e st x).told = p.told.raise (.entry e) := by
  have hbare := enterEntry_bare e st x p
  rw [if_neg h, ← raise_bare] at hbare
  exact (told_of_bare hbare).trans (raise_told ..)

theorem loggedEnd_told (e : Nat) (cause : EndCause) (p : Part) : (p.loggedEnd e cause).told =
    if cause = .missed then p.told.logError .entryMissed (.entry e) (min ((p.entry e).occurrences + 1) 65535) else p.told := by
  have hcast : ((min ((p.entry e).occurrences + 1) 65535 : Nat) : Int) = min (((p.entry e).occurrences : Int) + 1) 65535 := by
    push_cast
    rfl
  unfold Part.loggedEnd
  rw [hcast]
  split
  · exact logError_told ..
  · rfl

theorem safeWaiting_told (hs : p.safe.isSome = true) (hd : (p.entry e).state = .blocked → (p.entry e).definition ≠ none) :
    (p.safeWaiting e).1.told = p.told.waitTold (p.entry e) e := by
  by_cases ha : (p.entry e).state = .armed
  · rw [safeWaiting_of_armed ha, enterEntry_told (by rw [ha]; exact EntryState.noConfusion), Part.waitTold, ha]
  · by_cases hb : (p.entry e).state = .blocked
    · have hrecord := recordCause_entry (entry_lt (hd hb)) .safe
      have hmissed : (p.entry e).endCause.getD .safe = .missed ↔ (p.entry e).endCause = some .missed := by
        cases (p.entry e).endCause <;> simp
      rw [safeWaiting_of_defined hb hs (hd hb)]
      dsimp only
      rw [enterEntry_told, loggedEnd_told, told_of_bare (recordCause_bare ..), hrecord]
      · simp only [hmissed, Part.waitTold, hb]
        rfl
      · have hstate := endedInSafe_state p.clock.rigTime ((p.entry e).endCause.getD .safe) (p.entry e)
        rw [entry_of_entries (loggedEnd_entries ..), hrecord]
        show (p.entry e).state ≠ _
        rw [hb]
        rcases hstate with h | h | h <;> (rw [h]; exact EntryState.noConfusion)
    · have hother : p.told.waitTold (p.entry e) e = p.told := by
        unfold Part.waitTold
        split
        · exact absurd ‹_› ha
        · exact absurd ‹_› hb
        · rfl
      rw [safeWaiting_of_other ha hb, hother]

/-- What letting go writes beside the entries and the lines. -/
theorem safeInserted_bare (e : Nat) (p : Part) :
    (∃ d, (p.entry e).electrical? = some d ∧ ((p.entry e).state = .inserting ∨ (p.entry e).state = .active) ∧
      (p.safeInserted e).1.bare = (p.raise (.entry e)).bare) ∨
    (∃ c f, (p.entry e).signal? = some (c, f) ∧ (p.entry e).state = .active ∧ (p.entry e).endCause = none ∧
      (p.safeInserted e).1.bare = (p.signalOff e c f).bare) ∨
    (p.safeInserted e).1.bare = p.bare ∧
      (∀ d, (p.entry e).electrical? = some d → (p.entry e).state ≠ .inserting ∧ (p.entry e).state ≠ .active) ∧
      ((p.entry e).signal? ≠ none → (p.entry e).state = .active → (p.entry e).endCause ≠ none) := by
  rcases inserted_cases e p with ⟨d, hd, hs⟩ | ⟨c, f, hf, hs, hc⟩ | ⟨h, -, hels, hsig⟩
  · refine .inl ⟨d, hd, hs, ?_⟩
    rw [safeInserted_of_electrical hd hs, beginRelease_bare, unfastened_bare, raise_bare]
    rw [unfastened_entry (lt_of_electrical hd)]
    rcases hs with hs | hs <;> (show (p.entry e).state ≠ _; rw [hs]; exact EntryState.noConfusion)
  · refine .inr (.inl ⟨c, f, hf, hs, hc, ?_⟩)
    rw [safeInserted_of_signal hf hs hc, endSignal_eq, signalOff_bare, recordCause_bare, signalOff_bare]
  · exact .inr (.inr ⟨by rw [h], hels, hsig⟩)

theorem safeInserted_told (e : Nat) (p : Part) : (p.safeInserted e).1.told = p.told.releaseTold (p.entry e) e := by
  unfold Part.releaseTold
  rcases safeInserted_bare e p with ⟨d, hd, hs, h⟩ | ⟨c, f, hf, hs, hc, h⟩ | ⟨h, hels, -⟩
  · rw [told_of_bare h, raise_told, if_pos ⟨by rw [hd]; rfl, hs⟩]
  · have hoff : (p.signalOff e c f).told = p.told := by
      unfold Part.signalOff Part.dropModifier
      split <;> rfl
    rw [told_of_bare h, hoff, if_neg]
    rw [not_electrical_of_signal hf]
    exact fun hno => Bool.false_ne_true hno.1
  · rw [told_of_bare h, if_neg]
    rintro ⟨hsome, hs⟩
    obtain ⟨d, hd⟩ := Option.isSome_iff_exists.mp hsome
    rcases hs with hs | hs
    · exact (hels d hd).1 hs
    · exact (hels d hd).2 hs

theorem endTold_congr {x y : Entry} (hc : x.endCause = some .missed ↔ y.endCause = some .missed)
    (ho : x.occurrences = y.occurrences) (e : Nat) (v : Part) : v.endTold x e = v.endTold y e := by
  unfold Part.endTold
  rw [ho]
  simp only [hc]

theorem settleEntry_told (hs : p.safe.isSome = true) {cause : EndCause} (hx : (p.entry e).Ending cause)
    (hst : (p.entry e).state = .releasing ∨ (p.entry e).state = .active) :
    (p.settleEntry e).told = p.told.endTold (p.entry e) e := by
  have hoccur := occur_released e p
  have hentry : (p.occur (.entry e .released)).1.entry e = p.entry e := by rw [hoccur]; rfl
  have hmissed : cause = .missed ↔ (p.entry e).endCause = some .missed := by rw [hx.cause]; simp
  rw [settleEntry_eq hs hx.cause hx.defined, enterEntry_told, loggedEnd_told, occur_released_told, hentry]
  · simp only [hmissed]
    rfl
  · have hstate := endedInSafe_state p.clock.rigTime cause (p.entry e)
    rw [entry_of_entries (loggedEnd_entries ..), hentry]
    rcases hst with hst | hst <;> rw [hst] <;> rcases hstate with h | h | h <;> (rw [h]; exact EntryState.noConfusion)

theorem released_told (e : Nat) (p : Part) : (p.released e []).1.told = p.told := by
  cases hd : (p.entry e).electrical? with
  | none => rw [released_of_signal hd]
  | some d =>
    rw [told_of_bare (released_bare hd), unterminated_eq]
    rfl

theorem ending_told (hs : p.safe.isSome = true) {cause : EndCause} (hx : (p.entry e).Ending cause)
    (hst : (p.entry e).state = .releasing ∨ (p.entry e).state = .active) :
    (p.ending e).told = p.told.endTold (p.entry e) e := by
  cases hd : (p.entry e).electrical? with
  | none => rw [ending_of_signal hd, settleEntry_told hs hx hst]
  | some d =>
    have hentry := entry_of_set (released_entries hd) (lt_of_electrical hd)
    rw [Part.ending, settleEntry_told (cause := cause) (by rw [safe_of_outer (released_outer ..)]; exact hs)
      (by rw [hentry]; exact ⟨hx.defined, hx.cause⟩) (by rw [hentry]; exact hst), released_told]
    exact endTold_congr (by rw [hentry]) (by rw [hentry]) e _

end

/-! ### Pass by pass -/

section
variable {cause : SafeCause} {p : Part}

theorem waitsDropped_told (hs : p.safe.isSome = true) (hd : ∀ e, (p.entry e).state = .blocked → (p.entry e).definition ≠ none) :
    (p.waitsDropped (List.range 128)).told = (List.range 128).foldl (fun t e => t.waitTold (p.entry e) e) p.told := by
  refine Part.SameAt.reads touches_safeWaiting Part.told (g := fun t e => t.waitTold (p.entry e) e) List.nodup_range
    fun e _ v hv => ?_
  rw [safeWaiting_told (by rw [safe_of_beside hv.beside]; exact hs) (by rw [hv.entry]; exact hd e), hv.entry]

theorem groupsDropped_told : (p.groupsDropped (List.range 8)).told =
    (List.range 8).foldl (fun t g => if (p.group g).armed.isSome then t.raise (.group g) else t) p.told := by
  refine foldl_reads (R := fun g (p q : Part) => q.group g = p.group g) (step := fun v g => v.safeGroup g)
    (fun _ _ => rfl) (fun h h' => h'.trans h) (fun v k j hj => by rw [safeGroup_group, if_neg hj]) Part.told
    (g := fun t g => if (p.group g).armed.isSome then t.raise (.group g) else t) List.nodup_range fun g _ v hv => ?_
  unfold Part.safeGroup
  rw [← hv]
  split
  · exact raise_told ..
  · rfl

theorem letGo_told : (p.letGo (List.range 128)).told =
    (List.range 128).foldl (fun t e => t.releaseTold (p.entry e) e) p.told :=
  Part.SameAt.reads touches_safeInserted Part.told (g := fun t e => t.releaseTold (p.entry e) e) List.nodup_range
    fun e _ v hv => by rw [safeInserted_told, hv.entry]

/-- An entry that ends at once, as letting go leaves it. -/
structure Entry.LetGo (x y : Entry) : Prop where
  ending      : y.Ending (x.endCause.getD .safe)
  state       : y.state = .releasing ∨ y.state = .active
  occurrences : y.occurrences = x.occurrences
  definition  : y.definition = x.definition

theorem safeLetGo_entry {e : Nat} (h : e ∈ p.safeEnds) : (p.entry e).LetGo ((p.intoSafe cause).safeLetGo.entry e) := by
  obtain ⟨he, hends⟩ := (mem_safeEnds e).mp h
  obtain ⟨v, hv, -, hlast⟩ := letGo_of_inserted (cause := cause) (endsAtOnce_state hends) he
  rw [hlast.entry]
  rcases hends with ⟨d, hd, hs, hno⟩ | ⟨hsome, hs, hc⟩
  · rw [(safeInserted_nothing (by rw [hv.entry]; exact hd) (by rw [hv.entry]; exact hs)
      ((hv.abandoned.hasToRelease d).not.mpr hno)).1, hv.entry]
    exact ⟨⟨defined_of_electrical hd, rfl⟩, .inl rfl, rfl, rfl⟩
  · obtain ⟨⟨c, f⟩, hf⟩ := Option.ne_none_iff_exists'.mp hsome
    have hf' : (v.entry e).signal? = some (c, f) := by rw [hv.entry]; exact hf
    rw [safeInserted_of_signal hf' (by rw [hv.entry]; exact hs) (by rw [hv.entry]; exact hc), endSignal_eq,
      entry_of_entries (signalOff_entries ..), recordCause_entry (entry_lt (defined_of_signal hf')), hv.entry]
    exact ⟨⟨defined_of_signal hf, rfl⟩, .inr hs, rfl, rfl⟩

theorem safeLetGo_safe (cause : SafeCause) (p : Part) : (p.intoSafe cause).safeLetGo.safe.isSome = true := by
  rw [Part.safeLetGo, safe_of_beside (letGo_sameAt (e := 128) (by simp) _).beside, safe_of_beside (safeUnwaiting_beside _)]
  exact intoSafe_isSome cause p

theorem endings_told : (p.safeSettled cause).told =
    p.safeEnds.foldl (fun t e => t.endTold (p.entry e) e) (p.intoSafe cause).safeLetGo.told := by
  refine Part.SameAt.reads touches_ending Part.told (g := fun t e => t.endTold (p.entry e) e) safeEnds_nodup fun e he w hw => ?_
  have hlet := safeLetGo_entry (cause := cause) he
  rw [← hw.entry] at hlet
  rw [ending_told (by rw [safe_of_beside hw.beside]; exact safeLetGo_safe cause p) hlet.ending hlet.state]
  refine endTold_congr ?_ hlet.occurrences e _
  rw [hlet.ending.cause]
  cases (p.entry e).endCause <;> simp

/-- Dropping a wait leaves what a release's notice asks of an entry. -/
theorem releaseTold_waitDropped (time e : Nat) (x : Entry) (v : Part) : v.releaseTold (x.waitDropped time) e = v.releaseTold x e := by
  by_cases hs : x.state = .inserting ∨ x.state = .active
  · rw [waitDropped_of_other] <;> rcases hs with hs | hs <;> (rw [hs]; exact EntryState.noConfusion)
  · have hno : ¬((x.waitDropped time).state = .inserting ∨ (x.waitDropped time).state = .active) := fun h =>
      hs ((waitDropped_state time x).2.2 h ▸ h)
    unfold Part.releaseTold
    rw [if_neg fun h => hno h.2, if_neg fun h => hs h.2]

/-- The notices and the log once the entries are settled, pass by pass. -/
theorem safeSettled_told (hlen : p.entries.length = 128) (hsound : p.EntriesSound) :
    (p.safeSettled cause).told =
      p.safeEnds.foldl (fun t e => t.endTold (p.entry e) e)
        ((List.range 128).foldl (fun t e => t.releaseTold (p.entry e) e)
          ((List.range 8).foldl (fun t g => if (p.group g).armed.isSome then t.raise (.group g) else t)
            ((List.range 128).foldl (fun t e => t.waitTold (p.entry e) e) (p.told.raise .guard)))) := by
  have hs := intoSafe_isSome cause p
  have hentry (e : Nat) : (p.intoSafe cause).entry e = p.entry e := (intoSafe_alike cause e p).entry
  have hwaits := waitsDropped_told hs fun e h => by
    rw [hentry] at h ⊢
    exact defined_of_sound hsound (by rw [h]; exact EntryState.noConfusion)
  have hgroups : ∀ g, ((p.intoSafe cause).waitsDropped (List.range 128)).group g = p.group g := fun g => by
    have hkept : ((p.intoSafe cause).waitsDropped (List.range 128)).groups = (p.intoSafe cause).groups :=
      foldl_keeps Part.groups (f := fun v e => (v.safeWaiting e).1) (fun v e => (touches_safeWaiting e v).aside.groups) _ _
    rw [Part.group, hkept, intoSafe_eq]
    rfl
  have hdropped (e : Nat) : (p.intoSafe cause).safeUnwaiting.entry e = (p.entry e).waitDropped p.clock.rigTime := by
    rw [safeUnwaiting_entry hs (by rw [intoSafe_entries]; exact hlen), hentry, intoSafe_clock]
  have hreleases : (fun (t : Part) e => t.releaseTold ((p.intoSafe cause).safeUnwaiting.entry e) e) =
      fun (t : Part) e => t.releaseTold (p.entry e) e :=
    funext fun t => funext fun e => by rw [hdropped, releaseTold_waitDropped]
  rw [endings_told, Part.safeLetGo, letGo_told, hreleases, Part.safeUnwaiting, groupsDropped_told, hwaits, intoSafe_told]
  simp only [hgroups, hentry]

end

end Sys2Proof.Machine
end

section
/-! SUPPORT. What entry to SAFE gives back and counts: claims, terminations, modifiers and RELEASED occurrences (R74, R113, R136,
R139). -/

namespace Sys2Proof.Machine

open Sys2Proof

/-! ### Claims given back (R136) -/

/-- The claims without those of some entries, and with a number of the short budget given back. -/
def Claims.without (es : List Nat) (n : Nat) (cl : Claims) : Claims :=
  { lines := cl.lines.map fun h => h.filter fun e => !es.contains e
    buses := cl.buses.map fun h => h.filter fun e => !es.contains e
    channels := cl.channels.map fun h => h.filter fun e => !es.contains e
    budget := cl.budget - n }

theorem release_eq (e : Nat) (holders : List (Option Nat)) :
    release e holders = holders.map fun h => h.filter fun k => !([e] : List Nat).contains k := by
  refine List.map_congr_left fun h _ => ?_
  cases h with
  | none => rfl
  | some k => by_cases hk : k = e <;> simp [Option.filter, hk]

theorem giveBack_electrical (cl : Claims) (e : Nat) (d : Electrical) :
    cl.giveBack e (.electrical d) = cl.without [e] d.budget := by
  simp only [Claims.giveBack, Claims.without, release_eq]

theorem giveBack_signal (cl : Claims) (e c : Nat) (f : SigFault) : cl.giveBack e (.signal c f) = cl.without [e] 0 := by
  simp only [Claims.giveBack, Claims.without, release_eq, Nat.sub_zero]

theorem without_nil (cl : Claims) : cl.without [] 0 = cl := by
  have hmap (hs : List (Option Nat)) : (hs.map fun h => h.filter fun e => !([] : List Nat).contains e) = hs :=
    (List.map_congr_left fun h _ => by cases h <;> rfl).trans (List.map_id hs)
  simp only [Claims.without, hmap, Nat.sub_zero]

theorem without_without (es fs : List Nat) (n m : Nat) (cl : Claims) :
    (cl.without es n).without fs m = cl.without (es ++ fs) (n + m) := by
  have hmap (hs : List (Option Nat)) : (hs.map fun h => h.filter fun e => !es.contains e).map
      (fun h => h.filter fun e => !fs.contains e) = hs.map fun h => h.filter fun e => !(es ++ fs).contains e := by
    rw [List.map_map]
    refine List.map_congr_left fun h _ => ?_
    cases h with
    | none => rfl
    | some k => by_cases he : k ∈ es <;> by_cases hf : k ∈ fs <;> simp [Option.filter, he, hf]
  simp only [Claims.without, hmap, Nat.sub_sub]

/-- Only which entries are listed matters. -/
theorem without_congr {es fs : List Nat} (h : ∀ e, e ∈ es ↔ e ∈ fs) (n : Nat) (cl : Claims) :
    cl.without es n = cl.without fs n := by
  have hcontains : (fun e => !es.contains e) = fun e => !fs.contains e :=
    funext fun e => congrArg _ (Bool.eq_iff_iff.mpr (by simp [h e]))
  simp only [Claims.without, hcontains]

theorem foldl_without (es : Nat → List Nat) (n : Nat → Nat) (ks : List Nat) (cl : Claims) :
    ks.foldl (fun cl k => cl.without (es k) (n k)) cl = cl.without (ks.flatMap es) (ks.map n).sum := by
  induction ks generalizing cl with
  | nil => exact (without_nil cl).symm
  | cons k ks ih => rw [List.foldl_cons, ih, without_without]; rfl

/-! ### What each step keeps -/

section
variable {β : Type} {e : Nat} {p : Part}

/-- What neither an entry written, nor a cause, nor a logging changes, settling keeps. -/
theorem finish_keeps (read : Part → β) (hset : ∀ x q, read (Part.setEntry e x q) = read q)
    (hraise : ∀ q, read (Part.raise (.entry e) q) = read q)
    (hlog : ∀ n q, read (Part.logError .entryMissed (.entry e) n q) = read q) (p : Part) : read (p.finish e).1 = read p := by
  have henter (st : EntryState) (x : Entry) (q : Part) : read (q.enterEntry e st x) = read q := by
    unfold Part.enterEntry
    simp only
    split
    · exact hset _ q
    · exact (hraise _).trans (hset _ q)
  unfold Part.finish
  simp only
  split
  · rw [henter]
    split
    · exact hlog _ p
    · rfl
  · rfl

theorem safeWaiting_keeps (read : Part → β) (hset : ∀ x q, read (Part.setEntry e x q) = read q)
    (hraise : ∀ q, read (Part.raise (.entry e) q) = read q)
    (hlog : ∀ n q, read (Part.logError .entryMissed (.entry e) n q) = read q) (p : Part) :
    read (p.safeWaiting e).1 = read p := by
  by_cases ha : (p.entry e).state = .armed
  · rw [safeWaiting_of_armed ha]
    unfold Part.enterEntry
    simp only
    split
    · exact hset _ p
    · exact (hraise _).trans (hset _ p)
  · by_cases hb : (p.entry e).state = .blocked
    · rw [safeWaiting_of_blocked hb, finish_keeps read hset hraise hlog, recordCause_eq, hset]
    · rw [safeWaiting_of_other ha hb]

/-- What nothing that drops the waits and the groups' conditions changes. -/
theorem safeUnwaiting_keeps (read : Part → β) (hset : ∀ e x q, read (Part.setEntry e x q) = read q)
    (hgroup : ∀ g x q, read (Part.setGroup g x q) = read q) (hraise : ∀ src q, read (Part.raise src q) = read q)
    (hlog : ∀ e n q, read (Part.logError .entryMissed (.entry e) n q) = read q) (p : Part) :
    read p.safeUnwaiting = read p :=
  (groupsDropped_keeps read hgroup (fun _ => hraise _) _ _).trans
    (foldl_keeps read (f := fun v e => (v.safeWaiting e).1)
      (fun v e => safeWaiting_keeps read (hset e) (hraise _) (hlog e) v) _ p)

theorem intoSafe_keeps (read : Part → β) (hsafe : ∀ s q, read { q with safe := s } = read q)
    (hraise : ∀ src q, read (Part.raise src q) = read q) (cause : SafeCause) (p : Part) : read (p.intoSafe cause) = read p :=
  (hraise _ _).trans (hsafe _ p)

end

/-! ### An entry let go, and an ending (R113, R136, R139) -/

/-- A SIGNAL entry whose occurrence entry to SAFE ends. -/
def Entry.signalEnds (x : Entry) : Bool := x.signal?.isSome && decide (x.state = .active) && x.endCause.isNone

theorem signalEnds_iff {x : Entry} : x.signalEnds = true ↔ x.signal? ≠ none ∧ x.state = .active ∧ x.endCause = none := by
  simp [Entry.signalEnds, Option.isSome_iff_ne_none, and_assoc]

/-- The short budget an entry draws on. -/
def Entry.drawn (x : Entry) : Nat :=
  match x.electrical? with
  | some d => if d.kind = .shortGnd ∨ d.kind = .shortBat then d.lines.length else 0
  | none => 0

theorem drawn_of_electrical {x : Entry} {d : Electrical} (h : x.electrical? = some d) : x.drawn = d.budget := by
  unfold Entry.drawn Electrical.budget
  rw [h]
  cases hk : d.kind <;> simp [hk, ElecKind.shorts]

section
variable {e c : Nat} {p : Part}

theorem signalEnds_of_electrical {x : Entry} {d : Electrical} (h : x.electrical? = some d) : x.signalEnds = false := by
  cases hf : x.signal? with
  | none => simp [Entry.signalEnds, hf]
  | some y => rw [not_electrical_of_signal hf] at h; cases h

/-- What entry to SAFE takes off with a signal of an entry `x`, where its occurrence ends. -/
def Part.signalDone (x : Entry) (e : Nat) (v : Part) : Part :=
  match x.signal? with
  | some (c, f) => if x.signalEnds then v.signalOff e c f else v
  | none => v

theorem signalDone_of_not {x : Entry} (h : ¬x.signalEnds = true) (e : Nat) (v : Part) : v.signalDone x e = v := by
  unfold Part.signalDone
  split
  · rw [if_neg h]
  · rfl

theorem signalDone_of_ends {x : Entry} {f : SigFault} (hf : x.signal? = some (c, f)) (h : x.signalEnds = true) (e : Nat)
    (v : Part) : v.signalDone x e = v.signalOff e c f := by
  unfold Part.signalDone
  rw [hf]
  exact if_pos h

/-- Letting go, as it shows beside the entries, the lines and the notices: a signal that ends is taken off. -/
theorem safeInserted_reads {β : Type} (read : Part → β) (hbare : ∀ q : Part, read q.bare = read q)
    (hraise : ∀ src q, read (Part.raise src q) = read q) (e : Nat) (p : Part) :
    read (p.safeInserted e).1 = read (p.signalDone (p.entry e) e) := by
  rcases safeInserted_bare e p with ⟨d, hd, hs, h⟩ | ⟨c, f, hf, hs, hc, h⟩ | ⟨h, -, hsig⟩
  · rw [← hbare, h, hbare, hraise, signalDone_of_not (by rw [signalEnds_of_electrical hd]; exact Bool.false_ne_true)]
  · rw [← hbare, h, hbare, signalDone_of_ends hf (signalEnds_iff.mpr ⟨by rw [hf]; exact Option.some_ne_none _, hs, hc⟩)]
  · rw [← hbare, h, hbare, signalDone_of_not]
    intro hyes
    obtain ⟨hf, hact, hc⟩ := signalEnds_iff.mp hyes
    exact hsig hf hact hc

theorem signal_of_ends {x : Entry} (h : x.signalEnds = true) : ∃ c f, x.signal? = some (c, f) := by
  obtain ⟨⟨c, f⟩, hf⟩ := Option.ne_none_iff_exists'.mp (signalEnds_iff.mp h).1
  exact ⟨c, f, hf⟩

theorem safeInserted_claims (e : Nat) (p : Part) : (p.safeInserted e).1.claims =
    p.claims.without (if (p.entry e).signalEnds then [e] else []) 0 := by
  rw [safeInserted_reads Part.claims (fun _ => rfl) (by simp)]
  by_cases h : (p.entry e).signalEnds = true
  · obtain ⟨c, f, hf⟩ := signal_of_ends h
    rw [signalDone_of_ends hf h, if_pos h]
    exact giveBack_signal _ e c f
  · rw [signalDone_of_not h, if_neg h, without_nil]

theorem safeInserted_keeps {β : Type} (read : Part → β) (hbare : ∀ q : Part, read q.bare = read q)
    (hraise : ∀ src q, read (Part.raise src q) = read q) (hoff : ∀ e c f q, read (Part.signalOff e c f q) = read q)
    (e : Nat) (p : Part) : read (p.safeInserted e).1 = read p := by
  rw [safeInserted_reads read hbare hraise]
  by_cases h : (p.entry e).signalEnds = true
  · obtain ⟨c, f, hf⟩ := signal_of_ends h
    rw [signalDone_of_ends hf h, hoff]
  · rw [signalDone_of_not h]

/-- What letting each entry go keeps, the pass that lets them go keeps. -/
theorem letGo_keeps {β : Type} (read : Part → β) (h : ∀ e v, read (Part.safeInserted e v).1 = read v) (es : List Nat) (p : Part) :
    read (p.letGo es) = read p := foldl_keeps read (f := fun v e => (v.safeInserted e).1) (fun v e => h e v) es p

/-- Whether a modifier is that of a signal entry `x`, of number `e`, on a channel that its ending takes it off. -/
def Entry.takesOff (x : Entry) (e c : Nat) (m : Modifier) : Bool :=
  x.signalEnds && decide (m.entry = e) && decide (x.signal?.map Prod.fst = some c)

/-- A channel without an entry's modifier. -/
def Channel.unmodified (e : Nat) (ch : Channel) : Channel :=
  { ch with modifier := ch.modifier.filter fun m => !decide (m.entry = e) }

theorem setChannel_self (c : Nat) (p : Part) : p.setChannel c (p.channel c) = p := by
  have hset : p.channels.set c (p.channel c) = p.channels := by
    rcases Nat.lt_or_ge c p.channels.length with h | h
    · simp [Part.channel, List.getD_eq_getElem?_getD, h]
    · exact List.set_eq_of_length_le h
  rw [Part.setChannel, hset]

theorem dropModifier_eq (e c : Nat) (p : Part) : p.dropModifier e c = p.setChannel c ((p.channel c).unmodified e) := by
  have hfilter (m : Option Modifier) : (m.filter fun m => !decide (m.entry = e)) =
      if m.any (fun m => decide (m.entry = e)) then none else m := by
    cases m with
    | none => rfl
    | some m => by_cases h : m.entry = e <;> simp [Option.filter, h]
  unfold Part.dropModifier Channel.unmodified
  rw [hfilter]
  split
  · rfl
  · exact (setChannel_self c p).symm

/-- The modifier a channel is left with: its own, but for that of a signal that has ended. -/
theorem safeInserted_channel (hc : c < p.channels.length) (e : Nat) :
    (p.safeInserted e).1.channel c = { p.channel c with
      modifier := (p.channel c).modifier.filter fun m => !(p.entry e).takesOff e c m } := by
  have hall : ∀ m : Option Modifier, (m.filter fun _ => true) = m := fun m => by cases m <;> rfl
  rw [safeInserted_reads (fun v => v.channel c) (fun _ => rfl) (by simp [Part.channel])]
  by_cases h : (p.entry e).signalEnds = true
  · obtain ⟨k, f, hf⟩ := signal_of_ends h
    rw [signalDone_of_ends hf h]
    show (p.dropModifier e k).channel c = _
    rw [dropModifier_eq]
    by_cases hk : c = k
    · subst hk
      rw [channel_setChannel _ _ _ hc]
      simp [Channel.unmodified, Entry.takesOff, h, hf]
    · rw [channel_setChannel_ne hk]
      simp [Entry.takesOff, hf, Ne.symm hk, hall]
  · rw [signalDone_of_not h]
    simp [Entry.takesOff, h, hall]

end

/-! ### An ending -/

section
variable {e : Nat} {p : Part}

/-- What neither an entry nor a slot written, nor a cause, nor a logging changes, settling keeps. -/
theorem settleEntry_keeps {β : Type} (read : Part → β) (hset : ∀ x q, read (Part.setEntry e x q) = read q)
    (hraise : ∀ q, read (Part.raise (.entry e) q) = read q)
    (hlog : ∀ n q, read (Part.logError .entryMissed (.entry e) n q) = read q)
    (hslots : ∀ s (q : Part), read { q with slots := s } = read q) (p : Part) : read (p.settleEntry e) = read p := by
  rw [Part.settleEntry, finish_keeps read hset hraise hlog, occur_released, hslots]

theorem ending_claims (e : Nat) (p : Part) : (p.ending e).claims =
    p.claims.without (if (p.entry e).electrical?.isSome then [e] else []) (p.entry e).drawn := by
  rw [Part.ending, settleEntry_keeps Part.claims (by simp) (by simp) (by simp) (fun _ _ => rfl)]
  cases hd : (p.entry e).electrical? with
  | none => simp [released_of_signal hd, Entry.drawn, hd, without_nil]
  | some d =>
    have hback : (p.released e []).1.claims = (p.unterminated d).claims.giveBack e (.electrical d) :=
      (congrArg Part.claims (released_bare hd) :)
    rw [hback, unterminated_eq, giveBack_electrical, drawn_of_electrical hd]
    rfl

/-- The terminations with an entry's own taken off. -/
def Entry.takenOff (x : Entry) (ts : List Termination) : List Termination :=
  match x.electrical? with
  | some d =>
    match d.kind, d.bus with
    | .leakGnd, some b => ts.set b .none
    | .leakBat, some b => ts.set b .none
    | _, _ => ts
  | none => ts

theorem ending_terminations (e : Nat) (p : Part) :
    (p.ending e).matrix.terminations = (p.entry e).takenOff p.matrix.terminations := by
  rw [Part.ending, settleEntry_keeps (fun v => v.matrix.terminations) (by simp) (by simp) (by simp) (fun _ _ => rfl)]
  cases hd : (p.entry e).electrical? with
  | none => rw [released_of_signal hd, Entry.takenOff, hd]
  | some d =>
    have hoff : (p.released e []).1.matrix.terminations = (p.unterminated d).matrix.terminations :=
      (congrArg (fun v => v.matrix.terminations) (released_bare hd) :)
    rw [hoff, Entry.takenOff, hd]
    unfold Part.unterminated Part.setTermination
    cases hk : d.kind <;> cases hb : d.bus <;> simp [hk, hb, ElecKind.leaks]

theorem released_slots (e : Nat) (p : Part) : (p.released e []).1.slots = p.slots := by
  cases hd : (p.entry e).electrical? with
  | none => rw [released_of_signal hd]
  | some d =>
    have hslots : (p.released e []).1.slots = (p.unterminated d).slots := (congrArg Part.slots (released_bare hd) :)
    rw [hslots, unterminated_eq]

theorem stamp_of_outer {p q : Part} (h : q.outer = p.outer) : q.stamp = p.stamp := by
  rw [Part.stamp, Part.stamp, clock_of_outer h, engine_of_outer h]

theorem ending_slots (h : p.slots.length = 16) (e : Nat) :
    (p.ending e).slots = p.slots.map (EventSlot.seen (.entry e .released) p.stamp) := by
  rw [Part.ending, Part.settleEntry, finish_keeps Part.slots (by simp) (by simp) (by simp),
    occur_released_slots e (by rw [released_slots]; exact h), Part.counted, released_slots,
    stamp_of_outer (released_outer ..)]

theorem ending_channels (e : Nat) (p : Part) : (p.ending e).channels = p.channels := by
  rw [Part.ending, settleEntry_keeps Part.channels (by simp) (by simp) (by simp) (fun _ _ => rfl)]
  cases hd : (p.entry e).electrical? with
  | none => rw [released_of_signal hd]
  | some d =>
    have hchannels : (p.released e []).1.channels = (p.unterminated d).channels :=
      (congrArg Part.channels (released_bare hd) :)
    rw [hchannels, unterminated_eq]

end

/-! ### Pass by pass -/

section
variable {cause : SafeCause} {p : Part}

/-- Dropping a wait leaves a signal that ends as it was, and makes none. -/
theorem signalEnds_waitDropped (time : Nat) (x : Entry) : (x.waitDropped time).signalEnds = x.signalEnds := by
  have hkept := (waitDropped_state time x).2.2
  by_cases hs : x.state = .active
  · rw [waitDropped_of_other] <;> (rw [hs]; exact EntryState.noConfusion)
  · have hno : (x.waitDropped time).state ≠ .active := fun h => hs (hkept (.inr h) ▸ h)
    simp [Entry.signalEnds, hs, hno]

theorem waitDropped_definition (time : Nat) (x : Entry) : (x.waitDropped time).definition = x.definition := by
  by_cases ha : x.state = .armed
  · rw [waitDropped_of_armed ha]
  · by_cases hb : x.state = .blocked
    · by_cases hd : x.definition = none
      · rw [waitDropped_of_undefined hb hd]
      · rw [waitDropped_of_blocked hb hd, endedInSafe_eq]
        rfl
    · rw [waitDropped_of_other ha hb]

theorem takesOff_waitDropped (time e c : Nat) (x : Entry) : (x.waitDropped time).takesOff e c = x.takesOff e c := by
  unfold Entry.takesOff
  rw [signalEnds_waitDropped, Entry.signal?, waitDropped_definition, Entry.signal?]

theorem unwaiting_entry (hlen : p.entries.length = 128) (e : Nat) :
    (p.intoSafe cause).safeUnwaiting.entry e = (p.entry e).waitDropped p.clock.rigTime := by
  rw [safeUnwaiting_entry (intoSafe_isSome ..) (by rw [intoSafe_entries]; exact hlen), (intoSafe_alike cause e p).entry,
    intoSafe_clock]

/-- The claims once the entries are settled: those of the signals taken off, and those of the releases ended. -/
theorem safeSettled_claims (hlen : p.entries.length = 128) : (p.safeSettled cause).claims =
    p.claims.without p.safeEnds (p.safeEnds.map fun e => (p.entry e).drawn).sum := by
  have hunwait : (p.intoSafe cause).safeUnwaiting.claims = p.claims :=
    (safeUnwaiting_keeps Part.claims (by simp) (by simp) (by simp) (by simp) _).trans
      (intoSafe_keeps Part.claims (fun _ _ => rfl) (by simp) cause p)
  have hlet : (p.intoSafe cause).safeLetGo.claims = (List.range 128).foldl
      (fun cl e => cl.without (if (p.entry e).signalEnds then [e] else []) 0) p.claims := by
    rw [← hunwait]
    refine Part.SameAt.reads touches_safeInserted Part.claims
      (g := fun cl e => cl.without (if (p.entry e).signalEnds then [e] else []) 0) List.nodup_range fun e _ v hv => ?_
    rw [safeInserted_claims, hv.entry, unwaiting_entry hlen, signalEnds_waitDropped]
  have hend : (p.safeSettled cause).claims = p.safeEnds.foldl
      (fun cl e => cl.without (if (p.entry e).electrical?.isSome then [e] else []) (p.entry e).drawn)
      (p.intoSafe cause).safeLetGo.claims := by
    refine Part.SameAt.reads touches_ending Part.claims
      (g := fun cl e => cl.without (if (p.entry e).electrical?.isSome then [e] else []) (p.entry e).drawn)
      safeEnds_nodup fun e he w hw => ?_
    have hdef : (w.entry e).electrical? = (p.entry e).electrical? := by
      rw [hw.entry, Entry.electrical?, (safeLetGo_entry (cause := cause) he).definition, Entry.electrical?]
    rw [ending_claims, Entry.drawn, hdef, Entry.drawn]
  rw [hend, hlet, foldl_without, foldl_without, without_without, List.map_const', List.sum_replicate, smul_zero, Nat.zero_add]
  refine without_congr (fun e => ?_) _ _
  have hpick (b : Nat → Bool) (ks : List Nat) : e ∈ ks.flatMap (fun k => if b k then [k] else []) ↔ e ∈ ks ∧ b e = true := by
    rw [List.mem_flatMap]
    constructor
    · rintro ⟨k, hk, hm⟩
      split at hm
      · rw [List.mem_singleton.mp hm]
        exact ⟨hk, ‹_›⟩
      · cases hm
    · rintro ⟨hk, hb⟩
      exact ⟨e, hk, by rw [if_pos hb]; exact List.mem_singleton_self e⟩
  rw [List.mem_append, hpick, hpick, List.mem_range]
  constructor
  · rintro (⟨he, hends⟩ | ⟨he, -⟩)
    · exact (mem_safeEnds e).mpr ⟨he, .inr (signalEnds_iff.mp hends)⟩
    · exact he
  · intro he
    obtain ⟨hlt, ⟨d, hd, -⟩ | hends⟩ := (mem_safeEnds e).mp he
    · exact .inr ⟨he, by rw [hd]; rfl⟩
    · exact .inl ⟨hlt, signalEnds_iff.mpr hends⟩

/-- The terminations once the entries are settled. -/
theorem safeSettled_terminations : (p.safeSettled cause).matrix.terminations =
    p.safeEnds.foldl (fun ts e => (p.entry e).takenOff ts) p.matrix.terminations := by
  have hlet : (p.intoSafe cause).safeLetGo.matrix.terminations = p.matrix.terminations := by
    have hoff (e c : Nat) (f : SigFault) (q : Part) : (q.signalOff e c f).matrix.terminations = q.matrix.terminations := by
      rw [signalOff_matrix]
    have hfold : (p.intoSafe cause).safeLetGo.matrix.terminations =
        (p.intoSafe cause).safeUnwaiting.matrix.terminations := by
      rw [Part.safeLetGo]
      exact letGo_keeps (fun v => v.matrix.terminations)
        (safeInserted_keeps (fun v => v.matrix.terminations) (fun _ => rfl) (by simp) hoff) (List.range 128) _
    rw [hfold, safeUnwaiting_matrix, intoSafe_eq]
  have hend : (p.safeSettled cause).matrix.terminations = p.safeEnds.foldl (fun ts e => (p.entry e).takenOff ts)
      (p.intoSafe cause).safeLetGo.matrix.terminations := by
    refine Part.SameAt.reads touches_ending (fun v => v.matrix.terminations) (g := fun ts e => (p.entry e).takenOff ts)
      safeEnds_nodup fun e he w hw => ?_
    have hdef : (w.entry e).electrical? = (p.entry e).electrical? := by
      rw [hw.entry, Entry.electrical?, (safeLetGo_entry (cause := cause) he).definition, Entry.electrical?]
    rw [ending_terminations, Entry.takenOff, hdef, Entry.takenOff]
  rw [hend, hlet]

/-- The slots once the entries are settled: RELEASED counted for each that has ended. -/
theorem safeSettled_slots (hslots : p.slots.length = 16) : (p.safeSettled cause).slots =
    p.safeEnds.foldl (fun ss e => ss.map (EventSlot.seen (.entry e .released) p.stamp)) p.slots := by
  have hstamp : (p.intoSafe cause).stamp = p.stamp := by rw [intoSafe_eq]; rfl
  have hunwait : (p.intoSafe cause).safeUnwaiting.slots = p.slots :=
    (safeUnwaiting_keeps Part.slots (by simp) (by simp) (by simp) (by simp) _).trans
      (intoSafe_keeps Part.slots (fun _ _ => rfl) (by simp) cause p)
  have hlet : (p.intoSafe cause).safeLetGo.slots = p.slots := by
    have hoff (e c : Nat) (f : SigFault) (q : Part) : (q.signalOff e c f).slots = q.slots := by
      unfold Part.signalOff Part.dropModifier
      split <;> rfl
    exact (letGo_keeps Part.slots (safeInserted_keeps Part.slots (fun _ => rfl) (by simp) hoff) _ _).trans hunwait
  have hbeside : (p.intoSafe cause).Beside (p.intoSafe cause).safeLetGo :=
    (safeUnwaiting_beside _).trans (letGo_sameAt (e := 128) (by simp) _).beside
  have hend : (p.safeSettled cause).slots = p.safeEnds.foldl
      (fun ss e => ss.map (EventSlot.seen (.entry e .released) p.stamp)) (p.intoSafe cause).safeLetGo.slots := by
    refine Part.SameAt.reads touches_ending Part.slots
      (g := fun ss e => ss.map (EventSlot.seen (.entry e .released) p.stamp)) safeEnds_nodup fun e he w hw => ?_
    rw [ending_slots (by rw [hw.beside.slots, hlet, hslots]), stamp_of_outer (hbeside.trans hw.beside).outer, hstamp]
  rw [hend, hlet]

theorem foldl_modifier (off : Nat → Modifier → Bool) (es : List Nat) (ch : Channel) :
    es.foldl (fun ch e => ({ ch with modifier := ch.modifier.filter fun m => !off e m } : Channel)) ch =
      { ch with modifier := ch.modifier.filter fun m => !es.any fun e => off e m } := by
  have hall (m : Option Modifier) : (m.filter fun _ => true) = m := by cases m <;> rfl
  have htwice (m : Option Modifier) (f g : Modifier → Bool) : (m.filter fun x => !f x).filter (fun x => !g x) =
      m.filter fun x => !(f x || g x) := by
    cases m with
    | none => rfl
    | some x => cases hf : f x <;> cases hg : g x <;> simp [Option.filter, hf, hg]
  induction es generalizing ch with
  | nil => simp [hall]
  | cons e es ih => simp only [List.foldl_cons, ih, htwice, List.any_cons]

/-- A channel once the entries are settled: its own, but for the modifier of a signal that has ended. -/
theorem safeSettled_channel (hlen : p.entries.length = 128) {c : Nat} (hc : c < p.channels.length) :
    (p.safeSettled cause).channel c = { p.channel c with
      modifier := (p.channel c).modifier.filter fun m => !(List.range 128).any fun e => (p.entry e).takesOff e c m } := by
  have hunwait : (p.intoSafe cause).safeUnwaiting.channels = p.channels :=
    (safeUnwaiting_keeps Part.channels (by simp) (by simp) (by simp) (by simp) _).trans
      (intoSafe_keeps Part.channels (fun _ _ => rfl) (by simp) cause p)
  have hlet : (p.intoSafe cause).safeLetGo.channel c = (List.range 128).foldl (fun ch e =>
      ({ ch with modifier := ch.modifier.filter fun m => !(p.entry e).takesOff e c m } : Channel)) (p.channel c) := by
    have hchannel : (p.intoSafe cause).safeUnwaiting.channel c = p.channel c := by rw [Part.channel, hunwait, Part.channel]
    rw [← hchannel]
    refine Part.SameAt.reads touches_safeInserted (fun v => v.channel c) (g := fun ch e =>
      ({ ch with modifier := ch.modifier.filter fun m => !(p.entry e).takesOff e c m } : Channel)) List.nodup_range
      fun e _ v hv => ?_
    simp only [safeInserted_channel (p := v) (c := c) (by rw [hv.beside.channels, hunwait]; exact hc) e, hv.entry,
      unwaiting_entry hlen, takesOff_waitDropped]
  have hend : (p.safeSettled cause).channels = (p.intoSafe cause).safeLetGo.channels :=
    foldl_keeps Part.channels (f := fun v e => v.ending e) (fun v e => ending_channels e v) _ _
  rw [Part.channel, hend, ← foldl_modifier fun e m => (p.entry e).takesOff e c m]
  exact hlet

end

end Sys2Proof.Machine
end

section
/-! SUPPORT. Entry to SAFE: the channels held, the engine held, and the whole as the certificate describes it (R18, R29, R157). -/

namespace Sys2Proof.Machine

open Sys2Proof

/-! ### Channels held (R29) -/

section
variable {c : Nat} {p q : Part}

/-- The channel, and what its pin is made from, are in `q` as they are in `p`. -/
structure Part.SameChannel (c : Nat) (p q : Part) : Prop where
  clock    : q.clock = p.clock
  patterns : q.patterns = p.patterns
  count    : q.channels.length = p.channels.length
  channel  : q.channel c = p.channel c

theorem Part.SameChannel.refl (c : Nat) (p : Part) : p.SameChannel c p := ⟨rfl, rfl, rfl, rfl⟩

theorem Part.SameChannel.trans {r : Part} (h : p.SameChannel c q) (h' : q.SameChannel c r) : p.SameChannel c r :=
  ⟨h'.clock.trans h.clock, h'.patterns.trans h.patterns, h'.count.trans h.count, h'.channel.trans h.channel⟩

theorem pinOf_congr (hclock : q.clock = p.clock) (hpatterns : q.patterns = p.patterns) (c : Nat) (ch : Channel) :
    q.pinOf c ch = p.pinOf c ch := by
  unfold Part.pinOf Part.patternOf Part.pattern Part.now
  rw [hclock, hpatterns]

/-- Every state but OFF shows the same pin. -/
theorem pinOf_of_state {ch : Channel} (h : ch.state ≠ .off) {st : ChState} (hst : st ≠ .off) (c : Nat) (p : Part) :
    p.pinOf c { ch with state := st } = p.pinOf c ch := by
  have hheld (s : ChState) (hs : s ≠ .off) : p.pinOf c { ch with state := s } = p.pinOf c { ch with state := .held } := by
    have hkind : ({ ch with state := s } : Channel).kind = ch.kind := rfl
    have hkind' : ({ ch with state := .held } : Channel).kind = ch.kind := rfl
    unfold Part.pinOf
    rw [hkind, hkind']
    cases s with
    | off => exact absurd rfl hs
    | _ =>
      cases ch.kind with
      | none => rfl
      | some k => cases k <;> rfl
  exact (hheld st hst).trans (hheld ch.state h).symm

/-- A channel parked and held shows the pin it showed. -/
theorem pinOf_parked {ch : Channel} (h : ch.state ≠ .off) (c : Nat) (p : Part) :
    p.pinOf c { ch.parked with state := .held } = p.pinOf c ch :=
  (pinOf_of_state (ch := ch) h ChState.noConfusion c p : p.pinOf c { ch with state := .held } = p.pinOf c ch)

/-- A channel as it enters SAFE, with its pin. -/
def Channel.safeHeld (pin : Nat) (ch : Channel) : Channel := { ch.parked with state := .held, pin := pin }

theorem enterState_channels (c : Nat) (st : ChState) (ch : Channel) (p : Part) :
    (p.enterState c st ch).channels = p.channels.set c { ch with state := st, pin := p.pinOf c { ch with state := st } } := by
  unfold Part.enterState
  simp only
  split <;> simp [Part.putChannel]

theorem safeChannel_channels (c : Nat) (p : Part) : (p.safeChannel c).channels =
    if (p.channel c).state = .off then p.channels
    else p.channels.set c ((p.channel c).safeHeld (p.pinOf c (p.channel c))) := by
  unfold Part.safeChannel
  split
  · rfl
  · rw [enterState_channels, pinOf_parked ‹_›]
    rfl

/-- What neither a channel written nor its cause raised changes, holding channels keeps. -/
theorem safeChannel_keeps {β : Type} (read : Part → β) (hset : ∀ x q, read (Part.setChannel c x q) = read q)
    (hraise : ∀ q, read (Part.raise (.channel c) q) = read q) (p : Part) : read (p.safeChannel c) = read p := by
  unfold Part.safeChannel Part.enterState
  simp only
  split
  · rfl
  · split
    · exact hset _ p
    · exact (hraise _).trans (hset _ p)

theorem channelsHeld_keeps {β : Type} (read : Part → β) (hset : ∀ c x q, read (Part.setChannel c x q) = read q)
    (hraise : ∀ src q, read (Part.raise src q) = read q) (cs : List Nat) (p : Part) : read (p.channelsHeld cs) = read p :=
  foldl_keeps read (f := fun v c => v.safeChannel c) (fun v c => safeChannel_keeps read (hset c) (hraise _) v) cs p

theorem safeChannel_sameChannel {k : Nat} (hck : c ≠ k) (p : Part) : p.SameChannel c (p.safeChannel k) where
  clock := safeChannel_keeps Part.clock (by simp) (by simp) p
  patterns := safeChannel_keeps Part.patterns (by simp) (by simp) p
  count := safeChannel_keeps (fun v => v.channels.length) (by simp) (by simp) p
  channel := by
    rw [Part.channel, safeChannel_channels]
    split
    · rfl
    · exact channel_setChannel_ne hck _ p

theorem channelsHeld_channel {cs : List Nat} (hcs : cs.Nodup) (hc : c ∈ cs) (hlt : c < p.channels.length) :
    (p.channelsHeld cs).channel c =
      if (p.channel c).state = .off then p.channel c else (p.channel c).safeHeld (p.pinOf c (p.channel c)) := by
  obtain ⟨v, hv, hlast⟩ := foldl_split (R := Part.SameChannel) (step := fun v c => v.safeChannel c) .refl .trans
    (fun v k j hj => safeChannel_sameChannel hj v) hcs hc p
  rw [Part.channelsHeld, hlast.channel, Part.channel, safeChannel_channels, hv.channel, pinOf_congr hv.clock hv.patterns]
  split
  · exact hv.channel
  · exact channel_setChannel c _ v (by rw [hv.count]; exact hlt)

/-- A channel held, told of where it becomes HELD. -/
def Part.holdTold (x : Channel) (c : Nat) (v : Part) : Part :=
  if x.state = .off ∨ x.state = .held then v else v.raise (.channel c)

theorem channelsHeld_told (p : Part) : (p.channelsHeld (List.range 32)).told =
    (List.range 32).foldl (fun t c => t.holdTold (p.channel c) c) p.told := by
  refine foldl_reads (R := Part.SameChannel) (step := fun v c => v.safeChannel c) .refl .trans
    (fun v k j hj => safeChannel_sameChannel hj v) Part.told (g := fun t c => t.holdTold (p.channel c) c) List.nodup_range fun c _ v hv => ?_
  unfold Part.safeChannel Part.enterState Part.holdTold
  simp only
  rw [hv.channel]
  by_cases hoff : (p.channel c).state = .off
  · rw [if_pos hoff, if_pos (.inl hoff)]
  · by_cases hheld : (p.channel c).state = .held
    · rw [if_neg hoff, if_pos hheld, if_pos (.inr hheld)]
      rfl
    · rw [if_neg hoff, if_neg hheld, if_neg (by simp [hoff, hheld]), raise_told]
      rfl

end

/-! ### The engine held (R18) -/

section
variable {p : Part}

theorem fixedMotion_zero (n : Nat) : fixedMotion n 0 = if n = 0 then .stopped else .ramping := by
  simp [fixedMotion]

/-- The engine's mode or motion status changes as the part enters SAFE (R20). -/
def Engine.tellsHold (e : Engine) : Prop :=
  e.mode = .track ∨ e.mode = .fixed ∧ e.motion ≠ (if e.internal = 0 then .stopped else .ramping)

theorem safeHold_fixed {e : Engine} (h : e.mode = .fixed) (rate : Nat) : e.safeHold rate =
    { e with target := 0, rampRate := rate, motion := if e.internal = 0 then .stopped else .ramping } := by
  simp only [Engine.safeHold, h, fixedMotion_zero]

theorem safeHold_track {e : Engine} (h : e.mode = .track) (rate : Nat) : e.safeHold rate =
    { e with
      mode := .fixed, trackChannel := none, internal := e.speed * 1000, target := 0, rampRate := rate
      motion := if e.speed = 0 then .stopped else .ramping } := by
  simp only [Engine.safeHold, h, fixedMotion_zero, Nat.mul_eq_zero, OfNat.ofNat_ne_zero, or_false]

theorem safeHold_follow {e : Engine} (h : e.mode = .follow) (rate : Nat) : e.safeHold rate = e := by
  simp only [Engine.safeHold, h]

theorem engineHeld_of_tells (h : p.engine.tellsHold) :
    p.engineHeld = Part.raise .engine { p with engine := p.engine.safeHold p.guard.safeRate } := by
  unfold Part.engineHeld Part.setEngine
  refine if_neg ?_
  rcases h with hmode | ⟨hmode, hmotion⟩
  · rw [safeHold_track hmode, hmode]
    simp
  · rw [safeHold_fixed hmode]
    simp [Ne.symm hmotion]

theorem engineHeld_of_not (h : ¬p.engine.tellsHold) :
    p.engineHeld = { p with engine := p.engine.safeHold p.guard.safeRate } := by
  unfold Part.engineHeld Part.setEngine
  refine if_pos ?_
  cases hmode : p.engine.mode with
  | fixed =>
    have hmotion : p.engine.motion = if p.engine.internal = 0 then .stopped else .ramping := by
      by_contra hne
      exact h (.inr ⟨hmode, hne⟩)
    rw [safeHold_fixed hmode]
    simp [hmode, hmotion]
  | track => exact absurd (.inl hmode) h
  | follow =>
    rw [safeHold_follow hmode]
    simp [hmode]

/-- What neither the engine written nor a cause raised changes, holding the engine keeps. -/
theorem engineHeld_keeps {β : Type} (read : Part → β) (hset : ∀ e (q : Part), read { q with engine := e } = read q)
    (hraise : ∀ src q, read (Part.raise src q) = read q) (p : Part) : read p.engineHeld = read p := by
  by_cases h : p.engine.tellsHold
  · rw [engineHeld_of_tells h, hraise, hset]
  · rw [engineHeld_of_not h, hset]

theorem engineHeld_engine (p : Part) : p.engineHeld.engine = p.engine.safeHold p.guard.safeRate := by
  by_cases h : p.engine.tellsHold
  · rw [engineHeld_of_tells h, raise_engine]
  · rw [engineHeld_of_not h]

end

/-! ### The causes, as the certificate lists them -/

section
variable {p : Part}

/-- All that entry to SAFE tells before the engine's cause, pass by pass, on a part `v`, the entries of `es` ending. -/
def Part.entryTold (p : Part) (es : List Nat) (v : Part) : Part :=
  (List.range 32).foldl (fun t c => t.holdTold (p.channel c) c)
    (es.foldl (fun t e => t.endTold (p.entry e) e)
      ((List.range 128).foldl (fun t e => t.releaseTold (p.entry e) e)
        ((List.range 8).foldl (fun t g => if (p.group g).armed.isSome then t.raise (.group g) else t)
          ((List.range 128).foldl (fun t e => t.waitTold (p.entry e) e) (v.raise .guard)))))

/-- A pass of steps that are told of by what their part is told of. -/
theorem foldl_told {g : Part → Nat → Part} (h : ∀ v n, (g v n).told = g v.told n) (ns : List Nat) (v : Part) :
    (ns.foldl g v).told = ns.foldl g v.told := by
  induction ns generalizing v with
  | nil => rfl
  | cons n ns ih => rw [List.foldl_cons, ih, h, List.foldl_cons]

theorem entryTold_told (p : Part) (es : List Nat) (v : Part) : (p.entryTold es v).told = p.entryTold es v.told := by
  unfold Part.entryTold
  rw [foldl_told fun t c => ?_, foldl_told fun t e => endTold_told _ _ _, foldl_told fun t e => releaseTold_told _ _ _,
    foldl_told fun t g => ?_, foldl_told fun t e => waitTold_told _ _ _, raise_told]
  · split
    · exact raise_told ..
    · rfl
  · unfold Part.holdTold
    split
    · rfl
    · exact raise_told ..

theorem safeRaised_of_tells (h : p.engine.tellsHold) : p.safeRaised = (p.entryTold p.endsInSafe p).raise .engine := if_pos h

theorem safeRaised_of_not (h : ¬p.engine.tellsHold) : p.safeRaised = p.entryTold p.endsInSafe p := if_neg h

end

end Sys2Proof.Machine
end

section
/-! SUPPORT. Entry to SAFE as the certificate describes it, clause by clause (R157). -/

namespace Sys2Proof.Machine

open Sys2Proof

/-! ### What entry to SAFE leaves alone -/

/-- The part without what entry to SAFE may write. -/
def Part.frame (p : Part) : Part :=
  { p with
    safe := none, channels := [], engine := Engine.atReset, slots := [], groups := [], entries := [], claims := Claims.atReset
    log := ErrorLog.atReset, link := { p.link with notices := [] }
    matrix := { p.matrix with lines := [], terminations := [] } }

/-- A part put together of its frame and of what entry to SAFE may write. -/
theorem eq_of_frame {p q : Part} (h : q.frame = p.frame) : q = { p with
    safe := q.safe, entries := q.entries, groups := q.groups, channels := q.channels, engine := q.engine
    slots := q.slots, claims := q.claims, log := q.log, link := { p.link with notices := q.link.notices }
    matrix := { p.matrix with lines := q.matrix.lines, terminations := q.matrix.terminations } } := by
  have hput (f : Part) (hf : q.frame = f) : q = { f with
      safe := q.safe, entries := q.entries, groups := q.groups, channels := q.channels, engine := q.engine
      slots := q.slots, claims := q.claims, log := q.log, link := { f.link with notices := q.link.notices }
      matrix := { f.matrix with lines := q.matrix.lines, terminations := q.matrix.terminations } } := by
    subst hf
    rfl
  exact hput p.frame h

theorem raise_frame (src : NoticeSource) (p : Part) : (p.raise src).frame = p.frame := by
  unfold Part.raise
  split_ifs <;> rfl

theorem frame_of_beside {p q : Part} (h : p.Beside q) : q.frame = p.frame := by
  have hframe (v : Part) : v.frame = { v.outer with
      safe := none, engine := Engine.atReset, link := { v.outer.link with notices := [] }, damage := v.damage } := rfl
  rw [hframe q, hframe p, h.outer, h.damage]

section
variable {cause : SafeCause} {p : Part}

theorem safeSettled_beside (cause : SafeCause) (p : Part) : (p.intoSafe cause).Beside (p.safeSettled cause) := by
  have hends : 128 ∉ p.safeEnds := fun h => absurd ((mem_safeEnds 128).mp h).1 (by omega)
  exact ((safeUnwaiting_beside _).trans (letGo_sameAt (e := 128) (by simp) _).beside).trans (endings_sameAt hends _).beside

/-- The part with its channels held, before the engine. -/
def Part.safeHeld (cause : SafeCause) (p : Part) : Part := (p.safeSettled cause).channelsHeld (List.range 32)

theorem enterSafe_held (cause : SafeCause) (hentries : p.entries.length = 128) (hgroups : p.groups.length = 8) :
    p.enterSafe cause = (p.safeHeld cause).engineHeld := enterSafe_eq cause hentries hgroups

/-- What the channels and the engine do not touch is as the entries' passes leave it. -/
theorem held_keeps {β : Type} (read : Part → β) (hset : ∀ c x q, read (Part.setChannel c x q) = read q)
    (hengine : ∀ e (q : Part), read { q with engine := e } = read q) (hraise : ∀ src q, read (Part.raise src q) = read q) :
    read (p.safeHeld cause).engineHeld = read (p.safeSettled cause) :=
  (engineHeld_keeps read hengine hraise _).trans (channelsHeld_keeps read hset hraise _ _)

theorem held_entries : (p.safeHeld cause).engineHeld.entries = (p.safeSettled cause).entries :=
  held_keeps Part.entries (by simp) (fun _ _ => rfl) (by simp)

theorem held_matrix : (p.safeHeld cause).engineHeld.matrix = (p.safeSettled cause).matrix :=
  held_keeps Part.matrix (by simp) (fun _ _ => rfl) (by simp)

theorem held_frame : (p.safeHeld cause).engineHeld.frame = p.frame := by
  refine (held_keeps Part.frame (fun _ _ _ => rfl) (fun _ _ => rfl) raise_frame).trans ?_
  rw [frame_of_beside (safeSettled_beside cause p)]
  exact intoSafe_keeps Part.frame (fun _ _ => rfl) raise_frame cause p

theorem held_safe : (p.safeHeld cause).engineHeld.safe = some { cause := cause, time := p.clock.rigTime } := by
  refine (held_keeps Part.safe (by simp) (fun _ _ => rfl) (by simp)).trans ?_
  rw [safe_of_beside (safeSettled_beside cause p), intoSafe_safe]

/-! ### Entries and groups -/

/-- An entry of the part is one of those it reads by number. -/
theorem exists_entry {x : Entry} (h : x ∈ p.entries) : ∃ e, x = p.entry e := by
  obtain ⟨e, he, rfl⟩ := List.getElem_of_mem h
  exact ⟨e, by simp [Part.entry, List.getD_eq_getElem?_getD, he]⟩

theorem held_unarmed (hlen : p.entries.length = 128) (hgroups : p.groups.length = 8) :
    ∀ x ∈ (p.safeHeld cause).engineHeld.entries, x.state ≠ .armed := by
  rw [held_entries]
  intro x hx
  obtain ⟨e, rfl⟩ := exists_entry hx
  exact ((safeLetGo_leads cause hlen hgroups).2.entries e).unarmed

theorem held_waitless (hlen : p.entries.length = 128) (hsound : p.EntriesSound) :
    ∀ x ∈ (p.safeHeld cause).engineHeld.entries, x.state ≠ .blocked ∧ x.state ≠ .inserting ∧
      (x.electrical?.isSome = true → x.state ≠ .active) := by
  rw [held_entries]
  intro x hx
  obtain ⟨e, rfl⟩ := exists_entry hx
  exact safeSettled_waitless hlen hsound e

theorem held_group (hgroups : p.groups.length = 8) (g : Nat) :
    (p.safeHeld cause).engineHeld.group g = { p.group g with armed := none } := by
  have hheld : (p.safeHeld cause).engineHeld.groups = (p.safeSettled cause).groups :=
    held_keeps Part.groups (by simp) (fun _ _ => rfl) (by simp)
  have hends : (p.safeSettled cause).groups = (p.intoSafe cause).safeLetGo.groups :=
    foldl_keeps Part.groups (f := fun v e => v.ending e) (fun v e => (touches_ending e v).aside.groups) _ _
  have hlet : (p.intoSafe cause).safeLetGo.groups = (p.intoSafe cause).safeUnwaiting.groups :=
    letGo_keeps Part.groups (fun e v => (touches_safeInserted e v).aside.groups) _ _
  rw [Part.group, hheld, hends, hlet]
  have hinto : (p.intoSafe cause).groups = p.groups := by rw [intoSafe_eq]
  have hgroup := safeUnwaiting_group (p := p.intoSafe cause) (by rw [hinto]; exact hgroups) g
  rw [Part.group, Part.group, hinto] at hgroup
  exact hgroup

/-! ### Channels -/

theorem held_channel (hlen : p.entries.length = 128) (hchannels : p.channels.length = 32) {c : Nat} (hc : c < 32) :
    (p.safeHeld cause).engineHeld.channel c =
      { (if (p.channel c).state = .off then p.channel c else (p.channel c).safeHeld (p.pinOf c (p.channel c))) with
        modifier := (p.channel c).modifier.filter fun m => !(List.range 128).any fun e => (p.entry e).takesOff e c m } := by
  have hsettled := safeSettled_channel (cause := cause) hlen (c := c) (by rw [hchannels]; exact hc)
  have hclock : (p.safeSettled cause).clock = p.clock := by
    rw [clock_of_beside (safeSettled_beside cause p), intoSafe_clock]
  have hpatterns : (p.safeSettled cause).patterns = p.patterns := by
    rw [patterns_of_outer (safeSettled_beside cause p).outer, intoSafe_eq]
  have hengine : (p.safeHeld cause).engineHeld.channels = (p.safeHeld cause).channels :=
    engineHeld_keeps Part.channels (fun _ _ => rfl) (by simp) _
  have hcount : c < (p.safeSettled cause).channels.length := by
    rw [(safeSettled_beside cause p).channels, intoSafe_eq]
    exact hchannels ▸ hc
  rw [Part.channel, hengine]
  refine (channelsHeld_channel List.nodup_range (List.mem_range.mpr hc) hcount).trans ?_
  rw [hsettled, pinOf_congr hclock hpatterns]
  by_cases hoff : (p.channel c).state = .off
  · rw [if_pos hoff, if_pos hoff]
  · rw [if_neg hoff, if_neg hoff]
    rfl

/-- The modifiers taken off, as the certificate says which. -/
theorem takesOff_iff (hsound : p.EntriesSound) (c : Nat) (m : Modifier) :
    ((List.range 128).any fun e => (p.entry e).takesOff e c m) =
      (p.endsInSafe.contains m.entry && decide ((p.entry m.entry).signal?.map Prod.fst = some c)) := by
  rw [Bool.eq_iff_iff, List.any_eq_true, Bool.and_eq_true, List.contains_iff_mem, ← safeEnds_eq hsound, mem_safeEnds,
    decide_eq_true_eq]
  constructor
  · rintro ⟨e, he, htakes⟩
    simp only [Entry.takesOff, Bool.and_eq_true, decide_eq_true_eq] at htakes
    obtain ⟨⟨hends, rfl⟩, hchannel⟩ := htakes
    exact ⟨⟨List.mem_range.mp he, .inr (signalEnds_iff.mp hends)⟩, hchannel⟩
  · rintro ⟨⟨he, hends⟩, hchannel⟩
    have hsignal : (p.entry m.entry).signalEnds = true := by
      refine signalEnds_iff.mpr ?_
      rcases hends with ⟨d, hd, -⟩ | hends
      · obtain ⟨⟨k, f⟩, hf⟩ : ∃ x, (p.entry m.entry).signal? = some x := by
          cases hf : (p.entry m.entry).signal? with
          | none => rw [hf] at hchannel; cases hchannel
          | some x => exact ⟨x, rfl⟩
        rw [not_electrical_of_signal hf] at hd
        cases hd
      · exact hends
    exact ⟨m.entry, List.mem_range.mpr he, by simp [Entry.takesOff, hsignal, hchannel]⟩

/-! ### Engine, notices and log -/

theorem held_engine_before : (p.safeHeld cause).engine = p.engine ∧ (p.safeHeld cause).guard = p.guard := by
  have hbeside := safeSettled_beside cause p
  constructor
  · refine (channelsHeld_keeps Part.engine (by simp) (by simp) _ _).trans ?_
    rw [engine_of_outer hbeside.outer, intoSafe_eq]
  · refine (channelsHeld_keeps Part.guard (by simp) (by simp) _ _).trans ?_
    rw [guard_of_outer hbeside.outer, intoSafe_eq]

theorem held_engine : (p.safeHeld cause).engineHeld.engine = p.engine.safeHold p.guard.safeRate := by
  rw [engineHeld_engine, held_engine_before.1, held_engine_before.2]

/-- What is told before the engine's cause. -/
theorem safeHeld_told (hlen : p.entries.length = 128) (hchannels : p.channels.length = 32) (hsound : p.EntriesSound) :
    (p.safeHeld cause).told = (p.entryTold p.endsInSafe p).told := by
  have hstate (c : Nat) (hc : c ∈ List.range 32) (t : Part) :
      t.holdTold ((p.safeSettled cause).channel c) c = t.holdTold (p.channel c) c := by
    rw [safeSettled_channel hlen (by rw [hchannels]; exact List.mem_range.mp hc)]
    rfl
  rw [entryTold_told, Part.safeHeld, channelsHeld_told, safeSettled_told hlen hsound, safeEnds_eq hsound]
  unfold Part.entryTold
  exact List.foldl_ext _ _ _ fun t c hc => hstate c hc t

theorem told_link (p : Part) : p.told.link = p.link := rfl
theorem told_log (p : Part) : p.told.log = p.log := rfl

/-- What a cause makes of the link is decided by the link and the time. -/
theorem raise_link_congr {p q : Part} (hlink : q.link = p.link) (hclock : q.clock = p.clock) (src : NoticeSource) :
    (q.raise src).link = (p.raise src).link := by
  have hqueued : q.queued src = p.queued src := by rw [Part.queued, hlink, Part.queued]
  unfold Part.raise
  rw [hqueued, hlink, hclock]
  split_ifs
  · exact hlink
  · rfl
  · rfl

/-- Notices and log once the engine is held, from what was told before. -/
theorem engineHeld_tells {q x : Part} (h : q.told = x.told) :
    (q.engine.tellsHold → q.engineHeld.link = (x.raise .engine).link ∧ q.engineHeld.log = (x.raise .engine).log) ∧
    (¬q.engine.tellsHold → q.engineHeld.link = x.link ∧ q.engineHeld.log = x.log) := by
  have hlog : q.log = x.log := by rw [← told_log, h, told_log]
  have hlink : q.link = x.link := by rw [← told_link, h, told_link]
  have hclock : q.clock = x.clock := (congrArg Part.clock h :)
  refine ⟨fun htells => ?_, fun hnot => ?_⟩
  · rw [engineHeld_of_tells htells, raise_log, raise_log]
    exact ⟨raise_link_congr (q := { q with engine := q.engine.safeHold q.guard.safeRate }) hlink hclock .engine, hlog⟩
  · rw [engineHeld_of_not hnot]
    exact ⟨hlink, hlog⟩

theorem held_raised (hlen : p.entries.length = 128) (hchannels : p.channels.length = 32) (hsound : p.EntriesSound) :
    (p.safeHeld cause).engineHeld.link = p.safeRaised.link ∧ (p.safeHeld cause).engineHeld.log = p.safeRaised.log := by
  obtain ⟨hyes, hno⟩ := engineHeld_tells (safeHeld_told (cause := cause) hlen hchannels hsound)
  rw [held_engine_before.1] at hyes hno
  by_cases h : p.engine.tellsHold
  · rw [safeRaised_of_tells h]
    exact hyes h
  · rw [safeRaised_of_not h]
    exact hno h

/-! ### The whole (R157) -/

/-- RELEASED counted for some entries in turn, on the slots alone. -/
theorem counted_slots (es : List Nat) (p : Part) :
    (es.foldl (fun v e => v.counted (.entry e .released)) p).slots =
      es.foldl (fun ss e => ss.map (EventSlot.seen (.entry e .released) p.stamp)) p.slots := by
  induction es generalizing p with
  | nil => rfl
  | cons e es ih => exact ih (p.counted (.entry e .released))

/-- Entry to SAFE does what the certificate says. -/
theorem enterSafe_enteredSafe (cause : SafeCause) (hchannels : p.channels.length = 32) (hlen : p.entries.length = 128)
    (hgroups : p.groups.length = 8) : EnteredSafe cause p (p.enterSafe cause) := by
  rw [enterSafe_held cause hlen hgroups]
  have hchannel := fun c (hc : c < 32) => held_channel (cause := cause) hlen hchannels hc
  exact
    { safe := held_safe
      unarmed := held_unarmed hlen hgroups
      waitless := held_waitless hlen
      entries := fun hsound e he => safeEntry_of_settled hlen hsound he held_entries (congrArg Matrix.lines held_matrix)
      groups := fun g _ => held_group hgroups g
      off := fun c hc hoff => by rw [hchannel c hc, if_pos hoff]
      held := fun c hc hoff => by
        rw [hchannel c hc, if_neg hoff]
        rfl
      modifiers := fun hsound c hc => by
        rw [hchannel c hc]
        simp only [takesOff_iff hsound]
      fixed := fun h => by rw [held_engine, safeHold_fixed h]
      track := fun h => by rw [held_engine, safeHold_track h]
      follow := fun h => by rw [held_engine, safeHold_follow h]
      raised := held_raised hlen hchannels
      slots := fun hsound hslots => by
        rw [held_keeps Part.slots (by simp) (fun _ _ => rfl) (by simp), safeSettled_slots hslots, safeEnds_eq hsound, counted_slots]
      claims := fun hsound => by
        rw [held_keeps Part.claims (by simp) (fun _ _ => rfl) (by simp), safeSettled_claims hlen, safeEnds_eq hsound]
        rfl
      lines := fun hsound l h => by
        rw [line_of_lines (congrArg Matrix.lines held_matrix)]
        exact safeSettled_line hlen h
      terminations := fun hsound => by
        rw [held_matrix, safeSettled_terminations, safeEnds_eq hsound]
        rfl
      rest := eq_of_frame held_frame }

end

end Sys2Proof.Machine
end

section
/-! SUPPORT. The guard's expiry, and SAFE entered and left by request (R156, R157, R159). -/

namespace Sys2Proof.Machine

open Sys2Proof

/-! ### GUARD_EXPIRY (R156) -/

theorem exec_guardExpiry (s : State) :
    exec .guardExpiry s = .next (s.withPart (if s.part.expiryDue then s.part.expire else s.part)) := rfl

theorem expiryDue_iff {n : Nat} {p : Part} (h : p.guard.period = some n) :
    p.expiryDue = decide (p.guard.expiresAt ≤ p.clock.ticks) := by
  rw [Part.expiryDue, h]
  rfl

/-- A guard whose window expires: the expiry counted and the window begun again. -/
def Guard.expired (now n : Nat) (g : Guard) : Guard :=
  { g with expiryCount := min (g.expiryCount + 1) 65535, windowStart := now, deadline := now + n * 1000
           expiresAt := now + n * 1000 }

/-- The part as its window expires: the guard notices it. -/
def Part.windowExpired (n : Nat) (p : Part) : Part :=
  ({ p with guard := p.guard.expired p.clock.ticks n } : Part).raise .guard

theorem expire_eq {n : Nat} {p : Part} (h : p.guard.period = some n) :
    p.expire = if p.inSafe then p.windowExpired n else ((p.windowExpired n).enterSafe .expiry).logExpiry := by
  have hguard : Guard.restart p.now { p.guard with expiryCount := bump Config.max16 p.guard.expiryCount } =
      p.guard.expired p.clock.ticks n := by
    unfold Guard.restart
    simp only [h]
    rw [Guard.expired, h]
    rfl
  rw [Part.windowExpired, ← hguard]
  rfl

/-- Settles O13: with the deadline behind it the window expires, and in NORMAL the part enters SAFE. -/
theorem guardExpires : Obligations.GuardExpires := by
  refine ⟨fun s h => ?_, fun n s h => ?_⟩
  · rw [exec_guardExpiry, Part.expiryDue, h]
    rfl
  intro p now q
  refine ⟨fun hlt => ?_, fun hle hsafe => ?_, fun hle hsafe hchannels hentries hgroups => ?_⟩
  · rw [exec_guardExpiry, expiryDue_iff h, decide_eq_false (Nat.not_le.mpr hlt)]
    rfl
  · have hin : s.part.inSafe = true := hsafe
    rw [exec_guardExpiry, expiryDue_iff h, decide_eq_true hle, if_pos rfl, expire_eq h, if_pos hin]
    rfl
  · have hnot : ¬s.part.inSafe = true := by
      rw [Part.inSafe, hsafe]
      exact Bool.false_ne_true
    have hentered : EnteredSafe .expiry q (q.enterSafe .expiry) := by
      refine enterSafe_enteredSafe .expiry ?_ ?_ ?_
      · rw [raise_channels]; exact hchannels
      · rw [raise_entries]; exact hentries
      · rw [raise_groups]; exact hgroups
    have hperiod : (q.enterSafe .expiry).guard.period = some n := by
      have hguard : (q.enterSafe .expiry).guard = q.guard := by rw [hentered.rest]
      rw [hguard, raise_guard]
      exact h
    refine ⟨q.enterSafe .expiry, ?_, hentered⟩
    rw [exec_guardExpiry, expiryDue_iff h, decide_eq_true hle, if_pos rfl, expire_eq h, if_neg hnot]
    show Host.Outcome.next (s.withPart (q.enterSafe .expiry).logExpiry) = _
    rw [Part.logExpiry, hperiod]
    rfl

/-! ### SAFE_ENTER (R157) -/

/-- SAFE_ENTER's part of O14. -/
theorem safeEntered : Claims.SafeEntered := by
  intro tag s ht htag p
  have hexec : exec (.safeEnter tag) s =
      .next (s.replied (if p.inSafe then p else p.enterSafe .request) tag (.ack .empty)) := request_verdict ht htag _
  refine ⟨fun hsafe => ?_, fun hsafe hchannels hentries hgroups => ?_⟩
  · have hin : p.inSafe = true := hsafe
    rw [hexec, if_pos hin]
  · have hnot : ¬p.inSafe = true := by
      rw [Part.inSafe, hsafe]
      exact Bool.false_ne_true
    rw [hexec, if_neg hnot]
    exact ⟨_, rfl, enterSafe_enteredSafe .request hchannels hentries hgroups⟩

/-! ### SAFE_LEAVE (R159) -/

section
variable {c : Nat} {p : Part}

theorem freeChannel_channels (c : Nat) (p : Part) : (p.freeChannel c).channels =
    if (p.channel c).state = .held then
      p.channels.set c { p.channel c with state := .idle, pin := p.pinOf c (p.channel c) }
    else p.channels := by
  unfold Part.freeChannel
  split
  · rw [enterState_channels, pinOf_of_state (by rw [‹(p.channel c).state = .held›]; exact ChState.noConfusion)
      ChState.noConfusion]
  · rfl

/-- What neither a channel written nor its cause raised changes, freeing a channel keeps. -/
theorem freeChannel_keeps {β : Type} (read : Part → β) (hset : ∀ x q, read (Part.setChannel c x q) = read q)
    (hraise : ∀ q, read (Part.raise (.channel c) q) = read q) (p : Part) : read (p.freeChannel c) = read p := by
  unfold Part.freeChannel Part.enterState
  simp only
  split
  · split
    · exact hset _ p
    · exact (hraise _).trans (hset _ p)
  · rfl

/-- The channels of some numbers freed. -/
def Part.channelsFreed (cs : List Nat) (p : Part) : Part := cs.foldl (fun v c => v.freeChannel c) p

theorem channelsFreed_keeps {β : Type} (read : Part → β) (hset : ∀ c x q, read (Part.setChannel c x q) = read q)
    (hraise : ∀ src q, read (Part.raise src q) = read q) (cs : List Nat) (p : Part) : read (p.channelsFreed cs) = read p :=
  foldl_keeps read (f := fun v c => v.freeChannel c) (fun v c => freeChannel_keeps read (hset c) (hraise _) v) cs p

theorem freeChannel_sameChannel {k : Nat} (hck : c ≠ k) (p : Part) : p.SameChannel c (p.freeChannel k) where
  clock := freeChannel_keeps Part.clock (by simp) (by simp) p
  patterns := freeChannel_keeps Part.patterns (by simp) (by simp) p
  count := freeChannel_keeps (fun v => v.channels.length) (by simp) (by simp) p
  channel := by
    rw [Part.channel, freeChannel_channels]
    split
    · exact channel_setChannel_ne hck _ p
    · rfl

theorem channelsFreed_channel {cs : List Nat} (hcs : cs.Nodup) (hc : c ∈ cs) (hlt : c < p.channels.length) :
    (p.channelsFreed cs).channel c =
      if (p.channel c).state = .held then { p.channel c with state := .idle, pin := p.pinOf c (p.channel c) }
      else p.channel c := by
  obtain ⟨v, hv, hlast⟩ := foldl_split (R := Part.SameChannel) (step := fun v c => v.freeChannel c) .refl .trans
    (fun v k j hj => freeChannel_sameChannel hj v) hcs hc p
  rw [Part.channelsFreed, hlast.channel, Part.channel, freeChannel_channels, hv.channel, pinOf_congr hv.clock hv.patterns]
  split
  · exact channel_setChannel c _ v (by rw [hv.count]; exact hlt)
  · exact hv.channel

/-- The causes of HELD channels that are freed, in channel order. -/
def Part.freesTold (p : Part) (cs : List Nat) (v : Part) : Part :=
  cs.foldl (fun v c => if (p.channel c).state = .held then v.raise (.channel c) else v) v

theorem freesTold_told (p : Part) (cs : List Nat) (v : Part) : (p.freesTold cs v).told = p.freesTold cs v.told := by
  refine foldl_told (fun v c => ?_) cs v
  split
  · exact raise_told ..
  · rfl

theorem channelsFreed_told {cs : List Nat} (hcs : cs.Nodup) (p : Part) :
    (p.channelsFreed cs).told = p.freesTold cs p.told := by
  refine foldl_reads (R := Part.SameChannel) (step := fun v c => v.freeChannel c) .refl .trans
    (fun v k j hj => freeChannel_sameChannel hj v) Part.told
    (g := fun t c => if (p.channel c).state = .held then t.raise (.channel c) else t) hcs fun c _ v hv => ?_
  unfold Part.freeChannel Part.enterState
  simp only
  rw [hv.channel]
  split
  · rename_i hheld
    rw [hheld, if_neg (by exact ChState.noConfusion), raise_told]
    rfl
  · rfl

end

/-- The part without what leaving SAFE may write. -/
def Part.leavingFrame (p : Part) : Part :=
  { p with safe := none, channels := [], guard := Guard.atReset, link := { p.link with notices := [] } }

theorem raise_leavingFrame (src : NoticeSource) (p : Part) : (p.raise src).leavingFrame = p.leavingFrame := by
  unfold Part.raise
  split_ifs <;> rfl

/-- A part put together of what leaving SAFE keeps and of what it writes. -/
theorem eq_of_leavingFrame {p q : Part} (h : q.leavingFrame = p.leavingFrame) :
    q = { p with safe := q.safe, channels := q.channels, guard := q.guard, link := q.link } := by
  have hput (f : Part) (hf : q.leavingFrame = f) :
      q = { f with safe := q.safe, channels := q.channels, guard := q.guard, link := q.link } := by
    subst hf
    rfl
  exact hput p.leavingFrame h

theorem anyReleasing_iff (p : Part) : p.anyReleasing = true ↔ ∃ e ∈ p.entries, e.state = .releasing := by
  simp only [Part.anyReleasing, List.any_eq_true, decide_eq_true_eq]

theorem restart_of_on {g : Guard} {n : Nat} (h : g.period = some n) (now : Nat) : g.restart now =
    { g with windowStart := now, deadline := now + n * 1000, expiresAt := now + n * 1000 } := by
  unfold Guard.restart
  rw [h]

theorem restart_of_off {g : Guard} (h : g.period = none) (now : Nat) : g.restart now = g := by
  unfold Guard.restart
  rw [h]

/-- The guard's window begun again, with its notice. -/
def Part.guardRestarted (p : Part) : Part := ({ p with guard := p.guard.restart p.now } : Part).raise .guard

section
variable {p q : Part}

theorem guardRestarted_safe : p.guardRestarted.safe = p.safe := raise_safe ..

theorem guardRestarted_channel (c : Nat) : p.guardRestarted.channel c = p.channel c := by
  rw [Part.channel, Part.guardRestarted, raise_channels]
  rfl

theorem guardRestarted_guard : p.guardRestarted.guard = p.guard.restart p.clock.ticks := raise_guard ..

theorem guardRestarted_link_of_told (h : p.told = q.told) : p.guardRestarted.link = (q.raise .guard).link := by
  have hlink : p.link = q.link := by rw [← told_link, h, told_link]
  have hclock : p.clock = q.clock := (congrArg Part.clock h :)
  exact raise_link_congr (q := { p with guard := p.guard.restart p.now }) hlink hclock .guard

theorem guardRestarted_leavingFrame : p.guardRestarted.leavingFrame = p.leavingFrame := raise_leavingFrame ..

end

section
variable {p : Part}

/-- The channels freed on the way out of SAFE. -/
def Part.safeFreed (p : Part) : Part := ({ p with safe := none } : Part).channelsFreed (List.range 32)

theorem safeFreed_keeps {β : Type} (read : Part → β) (hsafe : read { p with safe := none } = read p)
    (hset : ∀ c x q, read (Part.setChannel c x q) = read q) (hraise : ∀ src q, read (Part.raise src q) = read q) :
    read p.safeFreed = read p :=
  (channelsFreed_keeps read hset hraise _ _).trans hsafe

theorem safeFreed_safe : p.safeFreed.safe = none := channelsFreed_keeps Part.safe (by simp) (by simp) ..

theorem safeFreed_channel {c : Nat} (hc : c < 32) (hlen : p.channels.length = 32) : p.safeFreed.channel c =
    if (p.channel c).state = .held then { p.channel c with state := .idle, pin := p.pinOf c (p.channel c) }
    else p.channel c := by
  have hlt : c < p.channels.length := by omega
  exact channelsFreed_channel (p := { p with safe := none }) List.nodup_range (List.mem_range.mpr hc) hlt

theorem safeFreed_told : p.safeFreed.told = (p.freesTold (List.range 32) p).told := by
  rw [Part.safeFreed, channelsFreed_told List.nodup_range, freesTold_told]
  rfl

theorem leaveSafe_eq : p.leaveSafe = p.safeFreed.guardRestarted := rfl

theorem leaveSafe_safe : p.leaveSafe.safe = none := by
  rw [leaveSafe_eq, guardRestarted_safe, safeFreed_safe]

theorem leaveSafe_channel {c : Nat} (hc : c < 32) (hlen : p.channels.length = 32) : p.leaveSafe.channel c =
    if (p.channel c).state = .held then { p.channel c with state := .idle, pin := p.pinOf c (p.channel c) }
    else p.channel c := by
  rw [leaveSafe_eq, guardRestarted_channel, safeFreed_channel hc hlen]

theorem leaveSafe_guard : p.leaveSafe.guard = p.guard.restart p.clock.ticks := by
  rw [leaveSafe_eq, guardRestarted_guard, safeFreed_keeps Part.guard rfl (by simp) (by simp),
    safeFreed_keeps Part.clock rfl (by simp) (by simp)]

theorem leaveSafe_link : p.leaveSafe.link = ((p.freesTold (List.range 32) p).raise .guard).link := by
  rw [leaveSafe_eq, guardRestarted_link_of_told safeFreed_told]

theorem leaveSafe_leavingFrame : p.leaveSafe.leavingFrame = p.leavingFrame := by
  rw [leaveSafe_eq, guardRestarted_leavingFrame]
  exact safeFreed_keeps Part.leavingFrame rfl (fun _ _ _ => rfl) raise_leavingFrame

end

/-- SAFE_LEAVE's part of O14. -/
theorem safeLeft : Claims.SafeLeft := by
  intro tag s ht htag p
  have hexec : exec (.safeLeave tag) s = .next ((if p.inSafe then
      checked [(p.anyReleasing, refusal .busy)] (.ack .empty p.leaveSafe) else .ack .empty p).after s p tag) :=
    request_verdict ht htag _
  refine ⟨fun hsafe => ?_, fun hsafe hreleasing => ?_, fun hsafe hnot hlen => ?_⟩
  · have hin : ¬p.inSafe = true := by
      rw [Part.inSafe, hsafe]
      exact Bool.false_ne_true
    rw [hexec, if_neg hin, after_ack]
  · have hin : p.inSafe = true := hsafe
    rw [hexec, if_pos hin, after_checked_cons, if_pos ((anyReleasing_iff p).mpr hreleasing)]
    rfl
  · have hin : p.inSafe = true := hsafe
    have hnone : ¬p.anyReleasing = true := by
      rw [anyReleasing_iff]
      exact fun ⟨e, he, hstate⟩ => hnot e he hstate
    refine ⟨p.leaveSafe, ?_, leaveSafe_safe, fun c hc => leaveSafe_channel hc hlen, fun n hn => ?_, fun hoff => ?_, ?_⟩
    · rw [hexec, if_pos hin, after_checked_cons, if_neg hnone, checked_nil, after_ack]
    · rw [leaveSafe_guard, restart_of_on hn]
    · rw [leaveSafe_guard, restart_of_off hoff]
    · have hrest := eq_of_leavingFrame (leaveSafe_leavingFrame (p := p))
      rwa [leaveSafe_safe, leaveSafe_link] at hrest

/-- Settles O14: SAFE entered and left by request. -/
theorem safeEnteredAndLeft : Obligations.SafeEnteredAndLeft := ⟨safeEntered, safeLeft⟩

end Sys2Proof.Machine
end

section
/-! SUPPORT. What a render takes and shows, when play is due on a channel, and what stands on its pin, in plain terms (R22, R25,
R30 to R36, R40 to R43, R54 to R57). -/

namespace Sys2Proof.Machine

open Sys2Proof

/-! ### Play due (R25, R54, R56, R57) -/

theorem playing_eq_some {ch : Channel} {pl : Play} {r : Segment} :
    ch.playing = some (pl, r) ↔
      ch.play = some pl ∧ ∃ slot, ch.queue[pl.place]? = some { slot := slot, content := .segment r } := by
  unfold Channel.playing
  constructor
  · intro h
    obtain ⟨pl', hpl, h⟩ := Option.bind_eq_some_iff.mp h
    obtain ⟨⟨slot, content⟩, hq, h⟩ := Option.bind_eq_some_iff.mp h
    cases content with
    | segment r' =>
      obtain ⟨rfl, rfl⟩ : pl' = pl ∧ r' = r := by simpa using h
      exact ⟨hpl, slot, hq⟩
    | loop k r' left broken => simp at h
  · rintro ⟨hpl, slot, hq⟩
    simp [hpl, hq]

theorem reachedLength_iff (now : Nat) (pl : Play) (r : Segment) :
    reachedLength now pl r = true ↔
      match r.basis with
      | .time => pl.startTick + r.length ≤ now
      | .angle => r.length * 65536 ≤ pl.travel := by
  unfold reachedLength
  cases r.basis <;> exact decide_eq_true_iff

/-- The model's test of play due is the one the statements spell. -/
theorem playWaits_iff (now : Nat) (ch : Channel) : ch.playWaits now = true ↔ ch.PlayDue now := by
  unfold Channel.playWaits Channel.PlayDue
  cases hs : ch.state with
  | running =>
    cases ha : ch.startAt with
    | some t => simp
    | none =>
      simp only [Option.any_eq_true, Prod.exists, playing_eq_some, reachedLength_iff]
      simp only [reduceCtorEq, false_and, exists_false, and_false, false_or, or_false, true_and]
      exact ⟨fun ⟨pl, r, ⟨hpl, slot, hq⟩, h⟩ => ⟨pl, slot, r, hpl, hq, h⟩,
        fun ⟨pl, slot, r, hpl, hq, h⟩ => ⟨pl, r, ⟨hpl, slot, hq⟩, h⟩⟩
  | starved => simp [Option.any_eq_true]
  | _ => simp

theorem playWaits_of_not {now : Nat} {ch : Channel} (h : ¬ch.PlayDue now) : ch.playWaits now = false :=
  Bool.eq_false_iff.mpr (mt (playWaits_iff now ch).mp h)

/-! ### What a render takes and shows (R30, R40 to R42) -/

/-- A render takes the modifier held, STUCK with its value (R40, R41). -/
theorem take_eq_taken (last : Nat × Nat) (ch : Channel) :
    ch.take last = { ch with modifier := takenModifier ch.modifier last, applied := takenModifier ch.modifier last } := by
  rw [takenModifier_eq]
  rfl

/-- A value shown is the base value through the modifier taken (R30, R41, R42). -/
theorem show_eq_shown (base : Nat) (ch : Channel) :
    ch.show base = { ch with base := base, output := shownValue ch.applied base ch.output ch.top } := by
  unfold Channel.show
  cases ch.applied with
  | none => rfl
  | some m =>
    obtain ⟨_, fault, stuck⟩ := m
    cases fault <;> cases stuck <;> rfl

/-- What is shown through a modifier as a render takes it is what it shows, STUCK with the value it takes. -/
theorem shownValue_taken (m : Option Modifier) (base v f last top : Nat) :
    shownValue (takenModifier m (v, f)) base last top = shownValue m base v top := by
  cases m with
  | none => rfl
  | some m =>
    obtain ⟨_, fault, stuck⟩ := m
    cases fault <;> cases stuck <;> rfl

theorem shownFrequency_taken (m : Option Modifier) (present v f last : Nat) :
    shownFrequency (takenModifier m (v, f)) present last = shownFrequency m present f := by
  cases m with
  | none => rfl
  | some m =>
    obtain ⟨_, fault, stuck⟩ := m
    cases fault <;> cases stuck <;> rfl

theorem shownValue_none (base last top : Nat) : shownValue none base last top = min base top := rfl

theorem top_of_kind {ch : Channel} {k : Kind} (h : ch.kind = some k) : ch.top = k.top := by rw [Channel.top, h]; rfl

/-- With no modifier taken, a base value within the range is what shows. -/
theorem show_of_unmodified {base : Nat} {ch : Channel} (ha : ch.applied = none) (hb : base ≤ ch.top) :
    ch.show base = { ch with base := base, output := base } := by
  rw [show_eq_shown, ha, shownValue_none, Nat.min_eq_left hb]

theorem dacCode_eq (n : Nat) : dacCode n = (n * 65535 + 6000) / 12000 := roundHalfUp_eq _ _

/-! ### Periods (R33 to R36) -/

theorem pwmShow_eq {ch : Channel} (h : ch.kind = some .pwm) (now start : Nat) :
    ch.pwmShow now start =
      let d := shownValue ch.applied (ch.baseNow now) ch.output 10000
      let f := shownFrequency ch.applied (ch.frequency.getD 0) (ch.frequency.getD 0)
      let len := (800000000 + f) / (2 * f)
      { ch with
        base := ch.baseNow now, output := d
        period := some { frequency := f, duty := d, length := len, high := (2 * (len * d) + 10000) / 20000, start := start } } := by
  unfold Channel.pwmShow
  rw [show_eq_shown, top_of_kind h]
  cases ch.applied with
  | none => rfl
  | some m =>
    obtain ⟨_, fault, stuck⟩ := m
    cases fault <;> cases stuck <;> rfl

theorem pulseFrom_eq (start : Nat) (ch : Channel) :
    ch.pulseFrom start = { ch with
      period := if ch.output = 0 then none
        else some { frequency := ch.output, duty := 0, length := (800000000 + ch.output) / (2 * ch.output)
                    high := min ((ch.config.bind ChConfig.pulseWidth).getD 0 * 40)
                      ((800000000 + ch.output) / (2 * ch.output) / 2)
                    start := start } } := by
  unfold Channel.pulseFrom
  split <;> rfl

theorem pulseShow_eq {ch : Channel} (h : ch.kind = some .pulse) (now start : Nat) :
    ch.pulseShow now start =
      let f := shownValue ch.applied (ch.baseNow now) ch.output 200000
      { ch with
        base := ch.baseNow now, output := f
        period := if f = 0 then none
          else some { frequency := f, duty := 0, length := (800000000 + f) / (2 * f)
                      high := min ((ch.config.bind ChConfig.pulseWidth).getD 0 * 40) ((800000000 + f) / (2 * f) / 2)
                      start := start } } := by
  rw [Channel.pulseShow, pulseFrom_eq, show_eq_shown, top_of_kind h]
  rfl

/-! ### WHEEL channels (R25, R38) -/

/-- A WHEEL channel not RUNNING from an angle shows its park value. -/
theorem wheelRender_of_parked {ch : Channel} (h : ch.state ≠ .running ∨ ch.startAt.isSome = true) (pt : Option Pattern)
    (angle : Nat) : ch.wheelRender pt angle = ch.show ch.park := by
  have hparked : (decide (ch.state = .running) && ch.startAt.isNone) = false := by
    rcases h with h | h
    · simp [h]
    · obtain ⟨t, h⟩ := Option.isSome_iff_exists.mp h
      simp [h]
  unfold Channel.wheelRender
  rw [hparked]
  rfl

/-- A WHEEL channel's render writes its base value and its output alone. -/
theorem wheelRender_frame (pt : Option Pattern) (angle : Nat) (ch : Channel) : ch.wheelRender pt angle =
    { ch with base := (ch.wheelRender pt angle).base, output := (ch.wheelRender pt angle).output } := by
  unfold Channel.wheelRender
  simp only [show_eq_shown]
  split
  · split <;> rfl
  · rfl

/-! ### Pins (R22) -/

theorem pinOf_level {ch : Channel} (hs : ch.state ≠ .off) (hk : ch.kind = some .level) (c : Nat) (p : Part) :
    p.pinOf c ch = ch.dac := by
  unfold Part.pinOf
  rw [hk]
  split <;> simp_all

theorem pinOf_speed {ch : Channel} (hk : ch.kind = some .speed) (c : Nat) (p : Part) : p.pinOf c ch = 0 := by
  unfold Part.pinOf
  rw [hk]
  split <;> simp_all

theorem pinOf_wheel {ch : Channel} (hs : ch.state ≠ .off) (hk : ch.kind = some .wheel) (c : Nat) (p : Part) :
    p.pinOf c ch = ch.twoState c (decide (ch.output = 1) == ((p.patternOf ch).map Pattern.toothHigh).getD true) := by
  unfold Part.pinOf
  rw [hk]
  split <;> simp_all

/-- A tooth shows at the pin as its pattern's polarity has it, and so does what is between teeth (R38). -/
theorem polarity_eq (pt : Pattern) (output : Nat) : (decide (output = 1) == ((some pt).map Pattern.toothHigh).getD true) =
    if output = 1 then pt.toothHigh else !pt.toothHigh := by
  split <;> simp [*]

theorem pinOf_resting {ch : Channel} (hs : ch.state ≠ .off) (hk : ch.kind = some .pulse) (hp : ch.period = none) (c : Nat)
    (p : Part) : p.pinOf c ch = ch.twoState c false := by
  unfold Part.pinOf
  rw [hk, hp]
  split <;> simp_all

theorem twoState_eq (c : Nat) (high : Bool) (ch : Channel) :
    ch.twoState c high =
      if c < 16 then
        (if high then ((ch.config.bind ChConfig.highLevel).getD 0 * 65535 + 6000) / 12000
          else ((ch.config.bind ChConfig.lowLevel).getD 0 * 65535 + 6000) / 12000)
      else if high then 1 else 0 := by
  have hlevel : (ch.config.bind fun cfg => if high then cfg.highLevel else cfg.lowLevel) =
      if high then ch.config.bind ChConfig.highLevel else ch.config.bind ChConfig.lowLevel := by
    cases high <;> rfl
  rw [Channel.twoState, dacCode_eq, hlevel]
  cases high <;> simp [Config.bankA]

end Sys2Proof.Machine
end

section
/-! SUPPORT. CHANNEL_GET, CHANNEL_START and CHANNEL_STOP, each by its checks and its effect (R25, R26, R44). -/

namespace Sys2Proof.Machine

open Sys2Proof

/-! ### CHANNEL_GET (R44) -/

/-- A channel the part does not have reads as OFF, so one in another state is in the table. -/
theorem channel_lt {c : Nat} {p : Part} (h : (p.channel c).state ≠ .off) : c < p.channels.length := by
  by_contra hc
  exact h (by simp [Part.channel, List.getD_eq_getElem?_getD, hc, Channel.atReset])

theorem lowMark_eq (ch : Channel) : ch.lowMark = (ch.config.bind ChConfig.lowWater).getD 0 := by
  unfold Channel.lowMark
  cases ch.config <;> rfl

/-- The model's channel snapshot is the one R44 lists. -/
theorem channelSnapshot_eq (c : Nat) (p : Part) : p.channelSnapshot c = p.channelShown c := by
  have helapsed (now : Nat) (pl : Play) (r : Segment) :
      elapsedOf now pl r = if r.basis = .time then now - pl.startTick else pl.travel / 65536 := by
    unfold elapsedOf
    cases r.basis <;> rfl
  have hlow (ch : Channel) : ch.lowWaterLow =
      decide ((ch.config.bind ChConfig.lowWater).getD 0 ≠ 0 ∧ (ch.state = .running ∨ ch.state = .starved) ∧
        ch.pending ≤ (ch.config.bind ChConfig.lowWater).getD 0) := by
    rw [Channel.lowWaterLow, lowMark_eq, Bool.eq_iff_iff]
    simp [and_assoc]
  unfold Part.channelSnapshot Channel.position
  simp only [helapsed, hlow]
  rfl

/-- Settles O26. -/
theorem channelRead : Obligations.ChannelRead := by
  intro tag c s ht htag p
  refine (request_verdict ht htag _).trans (congrArg Host.Outcome.next ?_)
  simp only [after_checked_cons, checked_nil, after_ack, outside_eq_true, Nat.not_lt_zero, false_or, channelSnapshot_eq]
  rfl

/-! ### Entering a state (R45) -/

/-- A cause writes the link alone. -/
theorem raise_eq_link (src : NoticeSource) (p : Part) : p.raise src = { p with link := (p.raise src).link } := by
  unfold Part.raise
  split_ifs <;> rfl

/-- A cause does not look at the channels. -/
theorem raise_setChannel (src : NoticeSource) (c : Nat) (x : Channel) (p : Part) :
    (p.setChannel c x).raise src = (p.raise src).setChannel c x := by
  have hqueued : (p.setChannel c x).queued src = p.queued src := rfl
  unfold Part.raise
  rw [hqueued, setChannel_link]
  split_ifs <;> rfl

/-- A channel that enters a state it is not in raises its notice. -/
theorem enterState_of_ne {c : Nat} {st : ChState} {p : Part} (h : (p.channel c).state ≠ st) (ch : Channel) :
    p.enterState c st ch = (p.putChannel c { ch with state := st }).raise (.channel c) := if_neg h

/-- What is read at a place of the table after that channel is put there. -/
theorem channel_putChannel {c : Nat} {p : Part} (h : c < p.channels.length) (ch : Channel) :
    (p.putChannel c ch).channel c = { ch with pin := p.pinOf c ch } := channel_setChannel c _ p h

theorem channel_putChannel_ne {c k : Nat} (h : k ≠ c) (ch : Channel) (p : Part) :
    (p.putChannel c ch).channel k = p.channel k := channel_setChannel_ne h _ p

theorem channel_of_channels {p q : Part} (h : q.channels = p.channels) (c : Nat) : q.channel c = p.channel c := by
  rw [Part.channel, h, Part.channel]

/-- A channel entering a state stands in it. -/
theorem enterState_state {c : Nat} {p : Part} (h : c < p.channels.length) (st : ChState) (ch : Channel) :
    ((p.enterState c st ch).channel c).state = st := by
  rw [Part.channel, enterState_channels]
  simp [List.getD_eq_getElem?_getD, h]

/-! ### CHANNEL_START (R25) -/

/-- CHANNEL_START's part of O24. -/
theorem channelStarted : Claims.ChannelStarted := by
  intro tag c s ht htag p ch no
  refine (request_verdict ht htag _).trans (congrArg Host.Outcome.next ?_)
  simp only [after_checked_cons, checked_nil, after_ack, outside_eq_true, decide_eq_true_eq, Nat.not_lt_zero, false_or]
  refine ite_congr rfl (fun _ => rfl) fun _ => ite_congr rfl (fun _ => rfl) fun _ => ite_congr rfl (fun _ => rfl) fun hoff =>
    ite_congr rfl (fun _ => rfl) fun hidle => ?_
  have hlt : c < p.channels.length := channel_lt hoff
  have hstate : ch.state = .idle := not_not.mp hidle
  have hprimed : (p.channel c).state ≠ .primed := by rw [show (p.channel c).state = .idle from hstate]; decide
  have hrunning : (p.channel c).state ≠ .running := by rw [show (p.channel c).state = .idle from hstate]; decide
  unfold Part.startChannel
  split
  · rw [if_pos ‹_›, enterState_state hlt, enterState_of_ne hprimed]
  · rw [if_neg ‹_›, enterState_state hlt, enterState_of_ne hrunning]
    rfl

end Sys2Proof.Machine
end

section
/-! SUPPORT. An occurrence that nothing waits for, and a signal fault that ends with nothing BLOCKED (R74, R139, R143, R144). -/

namespace Sys2Proof.Machine

open Sys2Proof

/-! ### An occurrence that nothing waits for (R74) -/

section
variable {o : Occurrence} {p q : Part}

/-- Whether anything waits on an occurrence is read from the entries, the groups and the slots' sources alone. -/
theorem Part.Unwaited.of_eq (h : p.Unwaited o) (he : q.entries = p.entries)
    (hg : ∀ g c w, (q.group g).armed = some (c, w) → (p.group g).armed = some (c, w))
    (hs : ∀ n, (q.slot n).source = (p.slot n).source) : q.Unwaited o := by
  intro n hn hmatch
  obtain ⟨hentries, hgroups⟩ := h n hn (hs n ▸ hmatch)
  refine ⟨fun e hlt t => ?_, fun g hlt c t => fun harmed => hgroups g hlt c t (hg g c _ harmed)⟩
  rw [entry_of_entries he]
  exact hentries e hlt t

theorem countAll_source (o : Occurrence) (ss : List Nat) (p : Part) (n : Nat) :
    ((ss.foldl (fun v s => v.countOn o s) p).slot n).source = (p.slot n).source := by
  refine foldl_keeps (fun v => (v.slot n).source) (fun v s => ?_) ss p
  unfold Part.countOn Part.slot Part.setSlot
  rcases Nat.lt_or_ge s v.slots.length with h | h
  · simp only [getD_set_of_lt h]
    split
    · rw [‹n = s›]
    · rfl
  · simp only [List.set_eq_of_length_le h]

theorem counted_source (o : Occurrence) (p : Part) (n : Nat) : ((p.counted o).slot n).source = (p.slot n).source := by
  have hseen (x : EventSlot) : (x.seen o p.stamp).source = x.source := by
    unfold EventSlot.seen
    split <;> rfl
  simp only [Part.counted, Part.slot, List.getD_eq_getElem?_getD, List.getElem?_map]
  cases p.slots[n]? with
  | none => rfl
  | some x => exact hseen x

/-- A count on slots that no form and no watch names meets nothing. -/
theorem metTasks_of_unwaited (h : p.Unwaited o) : p.metTasks (p.matching o) none = [] := by
  have hmem {n : Nat} (hn : n ∈ p.matching o) : n < 16 ∧ (p.slot n).source.matchesOcc o = true := by
    simpa [Part.matching, Config.eventSlots] using hn
  have hmet {w : Waiting} (hw : ∀ n t, n ∈ p.matching o → w ≠ .event n t) : p.met (p.matching o) none w = none := by
    unfold Part.met
    cases w with
    | event n t =>
      have hno : (p.matching o).contains n = false := Bool.eq_false_iff.mpr fun hc => hw n t (List.contains_iff_mem.mp hc) rfl
      simp only [hno, Bool.false_and, Bool.false_eq_true, if_false]
    | _ => rfl
  unfold Part.metTasks
  rw [List.append_eq_nil_iff, List.append_eq_nil_iff]
  refine ⟨⟨List.filterMap_eq_nil_iff.mpr fun e he => ?_, List.filterMap_eq_nil_iff.mpr fun g hg => ?_⟩, ?_⟩
  · have hnone : p.entryMet (p.matching o) none e = none := by
      unfold Part.entryMet
      split
      · cases hw : (p.entry e).waiting with
        | none => rfl
        | some w =>
          refine hmet fun n t hn heq => ?_
          obtain ⟨hlt, hmatch⟩ := hmem hn
          exact ((h n hlt hmatch).1 e (List.mem_range.mp he) t).1 (hw.trans (congrArg some heq))
      · rfl
    rw [hnone]
    rfl
  · cases ha : (p.group g).armed with
    | none => rfl
    | some a =>
      obtain ⟨c, w⟩ := a
      have hnone : p.met (p.matching o) none w = none := by
        refine hmet fun n t hn heq => ?_
        obtain ⟨hlt, hmatch⟩ := hmem hn
        exact (h n hlt hmatch).2 g (List.mem_range.mp hg) c t (heq ▸ ha)
      simp [hnone]
  · rw [List.map_eq_nil_iff, List.filter_eq_nil_iff]
    intro e he hwatch
    simp only [Bool.and_eq_true] at hwatch
    obtain ⟨⟨-, hwatched⟩, hslot⟩ := hwatch
    split at hslot
    · obtain ⟨hlt, hmatch⟩ := hmem (List.contains_iff_mem.mp hslot)
      exact absurd hwatched (Bool.eq_false_iff.mp ((h _ hlt hmatch).1 e (List.mem_range.mp he) 0).2)
    · cases hslot

/-- An occurrence that nothing waits for leaves no work. -/
theorem occur_of_unwaited (h : p.Unwaited o) : (p.occur o).2 = [] := by
  have hslots := countAll_eq o (p.matching o) p
  have hunwaited : ((p.matching o).foldl (fun v s => v.countOn o s) p).Unwaited o :=
    h.of_eq (by rw [hslots]) (fun g c w hw => by rw [hslots] at hw; exact hw) (countAll_source o _ p)
  have hmatching : ((p.matching o).foldl (fun v s => v.countOn o s) p).matching o = p.matching o := by
    unfold Part.matching
    simp only [countAll_source]
  have hmet := metTasks_of_unwaited hunwaited
  rw [hmatching] at hmet
  exact hmet

/-- An occurrence begins no watch but that of an entry become ACTIVE (R140). -/
theorem occur_eq_counted (h : p.slots.length = 16) (ho : ∀ e, o ≠ .entry e .active) : (p.occur o).1 = p.counted o := by
  have hfold : (p.matching o).foldl (fun v s => v.countOn o s) p = p.counted o :=
    foldl_slots (f := fun st x => { x with count := (x.count + 1) % 4294967296, last := some (st, o.origin) })
      (fun _ _ => rfl) (fun x => x.source.matchesOcc o) h
  show ((p.matching o).foldl (fun v s => v.countOn o s) p).watchFrom o = _
  rw [hfold]
  unfold Part.watchFrom
  split
  · exact absurd rfl (ho _)
  · rfl

/-- The whole of an occurrence that nothing waits for: it is counted. -/
theorem leads_occur (h : p.Unwaited o) (hlen : p.slots.length = 16) (ho : ∀ e, o ≠ .entry e .active) :
    Leads 1 [.occur o] p (p.counted o) := by
  refine .task rfl ?_
  show Leads 0 (p.occur o).2 (p.occur o).1 _
  rw [occur_of_unwaited h, occur_eq_counted hlen ho]
  exact .nil _

end

/-! ### A signal ended with nothing BLOCKED (R139, R143, R144) -/

theorem arbiterPass_of_none {p : Part} (h : ∀ k, (p.entry k).state ≠ .blocked) (back : List Nat) : p.arbiterPass back = [] := by
  unfold Part.arbiterPass Part.blockedSet
  rw [List.foldl_fixed' fun e => ?_]
  · rfl
  · split
    · exact absurd ‹_› (h e)
    · rfl

/-- The state an ended occurrence leaves its entry in where no repeat is left to arm it (R144). -/
def EndCause.settles : EndCause → EntryState
  | .completed => .done
  | .disarmed => .loaded
  | _ => .aborted

theorem settledState_of_last {cause : EndCause} {n : Nat} (h : cause = .completed → n = 0) (hm : cause ≠ .missed) (safe : Bool) :
    settledState cause n safe = (cause.settles, if cause = .disarmed then n else 0) := by
  cases cause with
  | completed => rw [h rfl]; rfl
  | missed => exact absurd rfl hm
  | _ => rfl

/-- An entry whose last occurrence has ended with a cause (R144). -/
def Entry.lastEnded (time : Nat) (cause : EndCause) (x : Entry) : Entry :=
  x.ended cause.settles none (if cause = .disarmed then x.repeatsRemaining else 0) time cause

section
variable {e c : Nat} {f : SigFault} {cause : EndCause} {p : Part}

/-- An occurrence that ends with no repeat left settles its entry and leaves no work (R144). -/
theorem finish_of_last (hc : (p.entry e).endCause = some cause) (hd : (p.entry e).definition ≠ none)
    (hlast : cause = .completed → (p.entry e).repeatsRemaining = 0) (hm : cause ≠ .missed) :
    p.finish e = (p.enterEntry e cause.settles ((p.entry e).lastEnded p.clock.rigTime cause), []) := by
  obtain ⟨d, hd⟩ := Option.ne_none_iff_exists'.mp hd
  have harmed : cause.settles ≠ .armed := by cases cause <;> decide
  unfold Part.finish
  simp only [hc, hd, settledState_of_last hlast hm, if_neg harmed, if_neg hm]
  simp only [Entry.lastEnded, Entry.ended, hd]
  rfl

theorem signalOff_eq (e c : Nat) (f : SigFault) (p : Part) : p.signalOff e c f =
    { p.setChannel c ((p.channel c).unmodified e) with claims := p.claims.giveBack e (.signal c f) } := by
  rw [Part.signalOff, dropModifier_eq]

/-- A part with a signal taken off its channel, its RELEASED counted and its entry settled. -/
def Part.signalSettled (e c : Nat) (f : SigFault) (cause : EndCause) (p : Part) : Part :=
  ((p.signalOff e c f).counted (.entry e .released)).enterEntry e cause.settles ((p.entry e).lastEnded p.clock.rigTime cause)

/-- A signal's end where nothing is BLOCKED and nothing waits for RELEASED. -/
theorem leads_endSignal (hc : (p.entry e).endCause = some cause) (hd : (p.entry e).definition ≠ none)
    (hlast : cause = .completed → (p.entry e).repeatsRemaining = 0) (hm : cause ≠ .missed)
    (hslots : p.slots.length = 16) (hblocked : ∀ k, (p.entry k).state ≠ .blocked) (hu : p.Unwaited (.entry e .released)) :
    Leads 2 (p.endSignal e c f).2 (p.endSignal e c f).1 (p.signalSettled e c f cause) := by
  have hentry (k : Nat) : (p.signalOff e c f).entry k = p.entry k := entry_of_entries (signalOff_entries e c f p) k
  have hu' : (p.signalOff e c f).Unwaited (.entry e .released) := by
    rw [signalOff_eq]
    exact hu
  have hsettled : ((p.signalOff e c f).counted (.entry e .released)).finish e = (p.signalSettled e c f cause, []) := by
    unfold Part.signalSettled
    rw [signalOff_eq]
    exact finish_of_last hc hd hlast hm
  rw [endSignal_eq, arbiterPass_of_none fun k => by rw [hentry]; exact hblocked k]
  refine (leads_occur hu' (by rw [signalOff_eq]; exact hslots) fun _ => by simp).append
    (.task (n := 0) (t := .finish e) rfl ?_)
  show Leads 0 (Part.finish e _).2 (Part.finish e _).1 _
  rw [hsettled]
  exact .nil _

theorem signalSettled_entries : (p.signalSettled e c f cause).entries =
    p.entries.set e ((p.entry e).lastEnded p.clock.rigTime cause) := by
  rw [Part.signalSettled, enterEntry_entries, signalOff_eq]
  rfl

/-- What a cause and the entries are no part of, settling leaves as the signal's end does. -/
theorem signalSettled_keeps {β : Type} (read : Part → β) (hset : ∀ x q, read (Part.setEntry e x q) = read q)
    (hraise : ∀ q, read (Part.raise (.entry e) q) = read q) :
    read (p.signalSettled e c f cause) = read ((p.signalOff e c f).counted (.entry e .released)) := by
  unfold Part.signalSettled Part.enterEntry
  simp only
  split
  · exact hset _ _
  · exact (hraise _).trans (hset _ _)

/-- What is read of a channel once an entry's modifier has been dropped. -/
theorem dropModifier_channel (e c k : Nat) (p : Part) : (p.dropModifier e c).channel k =
    if k = c ∧ (p.channel k).modifier.map Modifier.entry = some e then { p.channel k with modifier := none } else p.channel k := by
  have hiff : ((p.channel c).modifier.any fun m => decide (m.entry = e)) = true ↔
      (p.channel c).modifier.map Modifier.entry = some e := by
    cases (p.channel c).modifier <;> simp
  unfold Part.dropModifier
  rcases eq_or_ne k c with rfl | hk
  · by_cases hany : ((p.channel k).modifier.any fun m => decide (m.entry = e)) = true
    · have hlt : k < p.channels.length := by
        by_contra hge
        have hreset : p.channel k = Channel.atReset := by simp [Part.channel, List.getD_eq_getElem?_getD, hge]
        rw [hreset] at hany
        cases hany
      rw [if_pos hany, if_pos ⟨rfl, hiff.mp hany⟩, channel_setChannel k _ p hlt]
    · rw [if_neg hany, if_neg fun h => hany (hiff.mpr h.2)]
  · rw [if_neg (fun h : k = c ∧ _ => hk h.1)]
    split
    · exact channel_setChannel_ne hk _ p
    · rfl

/-- An ACTIVE signal that ends, as `SignalEnded` describes it. -/
theorem endActive_signalEnded (hsig : (p.entry e).signal? = some (c, f)) (hstate : (p.entry e).state = .active)
    (hnone : (p.entry e).endCause = none) : p.SignalEnded e c cause (settleAll (p, [.endActive e cause])) := by
  intro hlast hm hlen hslots hblocked hu
  obtain ⟨d, hd, hcls⟩ : ∃ d, (p.entry e).definition = some d ∧ d.cls = .signal c f := by
    unfold Entry.signal? at hsig
    obtain ⟨d, hd, hcls⟩ := Option.bind_eq_some_iff.mp hsig
    refine ⟨d, hd, ?_⟩
    split at hcls
    · cases hcls
    · cases hcls
      assumption
  have he : e < p.entries.length := entry_lt (by simp [hd])
  let r := p.setEntry e { p.entry e with endCause := some cause }
  have hrecord : p.recordCause e cause = r := by rw [recordCause_eq, hnone]; rfl
  have hend : p.endActive e cause = r.endSignal e c f := by
    unfold Part.endActive
    simp only [hstate, hnone, hd, Option.map_some, hcls, hrecord]
  have hentry : r.entry e = { p.entry e with endCause := some cause } := entry_setEntry e _ p he
  have hother {k : Nat} (hk : k ≠ e) : r.entry k = p.entry k := entry_setEntry_ne hk _ p
  have hblocked' (k : Nat) : (r.entry k).state ≠ .blocked := by
    rcases eq_or_ne k e with rfl | hk
    · rw [hentry, hstate]; decide
    · rw [hother hk]
      rcases Nat.lt_or_ge k 128 with hlt | hge
      · exact hblocked k hlt
      · rw [entry_of_le (hlen ▸ hge)]; decide
  have hu' : r.Unwaited (.entry e .released) := by
    intro n hn hmatch
    refine ⟨fun k hk t => ?_, (hu n hn hmatch).2⟩
    have hwait := (hu n hn hmatch).1 k hk t
    rcases eq_or_ne k e with rfl | hne
    · rwa [hentry]
    · rwa [hother hne]
  have hsettle : settleAll (p, [.endActive e cause]) = r.signalSettled e c f cause := by
    refine settleAll_of_leads (n := 2 + 1) (.task rfl ?_) (by decide)
    show Leads 2 (p.endActive e cause).2 (p.endActive e cause).1 _
    rw [hend]
    exact leads_endSignal (by rw [hentry]) (by rw [hentry]; simp [hd]) (by rw [hentry]; exact hlast) hm hslots hblocked' hu'
  rw [hsettle]
  have hkeeps {β : Type} (read : Part → β) := signalSettled_keeps (e := e) (c := c) (f := f) (cause := cause) (p := r) read
  have hset : (r.setChannel c ((r.channel c).unmodified e)).entries.length = p.entries.length := List.length_set ..
  refine ⟨?_, fun k hk => (entry_of_set_ne signalSettled_entries hk).trans (hother hk), fun k => ?_, ?_, ?_, ?_, ?_, ?_⟩
  · rw [entry_of_set signalSettled_entries (by rwa [← hset] at he), hentry]
    cases cause <;> rfl
  · rw [hkeeps (fun v => v.channel k) (fun _ _ => rfl) (fun _ => by simp [Part.channel]), signalOff_eq]
    exact (congrArg (fun v : Part => v.channel k) (dropModifier_eq e c r)).symm.trans (dropModifier_channel e c k r)
  · rw [hkeeps Part.claims (fun _ _ => rfl) (fun _ => raise_claims ..), signalOff_eq]
    rfl
  · rw [hkeeps Part.slots (fun _ _ => rfl) (fun _ => raise_slots ..), signalOff_eq]
    rfl
  · rw [hkeeps Part.matrix (fun _ _ => rfl) (fun _ => raise_matrix ..), signalOff_eq]
    rfl
  · rw [hkeeps Part.log (fun _ _ => rfl) (fun _ => raise_log ..), signalOff_eq]
    rfl
  · rw [hkeeps Part.engine (fun _ _ => rfl) (fun _ => raise_engine ..), signalOff_eq]
    rfl

end

end Sys2Proof.Machine
end

section
/-! SUPPORT. CHANNEL_STOP, CHANNEL_DISABLE and CHANNEL_CONFIG, each by its checks and its effect (R23, R24, R26, R27). -/

namespace Sys2Proof.Machine

open Sys2Proof

/-! ### CHANNEL_STOP and CHANNEL_DISABLE (R26, R27) -/

/-- CHANNEL_DISABLE's effect: the channel is as after a reset, and the entry that has its modifier on it ends. -/
theorem disableChannel_eq {c : Nat} {p : Part} (h : (p.channel c).state ≠ .off) : p.disableChannel c =
    match (p.channel c).modifier with
    | none => (p.putChannel c Channel.atReset).raise (.channel c)
    | some m => settleAll ((p.putChannel c Channel.atReset).raise (.channel c), [.endActive m.entry .noTarget]) := by
  unfold Part.disableChannel
  rw [if_neg h, enterState_of_ne h]
  cases (p.channel c).modifier with
  | none => exact settleAll_nil _
  | some m => rfl

/-- CHANNEL_STOP's and CHANNEL_DISABLE's part of O24. -/
theorem channelStopped : Claims.ChannelStopped := by
  constructor
  · intro tag c s ht htag p ch no q
    refine (request_verdict ht htag _).trans (congrArg Host.Outcome.next ?_)
    simp only [after_checked_cons, checked_nil, after_ack, outside_eq_true, decide_eq_true_eq, Nat.not_lt_zero, false_or]
    rfl
  · intro tag c s ht htag p ch q
    have hexec : exec (.channelDisable tag c) s = .next (
        if 31 < c then s.replied p tag (.refuse { code := .badField, field := 1, position := 0, named := none })
        else s.replied (p.disableChannel c) tag (.ack (.channelDisable c ch.queue.length))) := by
      refine (request_verdict ht htag _).trans (congrArg Host.Outcome.next ?_)
      simp only [after_checked_cons, checked_nil, after_ack, outside_eq_true, Nat.not_lt_zero, false_or]
      rfl
    refine ⟨fun m k f hc hlen hon hm _ hstate hsig hnone => ?_, hexec.trans (congrArg Host.Outcome.next ?_)⟩
    · refine ⟨settleAll (q, [.endActive m.entry .noTarget]), ?_, endActive_signalEnded (f := f) ?_ ?_ ?_⟩
      · have hmod : (p.channel c).modifier = some m := hm
        rw [hexec, if_neg (Nat.not_lt.mpr hc), disableChannel_eq hon, hmod]
      · rwa [entry_of_entries (raise_entries ..)]
      · rwa [entry_of_entries (raise_entries ..)]
      · rwa [entry_of_entries (raise_entries ..)]
    · refine ite_congr rfl (fun _ => rfl) fun _ => ?_
      split
      · rw [Part.disableChannel, if_pos ‹_›]
      · exact congrArg (fun v => s.replied v tag (.ack (.channelDisable c ch.queue.length))) (disableChannel_eq ‹_›)

/-- Settles O24: CHANNEL_START, CHANNEL_STOP and CHANNEL_DISABLE. -/
theorem channelStartedAndStopped : Obligations.ChannelStartedAndStopped := ⟨channelStarted, channelStopped⟩

/-! ### CHANNEL_CONFIG's checks (R24) -/

/-- The code of a channel kind (10.8). -/
def Kind.code : Kind → Nat
  | .level => 0
  | .pwm => 1
  | .pulse => 2
  | .wheel => 3
  | .speed => 4

theorem parseKind_code (k : Kind) : parseKind k.code = some k := by cases k <;> rfl

theorem parseKind_of_gt {n : Nat} (h : 4 < n) : parseKind n = none := by
  obtain ⟨m, rfl⟩ := Nat.exists_eq_add_of_lt h
  simp [parseKind, show 4 + m + 1 = m + 5 by omega]

theorem usesLevels_iff (c : Nat) (k : Kind) : usesLevels c k = true ↔ c < 16 ∧ (k = .pwm ∨ k = .pulse ∨ k = .wheel) := by
  simp only [usesLevels, Bool.and_eq_true, Bool.or_eq_true, decide_eq_true_eq, or_assoc]
  rfl

theorem missingOr_iff (lo hi : Nat) (x : Option Nat) : missingOr lo hi x = true ↔ ∀ v, x = some v → v < lo ∨ hi < v := by
  cases x <;> simp [missingOr, outside_eq_true]

theorem outsideIf_iff (lo hi : Nat) (x : Option Nat) : outsideIf lo hi x = true ↔ ∃ v, x = some v ∧ (v < lo ∨ hi < v) := by
  cases x <;> simp [outsideIf, outside_eq_true]

/-- Whether R24's fourth check finds a field absent or out of its range, the fields numbered as 10.8 lists them. -/
def configBad (c : Nat) (k : Kind) (r : RawConfig) : Nat → Bool
  | 3 => outside 0 k.top r.parkValue
  | 4 => usesLevels c k && missingOr 0 12000 r.lowLevel
  | 5 => usesLevels c k && missingOr 0 12000 r.highLevel
  | 6 => k = .wheel && missingOr 0 7 r.pattern
  | 7 => k = .pulse && missingOr 1 10000 r.pulseWidth
  | 8 => k = .pwm && missingOr 10 200000 r.pwmFrequency
  | 9 => k ≠ .wheel && missingOr 0 4095 r.lowWater
  | 10 => outsideIf 0 7 r.startGroup
  | _ => false

/-- The fields of a configuration record, in R23's order. -/
def configFields : List Nat := [3, 4, 5, 6, 7, 8, 9, 10]

theorem configChecks_eq (c : Nat) (k : Kind) (r : RawConfig) :
    configChecks c k r = configFields.map fun i => (configBad c k r i, badField i) := rfl

theorem mem_configFields {c : Nat} {k : Kind} {r : RawConfig} {i : Nat} (h : configBad c k r i = true) : i ∈ configFields := by
  unfold configBad at h
  split at h
  case h_9 => cases h
  all_goals decide

/-- Of checks made field by field, the first that fails gives the refusal. -/
theorem checked_of_first {bad : Nat → Bool} {is : List Nat} (hsorted : is.Pairwise (· < ·)) {i : Nat} (hi : i ∈ is)
    (hbad : bad i = true) (hfirst : ∀ j < i, ¬bad j = true) (rest : List (Bool × Refused)) (a : Verdict) :
    checked ((is.map fun j => (bad j, badField j)) ++ rest) a = .refuse (badField i) := by
  induction is with
  | nil => cases hi
  | cons j js ih =>
    obtain ⟨hlt, hsorted'⟩ := List.pairwise_cons.mp hsorted
    rw [List.map_cons, List.cons_append, checked_cons]
    rcases List.mem_cons.mp hi with rfl | hmem
    · rw [if_pos hbad]
    · rw [if_neg (hfirst j (hlt i hmem)), ih hsorted' hmem]

/-- Checks none of which fails leave the verdict to the rest. -/
theorem checked_of_none {bad : Nat → Bool} {is : List Nat} (h : ∀ j, ¬bad j = true) (rest : List (Bool × Refused)) (a : Verdict) :
    checked ((is.map fun j => (bad j, badField j)) ++ rest) a = checked rest a := by
  induction is with
  | nil => rfl
  | cons j js ih => rw [List.map_cons, List.cons_append, checked_cons, if_neg (h j), ih]

/-- What CHANNEL_CONFIG judges by once its fields have passed: the channel's state, its queue and modifier, and the pattern. -/
def Part.configBusy (c : Nat) (k : Kind) (r : RawConfig) (p : Part) : List (Bool × Refused) :=
  [ (decide ((p.channel c).state ≠ .off ∧ (p.channel c).state ≠ .idle), refusal .busy),
    ((p.channel c).state = .idle && (p.channel c).kind ≠ some k &&
      (!(p.channel c).queue.isEmpty || (p.channel c).modifier.isSome), refusal .busy),
    (k = .wheel && ((r.pattern.bind p.pattern).isNone), refusal .notConfigured) ]

/-- What CHANNEL_CONFIG judges by once its channel's number has passed. -/
def Part.kindChecks (c : Nat) (r : RawConfig) (p : Part) : List (Bool × Refused) :=
  match parseKind r.kind with
  | none => [(true, badField 2)]
  | some k => (k = .level && decide (16 ≤ c), refusal .kindMismatch) ::
      (configChecks c k r ++ p.configBusy c k r)

theorem configureChecks_eq (c : Nat) (r : RawConfig) (p : Part) :
    p.configureChecks c r = (outside 0 31 c, badField 1) :: p.kindChecks c r := by
  unfold Part.configureChecks Part.kindChecks
  cases parseKind r.kind <;> rfl

theorem outside_31 (c : Nat) : outside 0 31 c = true ↔ 31 < c := by simp [outside_eq_true]

/-- CHANNEL_CONFIG of a kind that the bank takes is judged field by field and then by the channel. -/
theorem checked_config {c : Nat} {k : Kind} {r : RawConfig} (hc : c ≤ 31) (hk : r.kind = k.code)
    (hbank : ¬(k = .level ∧ 16 ≤ c)) (p : Part) (a : Verdict) : checked (p.configureChecks c r) a =
      checked ((configFields.map fun i => (configBad c k r i, badField i)) ++ p.configBusy c k r) a := by
  have htaken : ¬(decide (k = .level) && decide (16 ≤ c)) = true := by simpa using hbank
  rw [configureChecks_eq, checked_cons, if_neg (mt (outside_31 c).mp (Nat.not_lt.mpr hc)), Part.kindChecks, hk, parseKind_code]
  simp only
  rw [checked_cons, if_neg htaken, configChecks_eq]

/-- An OFF channel, or an IDLE one that keeps its kind or holds nothing, is judged by its pattern alone. -/
theorem checked_configBusy {c : Nat} {k : Kind} {p : Part} (h : (p.channel c).state = .off ∨ (p.channel c).state = .idle ∧
      ((p.channel c).kind = some k ∨ (p.channel c).queue = [] ∧ (p.channel c).modifier = none)) (r : RawConfig) (a : Verdict) :
    checked (p.configBusy c k r) a =
      if k = .wheel ∧ (r.pattern.bind p.pattern).isNone = true then .refuse (refusal .notConfigured) else a := by
  have hstate : ¬decide ((p.channel c).state ≠ .off ∧ (p.channel c).state ≠ .idle) = true := by
    rcases h with h | ⟨h, -⟩ <;> simp [h]
  have hkind : ¬((p.channel c).state = .idle && (p.channel c).kind ≠ some k &&
      (!(p.channel c).queue.isEmpty || (p.channel c).modifier.isSome)) = true := by
    rcases h with h | ⟨h, hk | ⟨hq, hm⟩⟩
    · simp [h]
    · simp [hk]
    · simp [hq, hm]
  rw [Part.configBusy, checked_cons, if_neg hstate, checked_cons, if_neg hkind, checked_cons, checked_nil]
  simp only [Bool.and_eq_true, decide_eq_true_eq]

theorem pairwise_configFields : configFields.Pairwise (· < ·) := by decide

/-- CHANNEL_CONFIG's refusals of O25. -/
theorem channelConfigRefused : Claims.ChannelConfigRefused := by
  intro tag c r s ht htag p ch run no lacks
  have hrun : run = .next ((checked (p.configureChecks c r) _).after s p tag) := request_verdict ht htag _
  refine ⟨fun hc => ?_, fun hc hk => ?_, fun hlo hc hk => ?_, fun k hc hk hbank => ?_⟩
  · rw [hrun, configureChecks_eq, after_checked_cons, if_pos ((outside_31 c).mpr hc)]
    rfl
  · rw [hrun, configureChecks_eq, after_checked_cons, if_neg (mt (outside_31 c).mp (Nat.not_lt.mpr hc)), Part.kindChecks,
      parseKind_of_gt hk]
    rfl
  · rw [hrun, configureChecks_eq, after_checked_cons, if_neg (mt (outside_31 c).mp (Nat.not_lt.mpr hc)), Part.kindChecks, hk]
    simp only [show parseKind 0 = some .level from rfl]
    rw [after_checked_cons, if_pos (by simpa using hlo)]
    rfl
  · intro two bad
    have hcode : r.kind = k.code := hk
    have hbad (i : Nat) : configBad c k r i = true ↔ bad i := by
      unfold configBad
      split
      case h_1 => cases k <;> simp [bad, outside_eq_true, Kind.top]
      all_goals simp [bad, two, lacks, usesLevels_iff, missingOr_iff, outsideIf_iff]
    rw [checked_config hc hcode hbank] at hrun
    refine ⟨fun i hi hfirst => ?_, fun hnone => ?_⟩
    · rw [hrun, checked_of_first pairwise_configFields (mem_configFields ((hbad i).mpr hi)) ((hbad i).mpr hi)
        fun j hj => mt (hbad j).mp (hfirst j hj)]
      rfl
    · rw [checked_of_none fun j => mt (hbad j).mp (hnone j)] at hrun
      refine ⟨fun hoff hidle => ?_, fun hidle hkind hheld => ?_, fun hready hwheel hno => ?_⟩
      · rw [hrun, Part.configBusy, after_checked_cons, if_pos (decide_eq_true ⟨hoff, hidle⟩)]
        rfl
      · have hstate : (p.channel c).state = .idle := hidle
        have hkind' : (p.channel c).kind ≠ some k := hkind
        rw [hrun, Part.configBusy, after_checked_cons, if_neg (by simp [hstate]), after_checked_cons,
          if_pos (by simpa [hstate, hkind', ← List.isEmpty_eq_false_iff] using hheld)]
        rfl
      · have hpattern : (r.pattern.bind p.pattern).isNone = true :=
          Option.isNone_iff_eq_none.mpr (Option.bind_eq_none_iff.mpr hno)
        rw [hrun, checked_configBusy hready, if_pos ⟨hwheel, hpattern⟩]
        rfl

/-! ### CHANNEL_CONFIG's effect (R24, R34, R36) -/

/-- The period that a channel shown at its park value begins on a tick (R34, R36). -/
def Channel.parkPeriod (now : Nat) (ch : Channel) : Option Period :=
  match ch.kind with
  | some .pwm =>
    let f := ch.frequency.getD 0
    let len := (800000000 + f) / (2 * f)
    some { frequency := f, duty := ch.park, length := len, high := (2 * (len * ch.park) + 10000) / 20000, start := now * 40 }
  | some .pulse =>
    if ch.park = 0 then none
    else
      let len := (800000000 + ch.park) / (2 * ch.park)
      some { frequency := ch.park, duty := 0, length := len
             high := min ((ch.config.bind ChConfig.pulseWidth).getD 0 * 40) (len / 2), start := now * 40 }
  | _ => none

section
variable {ch : Channel}

theorem parkPeriod_pwm (h : ch.kind = some .pwm) (now : Nat) : ch.parkPeriod now = some
    { frequency := ch.frequency.getD 0, duty := ch.park
      length := (800000000 + ch.frequency.getD 0) / (2 * ch.frequency.getD 0)
      high := (2 * ((800000000 + ch.frequency.getD 0) / (2 * ch.frequency.getD 0) * ch.park) + 10000) / 20000
      start := now * 40 } := by
  rw [Channel.parkPeriod, h]

theorem parkPeriod_pulse (h : ch.kind = some .pulse) (now : Nat) : ch.parkPeriod now =
    if ch.park = 0 then none
    else some
      { frequency := ch.park, duty := 0, length := (800000000 + ch.park) / (2 * ch.park)
        high := min ((ch.config.bind ChConfig.pulseWidth).getD 0 * 40) ((800000000 + ch.park) / (2 * ch.park) / 2)
        start := now * 40 } := by
  rw [Channel.parkPeriod, h]

theorem parkPeriod_none {k : Kind} (h : ch.kind = some k) (hpwm : k ≠ .pwm) (hpulse : k ≠ .pulse) (now : Nat) :
    ch.parkPeriod now = none := by
  rw [Channel.parkPeriod, h]
  cases k with
  | pwm => exact absurd rfl hpwm
  | pulse => exact absurd rfl hpulse
  | _ => rfl

end

/-- What a channel shown afresh at its park value keeps. -/
theorem shownAtPark_frame (now : Nat) (ch : Channel) : ch.shownAtPark now = { ch with
    base := (ch.shownAtPark now).base, output := (ch.shownAtPark now).output, dac := (ch.shownAtPark now).dac
    period := (ch.shownAtPark now).period, modifier := (ch.shownAtPark now).modifier
    applied := (ch.shownAtPark now).applied } := by
  unfold Channel.shownAtPark Channel.firstPeriod Channel.pwmPeriod Channel.pulsePeriod Channel.pwmShow Channel.pulseShow
  simp only [show_eq_shown, pulseFrom_eq, take_eq_taken]
  split <;> rfl

/-- A channel shown afresh with no modifier shows its park value. -/
theorem shownAtPark_eq {ch : Channel} (hs : ch.state = .idle ∨ ch.state = .held) (hm : ch.modifier = none) (hp : ch.park ≤ ch.top)
    (now : Nat) : ch.shownAtPark now =
      { ch with base := ch.park, output := ch.park, dac := ch.pin, applied := none, period := ch.parkPeriod now } := by
  have hbase {x : Channel} (hx : x.state = ch.state) (hpark : x.park = ch.park) : x.baseNow now = ch.park := by
    unfold Channel.baseNow
    rw [hx, ← hpark]
    rcases hs with hs | hs <;> rw [hs]
  unfold Channel.shownAtPark Channel.firstPeriod Channel.parkPeriod
  cases hk : ch.kind with
  | none =>
    have hk' : Option.map ChConfig.kind ch.config = none := hk
    simp only [Channel.kind, hk']
  | some k =>
    have hk' : Option.map ChConfig.kind ch.config = some k := hk
    rw [top_of_kind hk] at hp
    cases k with
    | pwm =>
      have hmin : min ch.park 10000 = ch.park := Nat.min_eq_left hp
      simp only [Channel.kind, hk', Channel.pwmPeriod, take_eq_taken, hm]
      rw [pwmShow_eq (by exact hk'), hbase (by exact rfl) (by exact rfl)]
      simp only [takenModifier, shownValue_none, hmin]
      rfl
    | pulse =>
      have hmin : min ch.park 200000 = ch.park := Nat.min_eq_left hp
      simp only [Channel.kind, hk', Channel.pulsePeriod, take_eq_taken, hm]
      rw [pulseShow_eq (by exact hk'), hbase (by exact rfl) (by exact rfl)]
      simp only [takenModifier, shownValue_none, hmin]
      rfl
    | _ => simp only [Channel.kind, hk']

/-- The state CHANNEL_CONFIG leaves a channel in (R24). -/
def Part.configState (c : Nat) (p : Part) : ChState :=
  if (p.channel c).state = .off then (if p.safe.isSome then .held else .idle) else .idle

theorem configState_ne_off (c : Nat) (p : Part) : p.configState c ≠ .off := by
  unfold Part.configState
  split_ifs <;> decide

/-- A channel as CHANNEL_CONFIG writes it, but for its pin. -/
def Part.configured (c : Nat) (cfg : ChConfig) (p : Part) : Channel :=
  let ch := { (p.channel c).withConfig cfg with state := p.configState c }
  if (p.channel c).state ≠ .off ∧ (p.channel c).kind = some cfg.kind then p.wheelAnew ch else ch.shownAtPark p.now

/-- What a WHEEL channel shown anew keeps. -/
theorem wheelAnew_frame (ch : Channel) (p : Part) :
    p.wheelAnew ch = { ch with base := (p.wheelAnew ch).base, output := (p.wheelAnew ch).output } := by
  unfold Part.wheelAnew
  split
  · exact wheelRender_frame ..
  · rfl

/-- What CHANNEL_CONFIG writes of the channel whatever it shows. -/
theorem configured_frame (c : Nat) (cfg : ChConfig) (p : Part) : p.configured c cfg =
    { (p.channel c).withConfig cfg with
      state := p.configState c
      base := (p.configured c cfg).base, output := (p.configured c cfg).output, dac := (p.configured c cfg).dac
      period := (p.configured c cfg).period, modifier := (p.configured c cfg).modifier
      applied := (p.configured c cfg).applied } := by
  unfold Part.configured
  simp only
  split
  · rw [wheelAnew_frame]
  · rw [shownAtPark_frame]

/-- CHANNEL_CONFIG writes the channel, and raises the notice of one that was OFF. -/
theorem configure_eq {c : Nat} {p : Part} (h : (p.channel c).state = .off ∨ (p.channel c).state = .idle) (cfg : ChConfig) :
    p.configure c cfg =
      if (p.channel c).state = .off then (p.putChannel c (p.configured c cfg)).raise (.channel c)
      else p.putChannel c (p.configured c cfg) := by
  have hself {x : Channel} {st : ChState} (hx : x.state = st) : ({ x with state := st } : Channel) = x := by rw [← hx]
  have hstate : (p.configured c cfg).state = p.configState c := by rw [configured_frame]
  unfold Part.configure
  simp only
  split
  · rename_i hoff
    have hentered : (p.channel c).state ≠ p.configState c := by
      rw [Part.configState, if_pos hoff, hoff]
      split <;> decide
    have hshown : p.configured c cfg =
        ({ (p.channel c).withConfig cfg with state := p.configState c } : Channel).shownAtPark p.now := if_neg fun h => h.1 hoff
    have hst : (if p.inSafe = true then ChState.held else .idle) = p.configState c := by
      rw [Part.configState, if_pos hoff]
      rfl
    rw [hst, enterState_of_ne hentered, ← hshown, hself hstate]
  · rename_i hon
    have hidle : p.configState c = .idle := if_neg hon
    have hwas : ({ (p.channel c).withConfig cfg with state := p.configState c } : Channel) = (p.channel c).withConfig cfg :=
      hself ((h.resolve_left hon).trans hidle.symm)
    unfold Part.configured
    rw [hwas]
    simp only [hon, ne_eq, not_false_eq_true, true_and]

/-- The park value a record that has passed R24's checks holds is within its kind's range. -/
theorem configured_park {c : Nat} {cfg : ChConfig} {p : Part} {k : Kind} (hk : cfg.kind = k) (hp : cfg.parkValue ≤ k.top)
    (hm : (p.channel c).modifier = none) (hs : (p.channel c).state = .off ∨ (p.channel c).kind ≠ some k) :
    p.configured c cfg =
      let ch := { (p.channel c).withConfig cfg with state := p.configState c }
      { ch with base := cfg.parkValue, output := cfg.parkValue, dac := ch.pin, applied := none
                period := ch.parkPeriod p.now } := by
  have hnew : ¬((p.channel c).state ≠ .off ∧ (p.channel c).kind = some cfg.kind) := by
    rintro ⟨hoff, hkind⟩
    exact hs.elim hoff fun h => h (hk ▸ hkind)
  have hstate : p.configState c = .idle ∨ p.configState c = .held := by
    unfold Part.configState
    split_ifs <;> simp
  have hpark : cfg.parkValue ≤ ({ (p.channel c).withConfig cfg with state := p.configState c } : Channel).top := by
    rw [top_of_kind (k := k) (by exact congrArg some hk)]
    exact hp
  unfold Part.configured
  rw [if_neg hnew]
  exact shownAtPark_eq (ch := { (p.channel c).withConfig cfg with state := p.configState c }) hstate hm hpark p.now

/-- A WHEEL channel that keeps its kind shows its park value anew. -/
theorem configured_wheel {c : Nat} {cfg : ChConfig} {p : Part} (hk : cfg.kind = .wheel) (hp : cfg.parkValue ≤ 1)
    (ha : (p.channel c).applied = none) (hidle : (p.channel c).state = .idle) (hkind : (p.channel c).kind = some .wheel) :
    p.configured c cfg =
      { (p.channel c).withConfig cfg with state := .idle, base := cfg.parkValue, output := cfg.parkValue } := by
  have hkept : (p.channel c).state ≠ .off ∧ (p.channel c).kind = some cfg.kind := ⟨by simp [hidle], hk ▸ hkind⟩
  have hstate : p.configState c = .idle := if_neg hkept.1
  have hwheel : ({ (p.channel c).withConfig cfg with state := .idle } : Channel).kind = some .wheel := congrArg some hk
  unfold Part.configured
  rw [if_pos hkept, hstate, Part.wheelAnew, if_pos hwheel, wheelRender_of_parked (.inl (by simp))]
  refine show_of_unmodified (base := cfg.parkValue) ha ?_
  rw [top_of_kind hwheel]
  exact hp

/-- CHANNEL_CONFIG's acceptance of O25. -/
theorem configAccepted : Claims.ConfigAccepted := by
  intro tag c k r s ht htag p ch two within hlen hc hk hbank hpark hlevels hpattern hwidth hfreq hlow hgroup hready
  have hcode : r.kind = k.code := hk
  have hpark' : r.parkValue ≤ k.top := by cases k <;> exact hpark
  have hinside {lo hi : Nat} {x : Option Nat} (hx : within lo hi x) : missingOr lo hi x = false := by
    obtain ⟨v, rfl, hlo, hhi⟩ := hx
    simp [missingOr, outside, hlo, hhi]
  have hwheel (h : k = .wheel) : within 0 7 r.pattern ∧ (r.pattern.bind p.pattern).isNone = false := by
    obtain ⟨n, hn, h7, hsome⟩ := hpattern h
    exact ⟨⟨n, hn, Nat.zero_le n, h7⟩, by simpa [hn, Option.isSome_iff_ne_none] using hsome⟩
  have hnone (i : Nat) : ¬configBad c k r i = true := by
    have hand {b : Bool} {lo hi : Nat} {x : Option Nat} (h : b = true → within lo hi x) : ¬(b && missingOr lo hi x) = true := by
      rw [Bool.and_eq_true]
      exact fun hb => Bool.false_ne_true ((hinside (h hb.1)).symm.trans hb.2)
    unfold configBad
    split
    case h_1 => simp [outside_eq_true, hpark']
    case h_2 => exact hand fun h => (hlevels ((usesLevels_iff c k).mp h)).1
    case h_3 => exact hand fun h => (hlevels ((usesLevels_iff c k).mp h)).2
    case h_4 => exact hand fun h => (hwheel (of_decide_eq_true h)).1
    case h_5 => exact hand fun h => hwidth (of_decide_eq_true h)
    case h_6 => exact hand fun h => hfreq (of_decide_eq_true h)
    case h_7 => exact hand fun h => hlow (of_decide_eq_true h)
    case h_8 =>
      rw [outsideIf_iff]
      rintro ⟨g, hg, h | h⟩
      · exact absurd h (Nat.not_lt_zero g)
      · exact absurd (hgroup g hg) (Nat.not_le.mpr h)
    case h_9 => exact Bool.false_ne_true
  let cfg := storedConfig c k r
  have hstate : (p.channel c).state = .off ∨ (p.channel c).state = .idle := hready.imp_right And.left
  have hlt : c < p.channels.length := by omega
  have hq := configure_eq hstate cfg
  have hchannels : (p.configure c cfg).channels = (p.putChannel c (p.configured c cfg)).channels := by
    rw [hq]
    split
    · exact raise_channels ..
    · rfl
  have hchannel : (p.configure c cfg).channel c =
      { p.configured c cfg with pin := p.pinOf c (p.configured c cfg) } :=
    (channel_of_channels hchannels c).trans (channel_putChannel hlt _)
  have hframe := configured_frame c cfg p
  have hnot : ¬(k = .wheel ∧ (r.pattern.bind p.pattern).isNone = true) :=
    fun h => Bool.false_ne_true ((hwheel h.1).2.symm.trans h.2)
  refine ⟨p.configure c cfg, cfg, ?_, rfl, rfl, rfl, fun h => ?_, fun h => if_pos h, fun h => if_pos h, fun h => if_pos h,
    fun h => if_neg h, ?_, ?_, ?_, ?_, ?_, fun hm hnew => ?_, fun hkind hidle => ?_, fun n pt hk hn hpt hplain => ?_, fun d hd => ?_, ?_⟩
  · refine (request_verdict ht htag _).trans (congrArg Host.Outcome.next ?_)
    simp only
    rw [checked_config hc hcode hbank, checked_of_none hnone, checked_configBusy hready, if_neg hnot, hcode, parseKind_code]
    have hconfig : ((p.configure c cfg).channel c).config = some cfg := by rw [hchannel, hframe]; rfl
    exact congrArg (fun x => s.replied (p.configure c cfg) tag
      (.ack (.channelConfig c ((p.configure c cfg).channel c).state x))) hconfig
  · have huses : usesLevels c k = true := (usesLevels_iff c k).mpr h
    exact ⟨if_pos huses, if_pos huses⟩
  · rw [hchannel, hframe]; rfl
  · rw [hchannel, hframe]; rfl
  · rw [hchannel, hframe]; rfl
  · rw [hchannel, hframe]; rfl
  · rw [hchannel, hframe]; rfl
  · have hshown := configured_park (cfg := cfg) rfl hpark' hm hnew
    rw [hchannel, hshown]
    refine ⟨rfl, rfl, rfl, fun hk f hf => ?_, fun hk w hw => ?_, fun hpwm hpulse => parkPeriod_none rfl hpwm hpulse _⟩
    · have hfrequency : cfg.pwmFrequency = some f := (if_pos hk).trans hf
      refine (parkPeriod_pwm (by exact congrArg some hk) _).trans ?_
      simp only [Channel.withConfig, hfrequency, Option.getD_some]
      rfl
    · have hpulse : cfg.pulseWidth = some w := (if_pos hk).trans hw
      refine (parkPeriod_pulse (by exact congrArg some hk) _).trans ?_
      simp only [Channel.withConfig, Option.bind_some, hpulse, Option.getD_some]
      rfl
  · have hkept : (p.channel c).state ≠ .off ∧ (p.channel c).kind = some cfg.kind :=
      ⟨fun h => ChState.noConfusion (hidle.symm.trans h), hkind⟩
    rw [hchannel, Part.configured, if_pos hkept, wheelAnew_frame]
    exact ⟨rfl, rfl, rfl⟩
  · have hpark1 : cfg.parkValue ≤ 1 := by
      have htop : k.top = 1 := by rw [hk]; rfl
      exact htop ▸ hpark'
    have hshown : (p.configured c cfg).base = r.parkValue ∧ (p.configured c cfg).output = r.parkValue := by
      have hafresh (hm : ch.modifier = none) (hnew : (p.channel c).state = .off ∨ (p.channel c).kind ≠ some k) :
          (p.configured c cfg).base = r.parkValue ∧ (p.configured c cfg).output = r.parkValue := by
        rw [configured_park (cfg := cfg) rfl hpark' hm hnew]
        exact ⟨rfl, rfl⟩
      rcases hplain with ⟨hoff, hm⟩ | ⟨hidle, ha⟩
      · exact hafresh hm (.inl hoff)
      · by_cases hkept : (p.channel c).kind = some k
        · rw [configured_wheel hk hpark1 ha hidle (hk ▸ hkept)]
          exact ⟨rfl, rfl⟩
        · have hon : ch.state ≠ .off := by rw [hidle]; decide
          exact hafresh (((hready.resolve_left hon).2.resolve_left hkept).2) (.inr hkept)
    obtain ⟨hbase, houtput⟩ := hshown
    have hconfig : (p.configured c cfg).config = some cfg := by rw [hframe]; rfl
    have hkind : (p.configured c cfg).kind = some .wheel := by rw [Channel.kind, hconfig]; exact congrArg some hk
    have hon : (p.configured c cfg).state ≠ .off := by
      rw [hframe]
      exact configState_ne_off c p
    have hpt' : p.patternOf (p.configured c cfg) = some pt := by
      have hnamed : cfg.pattern = some n := (if_pos hk).trans hn
      rw [Part.patternOf, hconfig, Option.bind_some, hnamed]
      exact hpt
    rw [hchannel]
    refine ⟨hbase, houtput, ?_⟩
    show p.pinOf c (p.configured c cfg) = _
    rw [pinOf_wheel hon hkind, hpt', houtput, twoState_eq, hconfig]
    rw [polarity_eq]
    by_cases hbank : c < 16
    · have huses : usesLevels c k = true := (usesLevels_iff c k).mpr ⟨hbank, .inr (.inr hk)⟩
      have hlow : (some cfg).bind ChConfig.lowLevel = r.lowLevel := if_pos huses
      have hhighLevel : (some cfg).bind ChConfig.highLevel = r.highLevel := if_pos huses
      rw [if_pos hbank, if_pos hbank, hlow, hhighLevel]
      generalize (if r.parkValue = 1 then pt.toothHigh else !pt.toothHigh) = high
      cases high <;> simp only [Bool.false_eq_true, if_true, if_false]
    · rw [if_neg hbank, if_neg hbank]
  · rw [channel_of_channels hchannels, channel_putChannel_ne hd]
  · rw [hchannels, hq]
    by_cases hoff : (p.channel c).state = .off
    · have hoff' : ch.state = .off := hoff
      rw [if_pos hoff, if_pos hoff', Part.putChannel, raise_setChannel, raise_eq_link]
      rfl
    · have hon : ch.state ≠ .off := hoff
      rw [if_neg hoff, if_neg hon]
      rfl

/-- Settles O25: CHANNEL_CONFIG accepted and refused. -/
theorem channelConfigured : Obligations.ChannelConfigured := ⟨configAccepted, channelConfigRefused⟩

end Sys2Proof.Machine
end

section
/-! SUPPORT. WHEEL_DEFINE and the WHEEL channels: the patterns defined, the teeth shown, and the renders of a tick (R37, R38, R40,
R41, R43). -/

namespace Sys2Proof.Machine

open Sys2Proof

/-! ### WHEEL_DEFINE (R37) -/

theorem patternRunning_iff (i : Nat) (p : Part) :
    p.patternRunning i = true ↔ ∃ ch ∈ p.channels, ch.state = .running ∧ ch.config.bind ChConfig.pattern = some i := by
  simp [Part.patternRunning]

/-- WHEEL_DEFINE's part of O27. -/
theorem wheelDefined : Claims.WheelDefined := by
  intro tag i r s ht htag p span listed no
  have hspan : 0 < span := by
    show 0 < if r.span = 0 then 23040 else 46080
    split <;> decide
  have hpositions : (outside 2 120 r.positions || decide (span % r.positions ≠ 0)) = true ↔
      r.positions < 2 ∨ 120 < r.positions ∨ span % r.positions ≠ 0 := by
    simp [outside_eq_true, or_assoc]
  have hmissing : (decide (8 < r.missingCount) || listed.any (fun m => decide (r.positions ≤ m)) || !decide listed.Nodup) = true ↔
      8 < r.missingCount ∨ (∃ m ∈ listed, r.positions ≤ m) ∨ ¬listed.Nodup := by
    simp [or_assoc]
  have hoffset : outside 0 (span - 1) r.offset = true ↔ span ≤ r.offset := by
    rw [outside_eq_true]
    omega
  have hwidth : outside 16 (span / r.positions - 16) r.width = true ↔ r.width < 16 ∨ span / r.positions - 16 < r.width :=
    outside_eq_true ..
  have hpolarity : storedPattern r = { span := span, positions := r.positions, width := r.width, missing := listed
                                       offset := r.offset, toothHigh := decide (r.polarity = 0) } := rfl
  refine (request_verdict ht htag _).trans (congrArg Host.Outcome.next ?_)
  have hchecks : patternChecks i r =
      [(outside 0 7 i, badField 1), (outside 0 1 r.span, badField 2),
        (outside 2 120 r.positions || decide (span % r.positions ≠ 0), badField 3),
        (outside 16 (span / r.positions - 16) r.width, badField 4),
        (decide (8 < r.missingCount) || listed.any (fun m => decide (r.positions ≤ m)) || !decide listed.Nodup, badField 5),
        (outside 0 (span - 1) r.offset, badField 6), (outside 0 1 r.polarity, badField 7)] := rfl
  simp only [hchecks, List.cons_append, List.nil_append, after_checked_cons, checked_nil, after_ack, hpositions, hmissing, hoffset, hwidth,
    outside_eq_true, Nat.not_lt_zero, false_or, patternRunning_iff]
  rfl

/-! ### Teeth (R38, R43) -/

/-- The angle a pattern is evaluated at, seen from the pattern's first tooth, in whole turns of its span. -/
theorem angleAt_rel {pt : Pattern} (hspan : 0 < pt.span) (hoffset : pt.offset < pt.span) (shift : Int) (angle : Nat) :
    (((pt.angleAt shift angle + pt.span - pt.offset) % pt.span : Nat) : Int) =
      ((angle : Int) + shift - pt.offset) % pt.span := by
  have hpos : (0 : Int) < pt.span := by exact_mod_cast hspan
  have hnonneg := Int.emod_nonneg (((angle % pt.span : Nat) : Int) + shift) hpos.ne'
  have hat : ((pt.angleAt shift angle : Nat) : Int) = ((angle : Int) + shift) % pt.span := by
    rw [Pattern.angleAt, Int.toNat_of_nonneg hnonneg]
    push_cast
    rw [Int.emod_add_emod]
  rw [Int.natCast_mod, Nat.cast_sub (by omega), Nat.cast_add, hat]
  rw [show ((angle : Int) + shift) % pt.span + pt.span - pt.offset = ((angle : Int) + shift) % pt.span - pt.offset + pt.span by ring,
    Int.add_emod_right, Int.emod_sub_emod]

/-- A place of the span lies within W of the start of position `k` exactly when `k` is the position it stands at and it has come
less than W from its start. -/
theorem within_position_iff {pitch positions width k rel : Nat} (hw : width ≤ pitch) (hk : k < positions)
    (hrel : rel < positions * pitch) :
    (((rel : Int) - k * pitch) % ((positions * pitch : Nat) : Int) < width) ↔ rel / pitch = k ∧ rel % pitch < width := by
  have hpitch : 0 < pitch := Nat.pos_of_mul_pos_left (Nat.zero_lt_of_lt hrel)
  have hplace : rel / pitch < positions := Nat.div_lt_of_lt_mul (Nat.mul_comm .. ▸ hrel)
  have hover : rel % pitch < pitch := Nat.mod_lt _ hpitch
  have hsplit : (rel : Int) = (rel / pitch : Nat) * pitch + (rel % pitch : Nat) := by
    exact_mod_cast (Nat.div_add_mod' rel pitch).symm
  generalize rel / pitch = a at *
  generalize rel % pitch = b at *
  -- what the place is past the start of position `k`, from 0 to the span
  have hpast {d : Nat} (hd : d < positions) (heq : (rel : Int) - k * pitch = d * pitch + b ∨
      (rel : Int) - k * pitch + (positions * pitch : Nat) = d * pitch + b) :
      ((rel : Int) - k * pitch) % ((positions * pitch : Nat) : Int) = (d * pitch + b : Nat) := by
    have hlt : d * pitch + b < positions * pitch :=
      calc d * pitch + b < d * pitch + pitch := by omega
        _ = (d + 1) * pitch := (Nat.succ_mul d pitch).symm
        _ ≤ positions * pitch := Nat.mul_le_mul_right pitch hd
    have hmod : ((d * pitch + b : Nat) : Int) % ((positions * pitch : Nat) : Int) = (d * pitch + b : Nat) := by
      rw [← Int.natCast_mod, Nat.mod_eq_of_lt hlt]
    rw [← hmod]
    have hcast : ((d * pitch + b : Nat) : Int) = d * pitch + b := by push_cast; rfl
    rw [hcast]
    rcases heq with heq | heq
    · rw [heq]
    · rw [← Int.add_emod_right, heq]
  have hfar {d : Nat} (hd : 0 < d) : ¬((d * pitch + b : Nat) : Int) < width := by
    have := Nat.le_mul_of_pos_left pitch hd
    exact_mod_cast Nat.not_lt.mpr (by omega)
  rcases Nat.lt_trichotomy a k with h | rfl | h
  · have hd : 0 < positions + a - k := by omega
    rw [hpast (d := positions + a - k) (by omega) (.inr (by rw [hsplit, Nat.cast_sub (by omega)]; push_cast; ring))]
    exact ⟨fun hlt => absurd hlt (hfar hd), fun heq => absurd heq.1 h.ne⟩
  · rw [hpast (d := 0) (by omega) (.inl (by rw [hsplit]; ring))]
    simp
  · rw [hpast (d := a - k) (by omega) (.inl (by rw [hsplit, Nat.cast_sub h.le]; ring))]
    exact ⟨fun hlt => absurd hlt (hfar (by omega)), fun heq => absurd heq.1 h.ne'⟩

/-- What R38 calls being within a tooth: the start of a present position that nothing drops lies less than W behind the angle
as it is seen through a shift. -/
def Pattern.InTooth (pt : Pattern) (angle : Nat) (drop : Nat → Prop) (shift : Int) : Prop :=
  ∃ k < pt.positions, k ∉ pt.missing ∧ ¬drop k ∧
    (((angle : Int) + shift) - (pt.offset + k * (pt.span / pt.positions : Nat))) % pt.span < pt.width

/-- The positions a DROP takes away (R43). -/
def Pattern.Drops (pt : Pattern) : Option (Nat × Nat) → Nat → Prop
  | some (q, n), k => ((k : Int) - q) % pt.positions < n
  | none, _ => False

/-- The model's test of a position that a DROP takes away. -/
def Pattern.dropped (pt : Pattern) (drop : Option (Nat × Nat)) (k : Nat) : Bool :=
  match drop with
  | some (q, n) => (k + pt.positions - q % pt.positions) % pt.positions < n
  | none => false

theorem tooth_eq (pt : Pattern) (drop : Option (Nat × Nat)) (angle : Nat) :
    let rel := (angle + pt.span - pt.offset) % pt.span
    let k := rel / (pt.span / pt.positions)
    pt.tooth drop angle =
      (decide (rel % (pt.span / pt.positions) < pt.width) && !pt.missing.contains k && !pt.dropped drop k) := rfl

theorem dropped_iff {pt : Pattern} (hpos : 0 < pt.positions) (drop : Option (Nat × Nat)) (k : Nat) :
    pt.dropped drop k = true ↔ pt.Drops drop k := by
  cases drop with
  | none => simp [Pattern.dropped, Pattern.Drops]
  | some x =>
    obtain ⟨q, n⟩ := x
    have hq : q % pt.positions ≤ k + pt.positions := (Nat.mod_lt q hpos).le.trans (Nat.le_add_left ..)
    have hmod : (((k + pt.positions - q % pt.positions) % pt.positions : Nat) : Int) = ((k : Int) - q) % pt.positions := by
      rw [Int.natCast_mod, Nat.cast_sub hq]
      push_cast
      rw [show (k : Int) + pt.positions - q % pt.positions = k - q % pt.positions + pt.positions by ring, Int.add_emod_right,
        Int.sub_emod_emod]
    rw [Pattern.dropped, decide_eq_true_eq, Pattern.Drops, ← hmod]
    exact_mod_cast Iff.rfl

/-- The model's test of a tooth is R38's. -/
theorem tooth_iff {pt : Pattern} (hpos : 2 ≤ pt.positions) (hdvd : pt.positions ∣ pt.span) (hoffset : pt.offset < pt.span)
    (hwidth : pt.width ≤ pt.span / pt.positions) (drop : Option (Nat × Nat)) (shift : Int) (angle : Nat) :
    pt.tooth drop (pt.angleAt shift angle) = true ↔ pt.InTooth angle (pt.Drops drop) shift := by
  have hspan : 0 < pt.span := Nat.zero_lt_of_lt hoffset
  have hpitch : pt.positions * (pt.span / pt.positions) = pt.span := Nat.mul_div_cancel' hdvd
  have hrel := angleAt_rel hspan hoffset shift angle
  have hlt : (pt.angleAt shift angle + pt.span - pt.offset) % pt.span < pt.positions * (pt.span / pt.positions) :=
    hpitch.symm ▸ Nat.mod_lt _ hspan
  rw [tooth_eq]
  generalize (pt.angleAt shift angle + pt.span - pt.offset) % pt.span = rel at *
  have hplace : rel / (pt.span / pt.positions) < pt.positions := Nat.div_lt_of_lt_mul (Nat.mul_comm .. ▸ hlt)
  have hwithin {k : Nat} (hk : k < pt.positions) :
      (((angle : Int) + shift) - (pt.offset + k * (pt.span / pt.positions : Nat))) % pt.span < pt.width ↔
        rel / (pt.span / pt.positions) = k ∧ rel % (pt.span / pt.positions) < pt.width := by
    rw [← within_position_iff hwidth hk hlt, hpitch, hrel, Int.emod_sub_emod, sub_sub]
  simp only [Bool.and_eq_true, Bool.not_eq_true', decide_eq_true_eq]
  constructor
  · rintro ⟨⟨hin, hpresent⟩, hkept⟩
    refine ⟨_, hplace, fun hmiss => ?_, fun hdrop => ?_, (hwithin hplace).mpr ⟨rfl, hin⟩⟩
    · exact Bool.false_ne_true (hpresent.symm.trans (List.contains_iff_mem.mpr hmiss))
    · exact Bool.false_ne_true (hkept.symm.trans ((dropped_iff (by omega) drop _).mpr hdrop))
  · rintro ⟨k, hk, hpresent, hkept, hin⟩
    obtain ⟨rfl, hover⟩ := (hwithin hk).mp hin
    exact ⟨⟨hover, Bool.eq_false_iff.mpr fun h => hpresent (List.contains_iff_mem.mp h)⟩,
      Bool.eq_false_iff.mpr fun h => hkept ((dropped_iff (by omega) drop _).mp h)⟩

/-- The state a pattern shows at an angle: 1 within a tooth, else 0 (R38). -/
def Pattern.shows (pt : Pattern) (drop : Option (Nat × Nat)) (shift : Int) (angle : Nat) : Nat :=
  if pt.tooth drop (pt.angleAt shift angle) then 1 else 0

/-- What a RUNNING WHEEL channel renders from the angle (R38, R43): the pattern's state, a DROP or a SHIFT acting on the
pattern itself, and STUCK on the state shown. -/
theorem wheelRender_of_angle {ch : Channel} (hs : ch.state = .running) (ha : ch.startAt = none) (pt : Pattern) (angle : Nat) :
    ch.wheelRender (some pt) angle = { ch with
      base := pt.shows none 0 angle
      output := match ch.applied.map Modifier.fault with
        | some (.drop q n) => pt.shows (some (q, n)) 0 angle
        | some (.shift d) => pt.shows none d angle
        | _ => shownValue ch.applied (pt.shows none 0 angle) ch.output ch.top } := by
  have hfrom : (decide (ch.state = .running) && ch.startAt.isNone) = true := by simp [hs, ha]
  unfold Channel.wheelRender
  simp only [hfrom, show_eq_shown, if_true]
  cases hm : ch.applied with
  | none => rfl
  | some m =>
    obtain ⟨e, fault, v⟩ := m
    cases fault <;> rfl

/-- TeethRendered of O27. -/
theorem teethRendered : Claims.TeethRendered := by
  intro pt angle ch hpos hdvd hoffset hwidth hspan hs ha hk pitch inTooth x
  have hshows (drop : Option (Nat × Nat)) (shift : Int) : pt.shows drop shift angle = 1 ↔ pt.InTooth angle (pt.Drops drop) shift := by
    rw [← tooth_iff hpos hdvd hoffset hwidth, Pattern.shows]
    split <;> simp [*]
  have hle : pt.shows none 0 angle ≤ 1 := by
    unfold Pattern.shows
    split <;> decide
  have htop : ch.top = 1 := top_of_kind hk
  have hx : x = _ := wheelRender_of_angle hs ha pt angle
  refine ⟨fun hm => ?_, fun e q n v hm => ?_, fun e d v hm => ?_, fun e v f hm => ?_, fun e hm => ?_, ?_, wheelRender_frame ..⟩
  · rw [hx, hm, htop]
    show min (pt.shows none 0 angle) 1 = 1 ↔ _
    rw [Nat.min_eq_left hle]
    exact hshows none 0
  · rw [hx, hm]
    exact hshows (some (q, n)) 0
  · rw [hx, hm]
    exact hshows none d
  · rw [hx, hm]
    rfl
  · rw [hx, hm]
    rfl
  · rw [hx]
    exact hshows none 0

/-! ### The renders of the WHEEL channels (R22, R38, R40, R41) -/

theorem mapChannels_channel {f : Nat → Channel → Channel} (c : Nat) {p : Part}
    (h : p.channels.length ≤ c → f c Channel.atReset = Channel.atReset) : (p.mapChannels f).channel c = f c (p.channel c) := by
  rcases Nat.lt_or_ge c p.channels.length with hc | hc
  · simp [Part.channel, Part.mapChannels, List.getD_eq_getElem?_getD, hc]
  · have hreset : p.channel c = Channel.atReset := by simp [Part.channel, List.getD_eq_getElem?_getD, hc]
    rw [hreset, h hc]
    simp [Part.channel, Part.mapChannels, List.getD_eq_getElem?_getD, hc]

/-- The render of one WHEEL channel, as every WHEEL channel's is taken together. -/
theorem renderWheels_channel (c : Nat) (p : Part) : p.renderWheels.channel c =
    if (p.channel c).kind = some .wheel ∧ (p.channel c).state ≠ .off then
      let x := (p.channel c).wheelRender (p.patternOf (p.channel c)) p.engine.angle
      { x with pin := p.pinOf c x }
    else p.channel c := by
  unfold Part.renderWheels
  rw [mapChannels_channel c fun _ => rfl]
  simp only [Bool.and_eq_true, decide_eq_true_eq]

theorem looking_iff (ch : Channel) :
    ch.looking = true ↔ ch.state ≠ .off ∧ ch.kind = some .pulse ∧ ch.period = none := by
  simp only [Channel.looking, Bool.and_eq_true, decide_eq_true_eq, Option.isNone_iff_eq_none, and_assoc]

/-- The look of one PULSE channel, as every one's is taken together. -/
theorem renderLooks_channel (c : Nat) (p : Part) : p.renderLooks.channel c =
    if (p.channel c).looking = true then
      let x := (p.channel c).show (if (p.channel c).playWaits p.now then (p.channel c).base else (p.channel c).baseNow p.now)
      { x with pin := p.pinOf c x }
    else p.channel c := by
  unfold Part.renderLooks
  rw [mapChannels_channel c fun _ => rfl]

theorem refreshPins_channel (c : Nat) (p : Part) : p.refreshPins.channel c =
    if (p.channel c).kind = some .pwm ∨ (p.channel c).kind = some .pulse then
      { p.channel c with pin := p.pinOf c (p.channel c) }
    else p.channel c := by
  unfold Part.refreshPins
  rw [mapChannels_channel c fun _ => rfl]
  simp only [Bool.or_eq_true, decide_eq_true_eq]

/-- WheelsShown of O27. -/
theorem wheelsShown : Claims.WheelsShown := by
  intro p c ch q
  refine ⟨rfl, fun h => ?_, fun pt hon hk hpt => ?_⟩
  · refine (renderWheels_channel c p).trans (if_neg fun hw => ?_)
    exact h.elim (fun hoff => hw.2 hoff) fun hne => hne hw.1
  · intro x high code
    have hframe : x = { ch with base := x.base, output := x.output } := wheelRender_frame ..
    have hxon : x.state ≠ .off := by rw [hframe]; exact hon
    have hxk : x.kind = some .wheel := by rw [hframe]; exact hk
    have hxpt : p.patternOf x = some pt := by rw [hframe]; exact hpt
    have hconfig : x.config = ch.config := by rw [hframe]
    refine ⟨?_, fun hparked => ?_⟩
    · refine (renderWheels_channel c p).trans ((if_pos ⟨hk, hon⟩).trans ?_)
      rw [hpt]
      show ({ x with pin := p.pinOf c x } : Channel) = _
      rw [pinOf_wheel hxon hxk, hxpt, polarity_eq, twoState_eq, hconfig]
    · refine (wheelRender_of_parked hparked _ _).trans ?_
      rw [show_eq_shown, top_of_kind hk]
      rfl

/-- A WHEEL channel renders from its own contents, the patterns and the angle alone. -/
theorem renderWheels_channel_congr {p q : Part} {c : Nat} (hch : q.channel c = p.channel c)
    (hk : (p.channel c).kind = some .wheel) (hpatterns : q.patterns = p.patterns) (hengine : q.engine = p.engine) :
    q.renderWheels.channel c = p.renderWheels.channel c := by
  have hpattern (ch : Channel) : q.patternOf ch = p.patternOf ch := by
    unfold Part.patternOf Part.pattern
    rw [hpatterns]
  rw [renderWheels_channel, renderWheels_channel, hch, hpattern, hengine]
  refine ite_congr rfl (fun hwheel => ?_) fun _ => rfl
  have hframe := wheelRender_frame (p.patternOf (p.channel c)) p.engine.angle (p.channel c)
  have hpin : q.pinOf c ((p.channel c).wheelRender (p.patternOf (p.channel c)) p.engine.angle) =
      p.pinOf c ((p.channel c).wheelRender (p.patternOf (p.channel c)) p.engine.angle) := by
    have hon : ((p.channel c).wheelRender (p.patternOf (p.channel c)) p.engine.angle).state ≠ .off := by
      rw [hframe]; exact hwheel.2
    have hkind : ((p.channel c).wheelRender (p.patternOf (p.channel c)) p.engine.angle).kind = some .wheel := by
      rw [hframe]; exact hk
    rw [pinOf_wheel hon hkind, pinOf_wheel hon hkind, hpattern]
  simp only [hpin]

/-! ### The microsecond tick with the engine at rest (R8, R22, R36, R38, R40) -/

/-- The part as a tick's renders find it where the engine does not move. -/
theorem tick_of_rest {p : Part} (h : p.engine.mode = .follow ∨ p.engine.increment = 0) (changes : List PinChange) :
    p.tick changes = (p.onto changes).tickTakes.sampleTriggers.renderLooks.renderWheels.refreshPins.ringTest := by
  have hengine : (p.onto changes).tickTakes.sampleTriggers.engine = p.engine := by rw [onto_eq]; rfl
  unfold Part.tick Part.tickRenders
  rw [turn_eq, hengine, if_pos h]

theorem ringTest_channel (p : Part) (c : Nat) : p.ringTest.channel c = p.channel c :=
  channel_of_channels (congrArg Part.channels (ringTest_eq p)) c

/-- A channel once the tick has taken the modifiers. -/
theorem tickTakes_channel (p : Part) (c : Nat) (changes : List PinChange) :
    (p.onto changes).tickTakes.sampleTriggers.channel c = (p.channel c).tickTake := by
  have hchannels : (p.onto changes).tickTakes.sampleTriggers.channels = p.channels.map Channel.tickTake := by rw [onto_eq]; rfl
  rw [Part.channel, hchannels, Part.channel]
  rcases Nat.lt_or_ge c p.channels.length with h | h
  · simp [List.getD_eq_getElem?_getD, h]
  · simp [List.getD_eq_getElem?_getD, h]
    rfl

/-- WheelsTaken of O27. -/
theorem wheelsTaken : Claims.WheelsTaken := by
  intro changes c s hc hlen p ch m hrest hon hk
  refine ⟨s.withPart (p.tick changes), rfl, ?_⟩
  let y : Channel := { ch with modifier := m, applied := m }
  have htake : ch.tickTake = y := by
    rw [tickTake_eq, if_pos ⟨hk, hon⟩]
  have hbegun : ((p.onto changes).tickTakes.sampleTriggers).channel c = y := (tickTakes_channel p c changes).trans htake
  have hy : (p.setChannel c y).channel c = y := channel_setChannel c y p (hc.trans_eq hlen.symm)
  have hlooked : (p.onto changes).tickTakes.sampleTriggers.renderLooks.channel c = y := by
    rw [renderLooks_channel, hbegun, if_neg]
    intro hlook
    have hpulse : ch.config.map ChConfig.kind = some .pulse := ((looking_iff y).mp hlook).2.1
    rw [hk] at hpulse
    cases hpulse
  have hrendered : (p.onto changes).tickTakes.sampleTriggers.renderLooks.renderWheels.channel c =
      (p.setChannel c y).renderWheels.channel c :=
    renderWheels_channel_congr (hlooked.trans hy.symm) (by rw [hy]; exact hk) (by rw [onto_eq]; rfl) (by rw [onto_eq]; rfl)
  have hkind : ((p.setChannel c y).renderWheels.channel c).kind = some .wheel := by
    rw [renderWheels_channel, hy, if_pos ⟨hk, hon⟩, wheelRender_frame]
    exact hk
  show (p.tick changes).channel c = _
  rw [tick_of_rest hrest, ringTest_channel, refreshPins_channel, hrendered, if_neg (by rw [hkind]; simp)]

/-- Settles O27: the patterns defined, the teeth, and the renders they come to. -/
theorem wheelDefinedAndRendered : Obligations.WheelDefinedAndRendered := ⟨wheelDefined, teethRendered, wheelsTaken, wheelsShown⟩

end Sys2Proof.Machine
end

section
/-! SUPPORT. PWM and PULSE periods, the look of a PULSE channel, and a render of the tick taken again (R22, R33 to R36, R40 to R42,
R55). -/

namespace Sys2Proof.Machine

open Sys2Proof

/-! ### Periods that end (R33 to R36) -/

/-- Where no play is due on a channel there is none to take. -/
theorem playDue_of_not {c : Nat} {p : Part} (h : ¬(p.channel c).PlayDue p.now) : p.playDue c = (p, []) := by
  have hwaits := playWaits_of_not h
  unfold Channel.playWaits at hwaits
  unfold Part.playDue
  cases hs : (p.channel c).state with
  | running =>
    simp only [hs] at hwaits
    cases ha : (p.channel c).startAt with
    | some t =>
      simp only [ha, decide_eq_false_iff_not] at hwaits
      simp only [Option.isSome_some, if_true]
      unfold Part.runStart
      simp only [hs, ha, if_neg hwaits]
    | none =>
      simp only [ha] at hwaits
      simp only [Option.isSome_none, Bool.false_eq_true, if_false]
      unfold Part.endSegment
      simp only [hs]
      cases hp : (p.channel c).playing with
      | none => rfl
      | some x =>
        have hno : ¬reachedLength p.now x.1 x.2 = true := by simpa [hp] using hwaits
        simp only [if_neg hno]
  | starved =>
    simp only [hs, Bool.and_eq_false_iff] at hwaits
    unfold Part.resume
    simp only [hs]
    split
    · rename_i t q hq hr hh
      have hlate : ¬t ≤ p.now := by
        rcases hwaits with hempty | hlate
        · cases hqueue : (p.channel c).queue <;> simp_all
        · simpa [hr] using hlate
      rw [if_neg hlate]
    · rfl
  | _ => rfl

theorem play_of_not {c : Nat} {p : Part} (h : ¬(p.channel c).PlayDue p.now) : p.play c = p := by
  rw [Part.play, playDue_of_not h, settleAll_nil]

theorem periodEnded_of_running {c : Nat} {p : Part} {q : Period} (hq : (p.channel c).period = some q)
    (h : p.clock.ticks * 40 < q.start + q.length) (k : Kind) : p.periodEnded c k = none := by
  have hlate : ¬q.start + q.length ≤ p.now * 40 := Nat.not_le.mpr h
  unfold Part.periodEnded
  simp only [hq]
  rw [if_neg]
  simp [Config.finePerMicro, hlate]

theorem periodEnded_of_ended {c : Nat} {p : Part} {q : Period} {k : Kind} (hon : (p.channel c).state ≠ .off)
    (hk : (p.channel c).kind = some k) (hq : (p.channel c).period = some q) (h : q.start + q.length ≤ p.clock.ticks * 40) :
    p.periodEnded c k = some (q.start + q.length) := by
  have hdue : q.start + q.length ≤ p.now * 40 := h
  unfold Part.periodEnded
  simp only [hq]
  rw [if_pos]
  simp [Config.finePerMicro, hon, hk, hdue]

/-- The next PWM period (R33, R34), spelt out. -/
theorem pwmPeriod_eq {ch : Channel} {q : Period} (hk : ch.kind = some .pwm) (hq : ch.period = some q) (now start : Nat) :
    ch.pwmPeriod now start =
      let d := shownValue ch.modifier (ch.baseNow now) q.duty 10000
      let f := shownFrequency ch.modifier (ch.frequency.getD 0) q.frequency
      let len := (800000000 + f) / (2 * f)
      { ch with
        base := ch.baseNow now, output := d, modifier := takenModifier ch.modifier (q.duty, q.frequency)
        applied := takenModifier ch.modifier (q.duty, q.frequency)
        period := some { frequency := f, duty := d, length := len, high := (2 * (len * d) + 10000) / 20000, start := start } } := by
  unfold Channel.pwmPeriod
  simp only [hq, take_eq_taken]
  rw [pwmShow_eq (by exact hk)]
  simp only [shownValue_taken, shownFrequency_taken]
  rfl

/-- The next PULSE period (R35, R36), spelt out: `last` is the frequency of the period before it, 0 where there is none. -/
theorem pulsePeriod_eq {ch : Channel} {q : Period} (hk : ch.kind = some .pulse) (hq : ch.period = some q) (now start : Nat) :
    ch.pulsePeriod now start =
      let f := shownValue ch.modifier (ch.baseNow now) q.frequency 200000
      { ch with
        base := ch.baseNow now, output := f, modifier := takenModifier ch.modifier (q.frequency, 0)
        applied := takenModifier ch.modifier (q.frequency, 0)
        period := if f = 0 then none
          else some { frequency := f, duty := 0, length := (800000000 + f) / (2 * f)
                      high := min ((ch.config.bind ChConfig.pulseWidth).getD 0 * 40) ((800000000 + f) / (2 * f) / 2)
                      start := start } } := by
  unfold Channel.pulsePeriod
  simp only [hq, take_eq_taken]
  rw [pulseShow_eq (by exact hk)]
  simp only [shownValue_taken]
  rfl

/-- PeriodsBegun of O29. -/
theorem periodsBegun : Claims.PeriodsBegun := by
  intro c s hc p ch now b hon
  have hexec (act : Nat → Part → Part) : onUnit c Config.channels (act c) s = .next (s.withPart (act c p)) := onUnit_of_lt hc _ _
  refine ⟨fun q hq hlate => ⟨?_, ?_⟩, fun q hk hq hend hdue => ?_, fun hk => ?_⟩
  · refine (hexec Part.endPwmPeriod).trans ?_
    rw [Part.endPwmPeriod, periodEnded_of_running hq hlate]
    rfl
  · refine (hexec Part.endPulsePeriod).trans ?_
    rw [Part.endPulsePeriod, periodEnded_of_running hq hlate]
    rfl
  · refine (hexec Part.endPwmPeriod).trans ?_
    rw [Part.endPwmPeriod, periodEnded_of_ended hon hk hq hend, play_of_not hdue]
    simp only
    rw [pwmPeriod_eq hk hq]
    rfl
  · intro begun
    refine ⟨fun q hq hend hdue => ?_, fun hq hout hdue => ?_, fun hno => ?_⟩
    · refine (hexec Part.endPulsePeriod).trans ?_
      rw [Part.endPulsePeriod, periodEnded_of_ended hon hk hq hend, play_of_not hdue]
      simp only
      rw [pulsePeriod_eq hk hq]
      rfl
    · have htrain : (p.channel c).trainDue p.now = true := by
        have hwaits : (p.channel c).playWaits p.now = false := playWaits_of_not hdue
        have hshows : (p.channel c).output ≠ 0 := hout
        simp [Channel.trainDue, (looking_iff (p.channel c)).mpr ⟨hon, hk, hq⟩, hwaits, hshows]
      refine (hexec Part.startTrain).trans ?_
      rw [Part.startTrain, if_pos htrain, pulseFrom_eq, if_neg hout]
      rfl
    · have htrain : ¬(p.channel c).trainDue p.now = true := by
        simp only [Channel.trainDue, Bool.and_eq_true, looking_iff, decide_eq_true_eq, Bool.not_eq_true']
        rintro ⟨⟨⟨-, -, hnone⟩, hout⟩, hwaits⟩
        rcases hno with h | h | h
        · have hsome : (p.channel c).period.isSome = true := h
          simp [hnone] at hsome
        · exact hout h
        · exact Bool.false_ne_true (hwaits.symm.trans ((playWaits_iff _ _).mpr h))
      refine (hexec Part.startTrain).trans ?_
      rw [Part.startTrain, if_neg htrain]
      rfl

/-- PulseLooks of O29. -/
theorem pulseLooks : Claims.PulseLooks := by
  intro changes c s hc p ch now hrest hon hk hq b hdue hnot
  refine ⟨s.withPart (p.tick changes), rfl, ?_⟩
  let v := (p.onto changes).tickTakes.sampleTriggers
  let y : Channel := { ch with modifier := takenModifier ch.modifier (0, 0), applied := takenModifier ch.modifier (0, 0) }
  have hnow : v.now = now := by
    show ((p.onto changes).clock).ticks = _
    rw [onto_eq]
    rfl
  have htake : ch.tickTake = y := by
    have hwheel : ¬(ch.config.map ChConfig.kind = some .wheel ∧ ch.state ≠ .off) := by simp [hk]
    rw [tickTake_eq, if_neg hwheel, if_pos ⟨hk, hon, hq⟩]
  have hbegun : v.channel c = y := (tickTakes_channel p c changes).trans htake
  have hlook : y.looking = true := (looking_iff y).mpr ⟨hon, hk, hq⟩
  have hbase : (if y.playWaits now then y.base else y.baseNow now) = b := by
    by_cases hplay : ch.PlayDue now
    · rw [if_pos ((playWaits_iff now y).mpr hplay), hdue hplay]
    · rw [if_neg (fun h => hplay ((playWaits_iff now y).mp h)), hnot hplay]
      rfl
  have hkpulse : y.kind = some .pulse := hk
  have hlooked : v.renderLooks.channel c =
      { y with base := b, output := shownValue ch.modifier b 0 200000, pin := (v.renderLooks.channel c).pin } := by
    rw [renderLooks_channel, hbegun, if_pos hlook, hnow, hbase, show_eq_shown, top_of_kind hkpulse]
    simp only [y, shownValue_taken]
    rfl
  have hwheels : v.renderLooks.renderWheels.channel c = v.renderLooks.channel c := by
    rw [renderWheels_channel, hlooked, if_neg]
    rintro ⟨hwheel, -⟩
    cases hkpulse.symm.trans hwheel
  have hpin : v.renderLooks.renderWheels.pinOf c (v.renderLooks.channel c) =
      if c < 16 then ((ch.config.bind ChConfig.lowLevel).getD 0 * 65535 + 6000) / 12000 else 0 := by
    rw [hlooked, pinOf_resting (by exact hon) (by exact hk) (by exact hq), twoState_eq]
    simp only [Bool.false_eq_true, if_false]
    rfl
  show (p.tick changes).channel c = _
  rw [tick_of_rest hrest, ringTest_channel, refreshPins_channel, hwheels, hpin, hlooked, if_pos (.inr hk)]

/-- Settles O29: the periods of PWM and PULSE channels, and the look of a PULSE channel that runs none. -/
theorem periodsTaken : Obligations.PeriodsTaken := ⟨periodsBegun, pulseLooks⟩

end Sys2Proof.Machine
end

section
/-! SUPPORT. Play, one rule per operation: a slot read, a segment started, play that starves or finds a record it cannot read, the
low-water test, and the work that a start leaves (R55, R60, R62 to R65). -/

namespace Sys2Proof.Machine

open Sys2Proof

/-! ### Loggings and channels -/

theorem logError_setChannel (code : ErrCode) (sub : Subject) (d : Int) (c : Nat) (x : Channel) (p : Part) :
    (p.setChannel c x).logError code sub d = (p.logError code sub d).setChannel c x :=
  raise_setChannel _ c x { p with log := p.log.write ((p.log.of code.cls).add ⟨code, sub, d, p.stamp⟩) code.cls }

theorem putChannel_setChannel (c : Nat) (x y : Channel) (p : Part) : (p.setChannel c x).putChannel c y = p.putChannel c y :=
  setChannel_setChannel ..

theorem logError_channel (code : ErrCode) (sub : Subject) (d : Int) (p : Part) (c : Nat) :
    (p.logError code sub d).channel c = p.channel c := channel_of_channels (logError_channels ..) c

theorem raise_channel (src : NoticeSource) (p : Part) (c : Nat) : (p.raise src).channel c = p.channel c :=
  channel_of_channels (raise_channels ..) c

/-! ### A slot read (R64, R65) -/

section
variable {c slot : Nat} {p : Part}

theorem readSlot_of_sound (h : ∀ d ∈ p.damage, d.1 ≠ slot) : p.readSlot c slot = (true, p) := by
  have hnone : p.damage.find? (fun d => d.1 = slot) = none := by simpa using h
  rw [Part.readSlot, hnone]

/-- The part with a slot's error put right and logged. -/
def Part.mended (c slot : Nat) (p : Part) : Part :=
  ({ p with damage := p.damage.filter fun d => d.1 ≠ slot }).logError .storeCorrected (.channel c) slot

theorem mended_channel (d : Nat) : (p.mended c slot).channel d = p.channel d := logError_channel ..

theorem mended_now : (p.mended c slot).now = p.now := by
  unfold Part.mended Part.logError
  rw [raise_eq_link]
  rfl

/-- A slot put right does not look at the channels. -/
theorem mended_setChannel (d : Nat) (x : Channel) : (p.setChannel d x).mended c slot = (p.mended c slot).setChannel d x :=
  logError_setChannel _ _ _ d x { p with damage := p.damage.filter fun e => e.1 ≠ slot }

theorem readSlot_of_correctable (h : p.damage.find? (fun d => d.1 = slot) = some (slot, .correctable)) :
    p.readSlot c slot = (true, p.mended c slot) := by
  rw [Part.readSlot, h]
  rfl

theorem readSlot_of_lost (h : p.damage.find? (fun d => d.1 = slot) = some (slot, .uncorrectable)) :
    p.readSlot c slot = (false, p) := by
  rw [Part.readSlot, h]

end

/-! ### A segment started (R55, R57, R62, R63) -/

/-- What follows from a start: the marker's occurrence, the low-water test, and the end at once of a record whose length the carry
has reached. -/
def startWork (c travel before : Nat) (r : Segment) : List Task :=
  (match r.marker with
    | some m => [.occur (.segmentMark m c)]
    | none => []) ++
  [.lowWater c before] ++ (if r.basis = .angle ∧ r.length * 65536 ≤ travel then [.endSegment c] else [])

/-- The travel a record starts with: a carry is of the angle. -/
def Segment.startTravel (r : Segment) (carry : Option Nat) : Nat := if r.basis = .angle then carry.getD 0 else 0

theorem startTravel_none (r : Segment) : r.startTravel none = 0 := ite_self _

theorem startSegment_eq (c place : Nat) (r : Segment) (carry : Option Nat) (before : Nat) (p : Part) :
    p.startSegment c place r carry before =
      (p.setChannel c ((p.channel c).startedAt p.now place (r.startTravel carry) r),
        startWork c (r.startTravel carry) before r) := by
  have hfrequency : (if (p.channel c).kind = some .pwm then r.secondary.orElse fun _ => (p.channel c).frequency
      else (p.channel c).frequency) =
      if (p.channel c).kind = some .pwm ∧ r.secondary.isSome = true then r.secondary else (p.channel c).frequency := by
    cases r.secondary <;> by_cases hk : (p.channel c).kind = some .pwm <;> simp [hk]
  unfold Part.startSegment startWork
  simp only [hfrequency, Bool.and_eq_true, decide_eq_true_eq]
  rfl

section
variable {c place : Nat} {carry : Option Nat} {before marker slot : Nat} {r : Segment} {p p' : Part}

/-- Play that reaches a segment it can read starts it. -/
theorem arrive_of_segment (hq : (p.channel c).queue[place]? = some { slot := slot, content := .segment r })
    (hread : p.readSlot c slot = (true, p')) : p.arrive c place carry before marker =
      (p'.setChannel c ((p'.channel c).startedAt p'.now place (r.startTravel carry) r),
        startWork c (r.startTravel carry) before r) := by
  unfold Part.arrive
  simp only [hq, hread]
  exact startSegment_eq ..

/-- Play past the tail starves the channel (R60). -/
theorem arrive_of_none (hq : (p.channel c).queue[place]? = none) :
    p.arrive c place carry before marker = (p.starve c marker, []) := by
  unfold Part.arrive
  simp only [hq]

/-- Play that reaches a record it cannot read faults the channel (R65). -/
theorem arrive_of_lost {content : Content} (hq : (p.channel c).queue[place]? = some { slot := slot, content := content })
    (hread : p.readSlot c slot = (false, p')) : p.arrive c place carry before marker = (p'.faultChannel c slot, []) := by
  unfold Part.arrive
  simp only [hq, hread]

/-! ### Starving and faulting (R60, R65) -/

theorem starve_eq (h : (p.channel c).state ≠ .starved) : p.starve c marker =
    ((p.logError .channelUnderrun (.channel c) marker).putChannel c { p.channel c with
      state := .starved, play := none, starvedAt := some p.clock.ticks, startAt := none, resumeAt := none }).raise
      (.channel c) :=
  enterState_of_ne (by rw [logError_channel]; exact h) _

/-- What a channel that starves is left as. -/
theorem starve_channel (hc : c < p.channels.length) (h : (p.channel c).state ≠ .starved) : ∃ pin, (p.starve c marker).channel c =
    { p.channel c with
      state := .starved, play := none, starvedAt := some p.clock.ticks, startAt := none, resumeAt := none, pin := pin } := by
  rw [starve_eq h, raise_channel, channel_putChannel (by rw [logError_channels]; exact hc)]
  exact ⟨_, rfl⟩

theorem starve_channel_ne {d : Nat} (hd : d ≠ c) (h : (p.channel c).state ≠ .starved) :
    (p.starve c marker).channel d = p.channel d := by
  rw [starve_eq h, raise_channel, channel_putChannel_ne hd, logError_channel]

theorem faultChannel_eq (h : (p.channel c).state ≠ .faulted) : p.faultChannel c slot =
    ((p.logError .storeUncorrectable (.channel c) slot).putChannel c { p.channel c with
      state := .faulted, queue := [], play := none, starvedAt := none, startAt := none, resumeAt := none }).raise
      (.channel c) :=
  enterState_of_ne (by rw [logError_channel]; exact h) _

/-! ### The low-water test (R63) -/

theorem lowWater_eq_fallen {after mark : Nat} (hafter : (p.channel c).pending = after) (hmark : (p.channel c).lowMark = mark) :
    p.lowWater c before = p.fallen c before after mark := by
  unfold Part.lowWater Part.fallen
  simp only [hafter, hmark, Bool.and_eq_true, decide_eq_true_eq, and_assoc]

/-! ### The work of a start, done -/

/-- An occurrence that begins no watch writes the slots alone. -/
theorem occur_eq_slots {o : Occurrence} (ho : ∀ e, o ≠ .entry e .active) (p : Part) :
    (p.occur o).1 = { p with slots := (p.occur o).1.slots } := by
  have hwatch (q : Part) : q.watchFrom o = q := by
    unfold Part.watchFrom
    split
    · exact absurd rfl (ho _)
    · rfl
  show ((p.matching o).foldl (fun v s => v.countOn o s) p).watchFrom o = _
  rw [hwatch, countAll_eq]
  congr 1
  show _ = (((p.matching o).foldl (fun v s => v.countOn o s) p).watchFrom o).slots
  rw [hwatch]

/-- A segment's marker, raised. -/
def Part.markRaised (c : Nat) (r : Segment) (p : Part) : Part :=
  match r.marker with
  | some m => (p.occur (.segmentMark m c)).1
  | none => p

theorem markRaised_eq_slots (c : Nat) (r : Segment) (p : Part) :
    p.markRaised c r = { p with slots := (p.markRaised c r).slots } := by
  unfold Part.markRaised
  cases r.marker with
  | none => rfl
  | some m => exact occur_eq_slots (fun _ => by simp) p

theorem markRaised_channel (d : Nat) : (p.markRaised c r).channel d = p.channel d :=
  channel_of_channels (congrArg Part.channels (markRaised_eq_slots c r p)) d

theorem markRaised_outer : (p.markRaised c r).outer = p.outer := by
  rw [markRaised_eq_slots]
  rfl

theorem lowWater_channel (d : Nat) : (p.lowWater c before).channel d = p.channel d := by
  unfold Part.lowWater
  simp only
  split
  · exact raise_channel ..
  · rfl

theorem markRaised_eq_markCounted (h : p.slots.length = 16) : p.markRaised c r = p.markCounted c r := by
  unfold Part.markRaised Part.markCounted
  cases r.marker with
  | none => rfl
  | some m => exact occur_eq_counted h fun _ => by simp

/-- A start whose marker nothing waits for and whose length no carry has reached: the marker raised, and the low-water test. -/
theorem leads_startWork {travel : Nat} (hopen : ¬(r.basis = .angle ∧ r.length * 65536 ≤ travel)) (hmark : p.MarkUnwaited c r) :
    Leads 2 (startWork c travel before r) p ((p.markRaised c r).lowWater c before) := by
  have hlow (q : Part) : Leads (0 + 1) [.lowWater c before] q (q.lowWater c before) := .task rfl (.nil _)
  unfold startWork
  rw [if_neg hopen, List.append_nil]
  cases hm : r.marker with
  | none =>
    rw [Part.markRaised, hm]
    exact (hlow p).mono (by omega)
  | some m =>
    rw [Part.markRaised, hm]
    refine Leads.append (n := 1) (.task rfl ?_) (hlow _)
    show Leads 0 (p.occur (.segmentMark m c)).2 (p.occur (.segmentMark m c)).1 _
    rw [occur_of_unwaited (hmark m hm)]
    exact .nil _

/-- A render of the tick taken again is one piece of work. -/
theorem leads_renderAgain (c : Nat) (p : Part) : Leads 1 [.renderAgain c] p (p.renderAgain c) := .task rfl (.nil _)

end

theorem runTasks_of_leads {n m : Nat} {ts : List Task} {p q : Part} (h : Leads n ts p q) (hn : n ≤ m) : runTasks m ts p = q := by
  obtain ⟨k, hk, hrun⟩ := h
  have hlast := hrun (m - k) []
  rwa [Nat.sub_add_cancel (hk.trans hn), List.append_nil, runTasks_nil] at hlast

theorem markCounted_channel (c d : Nat) (r : Segment) (p : Part) : (p.markCounted c r).channel d = p.channel d := by
  unfold Part.markCounted
  cases r.marker with
  | none => rfl
  | some m => rfl

/-- What a start leaves, run to its end, is what `Started` describes. -/
theorem started_of_runTasks {c travel before after mark n : Nat} {r : Segment} {v : Part} (hn : 18446744073709551616 ≤ n + 4)
    (hafter : (v.channel c).pending = after) (hmark : (v.channel c).lowMark = mark) :
    v.Started c travel before after mark r (runTasks n (startWork c travel before r ++ [.renderAgain c]) v) := by
  refine ⟨⟨n, hn, rfl⟩, fun hopen hslots hunwaited => ?_⟩
  rw [runTasks_of_leads ((leads_startWork hopen hunwaited).append (leads_renderAgain c _)) (by omega),
    markRaised_eq_markCounted hslots]
  congr 1
  exact lowWater_eq_fallen (by rw [markCounted_channel, hafter]) (by rw [markCounted_channel, hmark])

/-- Play that reaches a segment it can read, and the render after it, run to their end. -/
theorem started_of_arrival {c place before after mark marker slot : Nat} {carry : Option Nat} {r : Segment} {w p' : Part}
    (hlt : c < p'.channels.length) (hq : (w.channel c).queue[place]? = some { slot := slot, content := .segment r })
    (hread : w.readSlot c slot = (true, p')) (hafter : (p'.channel c).queue.length = after + (place + 1))
    (hmark : (p'.channel c).lowMark = mark) :
    (p'.setChannel c ((p'.channel c).startedAt p'.now place (r.startTravel carry) r)).Started c (r.startTravel carry) before after
      mark r (settleAll (w, [.arrive c place carry before marker, .renderAgain c])) := by
  let v := p'.setChannel c ((p'.channel c).startedAt p'.now place (r.startTravel carry) r)
  have hv : v.channel c = (p'.channel c).startedAt p'.now place (r.startTravel carry) r := channel_setChannel _ _ _ hlt
  have hrun : settleAll (w, [.arrive c place carry before marker, .renderAgain c]) =
      runTasks 18446744073709551615 (startWork c (r.startTravel carry) before r ++ [.renderAgain c]) v := by
    refine (runTasks_cons rfl 18446744073709551615 _ _).trans ?_
    show runTasks _ ((w.arrive c place carry before marker).2 ++ _) (w.arrive c place carry before marker).1 = _
    rw [arrive_of_segment hq hread]
  rw [hrun]
  refine started_of_runTasks (by decide) ?_ ?_
  · rw [hv]
    show (p'.channel c).queue.length - (place + 1) = after
    omega
  · rw [hv]
    exact hmark

/-- Play that ends at once, and the render after it. -/
theorem settleAll_of_arrival {c place before marker : Nat} {carry : Option Nat} {w u : Part}
    (h : w.arrive c place carry before marker = (u, [])) :
    settleAll (w, [.arrive c place carry before marker, .renderAgain c]) = u.renderAgain c := by
  have harrive : Leads (0 + 1) [.arrive c place carry before marker] w u := .task rfl (by
    show Leads 0 (w.arrive c place carry before marker).2 (w.arrive c place carry before marker).1 u
    rw [h]
    exact .nil u)
  exact settleAll_of_leads (harrive.append (leads_renderAgain c u)) (by unfold taskLimit; omega)

end Sys2Proof.Machine
end

section
/-! SUPPORT. CHANNEL_RUN_START and CHANNEL_RESUME (R25, R54, R55, R60, R62 to R65). -/

namespace Sys2Proof.Machine

open Sys2Proof

/-! ### CHANNEL_RUN_START (R25) -/

/-- The channel at its run start: at its park value (R25, R60). -/
def Channel.begun (ch : Channel) : Channel := { ch with startAt := none, held := ch.park }

theorem runStart_of_early {c t : Nat} {p : Part} (hstate : (p.channel c).state = .running)
    (hstart : (p.channel c).startAt = some t) (h : p.now < t) : p.runStart c = (p, []) := by
  unfold Part.runStart
  simp only [hstate, hstart]
  rw [if_neg (Nat.not_le.mpr h)]

theorem runStart_of_due {c t : Nat} {p : Part} (hstate : (p.channel c).state = .running)
    (hstart : (p.channel c).startAt = some t) (h : t ≤ p.now) : p.runStart c =
      if (p.channel c).kind = some .wheel then ((p.setChannel c (p.channel c).begun).renderWheel c, [])
      else (p.setChannel c (p.channel c).begun, [.arrive c 0 none (p.channel c).queue.length 0, .renderAgain c]) := by
  unfold Part.runStart Channel.begun
  simp only [hstate, hstart]
  rw [if_pos h]

/-- CHANNEL_RUN_START's part of O32. -/
theorem runStarted : Claims.RunStarted := by
  intro c at0 s hc hlen p now ch run hrunning hstart
  have hlt : c < p.channels.length := hlen ▸ hc
  have hexec : exec (.channelRunStart c) s = .next (s.withPart (settleAll (p.runStart c))) :=
    onUnit_of_lt hc (fun q => settleAll (q.runStart c)) s
  let w := p.setChannel c (run ch)
  have hw : w.channel c = run ch := channel_setChannel _ _ _ hlt
  have hplays (hdue : at0 ≤ now) (hk : ch.kind ≠ some .wheel) : exec (.channelRunStart c) s =
      .next (s.withPart (settleAll (w, [.arrive c 0 none ch.queue.length 0, .renderAgain c]))) := by
    rw [hexec, runStart_of_due hrunning hstart hdue, if_neg hk]
    rfl
  have hstate {st : ChState} (h : st ≠ .running) : (w.channel c).state ≠ st := by
    rw [hw]
    exact fun hst => h (hst.symm.trans hrunning)
  refine ⟨fun hearly => ?_, fun hdue hk => ?_, fun hdue hk hq => ?_, ?_⟩
  · rw [hexec, runStart_of_early hrunning hstart hearly, settleAll_nil]
    rfl
  · have hrender : (w.renderWheel c) = p.putChannel c ((run ch).wheelRender (p.patternOf ch) (p.engine.acc / 65536)) := by
      rw [Part.renderWheel, hw]
      exact putChannel_setChannel ..
    rw [hexec, runStart_of_due hrunning hstart hdue, if_pos (by exact hk), settleAll_nil]
    exact congrArg (fun q => Host.Outcome.next (s.withPart q)) hrender
  · have hstarve : w.arrive c 0 none ch.queue.length 0 = (w.starve c 0, []) :=
      arrive_of_none (by rw [hw]; exact congrArg (fun l => l[0]?) hq)
    rw [hplays hdue hk, settleAll_of_arrival hstarve, starve_eq (hstate (by decide)), hw, logError_setChannel,
      putChannel_setChannel]
    rfl
  · intro slot r rest hdue hk hq mark
    have hhead : (w.channel c).queue = { slot := slot, content := .segment r } :: rest := by rw [hw]; exact hq
    have hqueued : ch.queue.length = rest.length + 1 := by rw [hq]; rfl
    rw [hqueued] at hplays
    have hplace : (w.channel c).queue[0]? = some { slot := slot, content := .segment r } := by rw [hhead]; rfl
    have hrest : (w.channel c).queue.length = rest.length + (0 + 1) := by rw [hhead]; rfl
    have hmark : (w.channel c).lowMark = mark := by rw [hw]; exact lowMark_eq ch
    have hwlt : c < w.channels.length := by simpa [w] using hlt
    refine ⟨fun hsound => ⟨_, hplays hdue hk, ?_⟩, fun hmend => ⟨_, hplays hdue hk, ?_⟩, fun hlost => ?_⟩
    · have hstarted := started_of_arrival (before := rest.length + 1) (marker := 0) (carry := none) hwlt hplace
        (readSlot_of_sound hsound) hrest hmark
      rw [startTravel_none, hw, setChannel_setChannel] at hstarted
      exact hstarted
    · have hstarted := started_of_arrival (before := rest.length + 1) (marker := 0) (carry := none)
        (p' := w.mended c slot) (by simpa [Part.mended] using hwlt) hplace (readSlot_of_correctable hmend)
        (by rw [mended_channel, hrest]) (by rw [mended_channel, hmark])
      have hnow : (w.mended c slot).now = now := mended_now
      rw [startTravel_none, hnow, mended_channel, hw, mended_setChannel, setChannel_setChannel, ← mended_setChannel] at hstarted
      exact hstarted
    · have hfault : w.arrive c 0 none (rest.length + 1) 0 = (w.faultChannel c slot, []) :=
        arrive_of_lost hplace (readSlot_of_lost hlost)
      rw [hplays hdue hk, settleAll_of_arrival hfault, faultChannel_eq (hstate (by decide)), hw, logError_setChannel,
        putChannel_setChannel]

/-! ### CHANNEL_RESUME (R54) -/

/-- The channel as it resumes: RUNNING, the starved time on its slip total (R54). -/
def Channel.resumed (now since : Nat) (ch : Channel) : Channel :=
  { ch with
    state := .running, slipTotal := min (ch.slipTotal + (now - since)) 4294967295, starvedAt := none, resumeAt := none
    runStart := some now }

section
variable {c t since : Nat} {q : QRec} {rest : List QRec} {p : Part}

theorem resume_of_early (hstate : (p.channel c).state = .starved) (hresume : (p.channel c).resumeAt = some t)
    (hq : (p.channel c).queue = q :: rest) (h : p.now < t) : p.resume c = (p, []) := by
  unfold Part.resume
  simp only [hstate, hresume, hq, List.head?_cons]
  rw [if_neg (Nat.not_le.mpr h)]

theorem resume_of_due (hstate : (p.channel c).state = .starved) (hresume : (p.channel c).resumeAt = some t)
    (hsince : (p.channel c).starvedAt = some since) (hq : (p.channel c).queue = q :: rest) (h : t ≤ p.now) : p.resume c =
      if (q.slot, SlotError.uncorrectable) ∈ p.damage then (p.faultChannel c q.slot, [])
      else ((p.putChannel c ((p.channel c).resumed p.now since)).raise (.channel c),
        [.arrive c 0 none (rest.length + 1) 0, .renderAgain c]) := by
  have hne : (p.channel c).state ≠ .running := by rw [hstate]; decide
  unfold Part.resume Channel.resumed
  simp only [hstate, hresume, hsince, hq, List.head?_cons, List.length_cons, Option.getD_some, List.contains_iff_mem]
  rw [if_pos h, enterState_of_ne hne]
  rfl

end

/-- CHANNEL_RESUME's part of O32. -/
theorem channelResumed : Claims.ChannelResumed := by
  intro c at0 since slot r rest s hc hlen p now ch hstate hresume hsince hplay hq x v started mark
  have hlt : c < p.channels.length := hlen ▸ hc
  have hexec : exec (.channelResume c) s = .next (s.withPart (settleAll (p.resume c))) :=
    onUnit_of_lt hc (fun q => settleAll (q.resume c)) s
  have hv : v.channel c = { x with pin := p.pinOf c x } := (raise_channel ..).trans (channel_putChannel hlt x)
  have hvlt : c < v.channels.length := by
    show c < ((p.putChannel c x).raise (.channel c)).channels.length
    rw [raise_channels]
    simpa [Part.putChannel] using hlt
  have hdamage : v.damage = p.damage := by
    show ((p.putChannel c x).raise (.channel c)).damage = _
    rw [raise_eq_link]
    rfl
  have hnow : v.now = now := by
    show ((p.putChannel c x).raise (.channel c)).now = _
    rw [raise_eq_link]
    rfl
  have hplays (hdue : at0 ≤ now) (hread : (slot, SlotError.uncorrectable) ∉ p.damage) : exec (.channelResume c) s =
      .next (s.withPart (settleAll (v, [.arrive c 0 none (rest.length + 1) 0, .renderAgain c]))) := by
    rw [hexec, resume_of_due hstate hresume hsince hq hdue, if_neg hread]
    rfl
  have hhead : (v.channel c).queue = { slot := slot, content := .segment r } :: rest := by rw [hv]; exact hq
  have hplace : (v.channel c).queue[0]? = some { slot := slot, content := .segment r } := by rw [hhead]; rfl
  have hrest : (v.channel c).queue.length = rest.length + (0 + 1) := by rw [hhead]; rfl
  have hmark : (v.channel c).lowMark = mark := by rw [hv]; exact lowMark_eq ch
  refine ⟨fun hearly => ?_, fun hdue hsound => ⟨_, hplays hdue fun hmem => hsound _ hmem rfl, ?_⟩,
    fun hdue hmend hread => ⟨_, hplays hdue hread, ?_⟩, fun hdue hlost => ?_⟩
  · rw [hexec, resume_of_early hstate hresume hq hearly, settleAll_nil]
    rfl
  · have hstarted := started_of_arrival (before := rest.length + 1) (marker := 0) (carry := none) hvlt hplace
      (readSlot_of_sound (by rw [hdamage]; exact hsound)) hrest hmark
    rw [startTravel_none, hnow] at hstarted
    exact hstarted
  · have hstarted := started_of_arrival (before := rest.length + 1) (marker := 0) (carry := none) (p' := v.mended c slot)
      (by simpa [Part.mended] using hvlt) hplace (readSlot_of_correctable (by rw [hdamage]; exact hmend))
      (by rw [mended_channel, hrest]) (by rw [mended_channel, hmark])
    rw [startTravel_none, mended_now, hnow, mended_channel, ← mended_setChannel] at hstarted
    rw [← hdamage]
    exact hstarted
  · have hne : (p.channel c).state ≠ .faulted := fun h => by cases hstate.symm.trans h
    rw [hexec, resume_of_due hstate hresume hsince hq hdue, if_pos hlost, settleAll_nil, faultChannel_eq hne, ← hplay]

/-- Settles O32: a channel's run start, and its resumption. -/
theorem runStartedAndResumed : Obligations.RunStartedAndResumed := ⟨runStarted, channelResumed⟩

end Sys2Proof.Machine
end

section
/-! SUPPORT. Base values, the level tick with the play it takes first, and a render of the tick taken again (R28 to R32, R39 to
R42, R55, R56, R60; log entry 42). -/

namespace Sys2Proof.Machine

open Sys2Proof

/-! ### Base values (2.3.1, R28, R31) -/

theorem elapsedOf_eq (now : Nat) (pl : Play) (r : Segment) :
    elapsedOf now pl r = if r.basis = .time then now - pl.startTick else pl.travel / 65536 := by
  unfold elapsedOf
  cases r.basis <;> rfl

theorem valueAt_hold {r : Segment} (h : r.shape = .hold) (e : Nat) : r.valueAt e = r.start := by
  simp [Segment.valueAt, h]

/-- A segment's value as it starts is its start value, whatever its shape. -/
theorem valueAt_zero (r : Segment) : r.valueAt 0 = r.start := by
  unfold Segment.valueAt
  split <;> simp

section
variable {r : Segment} {stop : Nat} (hr : r.shape = .ramp) (hs : r.stop = some stop) (e : Nat)
include hr hs

theorem valueAt_rising (h : r.start ≤ stop) : r.valueAt e = r.start + (stop - r.start) * e / r.length := by
  have hslope : ((stop : Int) - r.start) * e = (((stop - r.start) * e : Nat) : Int) := by push_cast [Nat.cast_sub h]; rfl
  simp only [Segment.valueAt, hr, hs]
  rw [hslope, ← Int.ofNat_tdiv]
  generalize (stop - r.start) * e / r.length = q
  omega

theorem valueAt_falling (h : stop ≤ r.start) : r.valueAt e = r.start - (r.start - stop) * e / r.length := by
  have hslope : ((stop : Int) - r.start) * e = -(((r.start - stop) * e : Nat) : Int) := by
    push_cast [Nat.cast_sub h]
    ring
  simp only [Segment.valueAt, hr, hs]
  rw [hslope, Int.neg_tdiv, ← Int.ofNat_tdiv]
  generalize (r.start - stop) * e / r.length = q
  omega

end

theorem baseNow_of_play {ch : Channel} {pl : Play} {r : Segment} (hstate : ch.state = .running)
    (hplay : ch.playing = some (pl, r)) (now : Nat) : ch.baseNow now = r.valueAt (elapsedOf now pl r) := by
  simp [Channel.baseNow, hstate, hplay]

/-- BaseValues of O28. -/
theorem baseValues : Claims.BaseValues := by
  intro now ch
  refine ⟨fun hparked cfg hcfg => ?_, fun hheld => ?_, ?_⟩
  · rcases hparked with h | h | h <;> simp [Channel.baseNow, h, Channel.park, hcfg]
  · rcases hheld with h | h | h <;> simp [Channel.baseNow, h]
  · intro pl slot r hstate hpl hq e
    have hbase : ch.baseNow now = r.valueAt e := by
      rw [baseNow_of_play hstate (playing_eq_some.mpr ⟨hpl, slot, hq⟩), elapsedOf_eq]
    exact ⟨fun hr => hbase.trans (valueAt_hold hr _), fun stop hr hstop _ =>
      ⟨fun h => hbase.trans (valueAt_rising hr hstop _ h), fun h => hbase.trans (valueAt_falling hr hstop _ h)⟩⟩

/-! ### A level's render (R32, R39) -/

theorem levelled_iff (ch : Channel) :
    ch.levelled = true ↔ ch.state ≠ .off ∧ (ch.kind = some .level ∨ ch.kind = some .speed) := by
  simp only [Channel.levelled, Bool.and_eq_true, Bool.or_eq_true, decide_eq_true_eq]

theorem levelShow_of_level {ch : Channel} (h : ch.kind = some .level) (now : Nat) : ch.levelShow now =
    { ch with
      base := ch.baseNow now, output := shownValue ch.applied (ch.baseNow now) ch.output 12000
      dac := (shownValue ch.applied (ch.baseNow now) ch.output 12000 * 65535 + 6000) / 12000 } := by
  unfold Channel.levelShow
  simp only [h, show_eq_shown, top_of_kind h, dacCode_eq]
  rfl

theorem levelShow_of_speed {ch : Channel} (h : ch.kind = some .speed) (now : Nat) : ch.levelShow now =
    { ch with base := ch.baseNow now, output := shownValue ch.applied (ch.baseNow now) ch.output 40000 } := by
  unfold Channel.levelShow
  simp only [h, show_eq_shown, top_of_kind h]
  rfl

theorem levelRender_of_level {ch : Channel} (h : ch.kind = some .level) (now : Nat) : ch.levelRender now =
    let v := shownValue ch.modifier (ch.baseNow now) ch.output 12000
    { ch with
      base := ch.baseNow now, output := v, modifier := takenModifier ch.modifier (ch.output, 0)
      applied := takenModifier ch.modifier (ch.output, 0), dac := (v * 65535 + 6000) / 12000 } := by
  rw [Channel.levelRender, take_eq_taken, levelShow_of_level (by exact h)]
  simp only [shownValue_taken]
  rfl

theorem levelRender_of_speed {ch : Channel} (h : ch.kind = some .speed) (now : Nat) : ch.levelRender now =
    { ch with
      base := ch.baseNow now, output := shownValue ch.modifier (ch.baseNow now) ch.output 40000
      modifier := takenModifier ch.modifier (ch.output, 0), applied := takenModifier ch.modifier (ch.output, 0) } := by
  rw [Channel.levelRender, take_eq_taken, levelShow_of_speed (by exact h)]
  simp only [shownValue_taken]
  rfl

/-! ### The level tick (R28, R32, R39) -/

/-- With no play due on a level channel there is none to take first. -/
theorem playWhere_of_not {test : Channel → Bool} {p : Part} (h : ∀ c, test (p.channel c) = true → ¬(p.channel c).PlayDue p.now) :
    p.playWhere test = p := by
  refine settleAll_of_leads (.still fun t ht => ?_) ?_
  · obtain ⟨c, hc, rfl⟩ := List.mem_map.mp ht
    exact ⟨rfl, playDue_of_not (h c (List.mem_filter.mp hc).2)⟩
  · have hfew := List.length_filter_le (fun c => test (p.channel c)) (List.range Config.channels)
    rw [List.length_range] at hfew
    rw [List.length_map]
    exact hfew.trans (by decide)

/-- LevelsRendered of O28. -/
theorem levelsRendered : Claims.LevelsRendered := by
  intro s hmark p now levelled hdue
  have hnone : p.playWhere Channel.levelled = p := playWhere_of_not fun c hc => by
    have hlevelled := (levelled_iff _).mp hc
    have hmem : p.channel c ∈ p.channels := by
      have hlt := channel_lt hlevelled.1
      simp [Part.channel, List.getD_eq_getElem?_getD, hlt]
    exact hdue _ hmem hlevelled
  have hexec : exec .levelTick s = .next (s.withPart p.levelTick) := by
    show acted s (if s.part.marks.level then _ else _) = _
    rw [if_pos hmark]
    rfl
  refine ⟨p.levelTick.channels, ?_, ?_, fun c ch x hch hx => ?_⟩
  · rw [hexec, Part.levelTick, hnone]
    rfl
  · simp [Part.levelTick, hnone, Part.renderLevels, Part.mapChannels]
  · have hrender : x = if ch.levelled then { ch.levelRender now with pin := p.pinOf c (ch.levelRender now) } else ch := by
      simp only [Part.levelTick, hnone, Part.renderLevels, Part.mapChannels, List.getElem?_mapIdx] at hx
      rw [show p.channels[c]? = some ch from hch] at hx
      exact (Option.some.inj hx).symm
    refine ⟨fun hnot => ?_, fun hon => ⟨?_, fun hk => ?_⟩⟩
    · rw [hrender, if_neg (mt (levelled_iff ch).mp hnot)]
    · intro hk v
      rw [hrender, if_pos ((levelled_iff ch).mpr ⟨hon, .inl hk⟩), levelRender_of_level hk, pinOf_level (by exact hon) (by exact hk)]
    · rw [hrender, if_pos ((levelled_iff ch).mpr ⟨hon, .inr hk⟩), levelRender_of_speed hk, pinOf_speed (by exact hk)]

/-! ### A render of the tick taken again (R55, 3.5.1) -/

/-- Whether a channel's render of the tick has been taken: a level's at its level tick, the look, or a period begun on it. -/
theorem rendered_iff (now : Nat) (waits : Bool) (ch : Channel) : ch.rendered now waits = true ↔
    ch.levelled = true ∧ now % 10 = 0 ∧ waits = false ∨ ¬ch.levelled = true ∧
      ((ch.state ≠ .off ∧ ch.kind = some .pulse ∧ ch.period = none) ∨ (ch.kind = some .pwm ∨ ch.kind = some .pulse) ∧
        ∃ q, ch.period = some q ∧ q.start ≤ now * 40 ∧ now * 40 < q.start + 40) := by
  have hbegun : (ch.period.any fun q => q.begunOn now) = true ↔
      ∃ q, ch.period = some q ∧ q.start ≤ now * 40 ∧ now * 40 < q.start + 40 := by
    rw [Option.any_eq_true]
    simp only [Period.begunOn, Bool.and_eq_true, decide_eq_true_eq]
    rfl
  rw [← looking_iff]
  unfold Channel.rendered
  cases ch.levelled with
  | true => simp
  | false => simp only [Bool.false_eq_true, if_false, Bool.or_eq_true, Bool.and_eq_true, decide_eq_true_eq, hbegun, false_and,
      not_false_eq_true, true_and, false_or]

theorem again_of_pwm {ch : Channel} {q : Period} (hk : ch.kind = some .pwm) (hq : ch.period = some q) (now : Nat) :
    ch.again now = ch.pwmShow now q.start := by
  simp [Channel.again, Channel.levelled, Channel.looking, hk, hq]

theorem again_of_pulse {ch : Channel} {q : Period} (hk : ch.kind = some .pulse) (hq : ch.period = some q) (now : Nat) :
    ch.again now = ch.pulseShow now q.start := by
  simp [Channel.again, Channel.levelled, Channel.looking, hk, hq]

section
variable {c : Nat} {p : Part}

theorem renderAgain_of_due (h : (p.channel c).PlayDue p.now) : p.renderAgain c = p :=
  if_neg (by simp [(playWaits_iff _ _).mpr h])

theorem renderAgain_of_unrendered (h : ¬(p.channel c).rendered p.now p.marks.level = true) : p.renderAgain c = p :=
  if_neg (by simp [h])

theorem renderAgain_of_rendered (h : (p.channel c).rendered p.now p.marks.level = true) (hdue : ¬(p.channel c).PlayDue p.now) :
    p.renderAgain c = p.putChannel c ((p.channel c).again p.now) := if_pos (by simp [h, playWaits_of_not hdue])

end

/-- A channel whose record in play is of ANGLE basis, as the statement spells it. -/
theorem onAngle_iff (ch : Channel) : ch.onAngle = true ↔ ch.state = .running ∧ ∃ (pl : Play) (slot : Nat) (r : Segment),
    ch.play = some pl ∧ ch.queue[pl.place]? = some { slot := slot, content := .segment r } ∧ r.basis = .angle := by
  simp only [Channel.onAngle, Bool.and_eq_true, decide_eq_true_eq, Option.any_eq_true, Prod.exists, playing_eq_some]
  exact and_congr_right fun _ => ⟨fun ⟨pl, r, ⟨hpl, slot, hq⟩, hr⟩ => ⟨pl, slot, r, hpl, hq, hr⟩,
    fun ⟨pl, slot, r, hpl, hq, hr⟩ => ⟨pl, r, ⟨hpl, slot, hq⟩, hr⟩⟩

/-- A motion renders a channel again as `renderAgain` does, where its ANGLE record is in play. -/
theorem renderTravels_channel {c : Nat} {p : Part} (hc : c < p.channels.length) :
    p.renderTravels.channel c = if (p.channel c).onAngle then (p.renderAgain c).channel c else p.channel c := by
  rw [Part.renderTravels, mapChannels_channel c fun h => absurd hc (Nat.not_lt.mpr h)]
  unfold Part.renderAgain
  cases (p.channel c).onAngle with
  | false => rfl
  | true =>
    simp only [Bool.true_and, if_true]
    split
    · exact (channel_putChannel hc _).symm
    · rfl

/-- RenderedAgain of O28. -/
theorem renderedAgain : Claims.RenderedAgain := by
  intro c p hc hlen ch now b kind shown levelled taken begunNow angled
  have hlt : c < p.channels.length := hlen ▸ hc
  have hlevelled : ch.levelled = true ↔ levelled := levelled_iff ch
  have hrendered : (p.channel c).rendered p.now p.marks.level = true ↔ levelled ∧ taken ∨ ¬levelled ∧
      ((ch.state ≠ .off ∧ kind = some .pulse ∧ ch.period = none) ∨
        (kind = some .pwm ∨ kind = some .pulse) ∧ ∃ q, ch.period = some q ∧ begunNow q) := by
    have h := rendered_iff p.now p.marks.level ch
    rw [hlevelled] at h
    exact h
  have hshown (hdue : ¬ch.PlayDue now) (h : levelled ∧ taken ∨ ¬levelled ∧
      ((ch.state ≠ .off ∧ kind = some .pulse ∧ ch.period = none) ∨
        (kind = some .pwm ∨ kind = some .pulse) ∧ ∃ q, ch.period = some q ∧ begunNow q)) :
      p.renderAgain c = p.putChannel c (ch.again now) := renderAgain_of_rendered (hrendered.mpr h) hdue
  have hdull {k : Kind} (hk : kind = some k) (h : k = .pwm ∨ k = .pulse) : ¬levelled := by
    rintro ⟨-, hl | hl⟩ <;> rcases h with rfl | rfl <;> cases hk.symm.trans hl
  refine ⟨fun h => ?_, fun q hq hnot hbegun => ?_, fun hdue hon => ⟨fun hk ht => ?_, fun hk ht => ?_, fun hk hq => ?_,
    fun q hk hq hbegun => ?_, fun q hk hq hbegun => ?_⟩, fun h => ?_, fun h => ?_, rfl⟩
  · by_cases hdue : ch.PlayDue now
    · exact renderAgain_of_due hdue
    · refine renderAgain_of_unrendered fun hren => ?_
      rcases hrendered.mp hren with ⟨hl, ht⟩ | ⟨hl, ⟨hon, hk, hq⟩ | ⟨hk, q, hq, -⟩⟩
      · rcases h with h | ⟨h, -⟩ | h | h | ⟨-, h⟩ | ⟨h, -⟩
        · exact hdue h
        · exact hl.1 h
        · rcases hl.2 with hk | hk <;> cases h.symm.trans hk
        · rcases hl.2 with hk | hk <;> cases h.symm.trans hk
        · exact h ht
        · exact hdull h (.inl rfl) hl
      · rcases h with h | ⟨h, -⟩ | h | h | ⟨h, -⟩ | ⟨h, -⟩
        · exact hdue h
        · exact hon h
        · cases h.symm.trans hk
        · cases h.symm.trans hk
        · exact hl h
        · cases h.symm.trans hk
      · rcases h with h | ⟨-, h⟩ | h | h | ⟨h, -⟩ | ⟨-, h⟩
        · exact hdue h
        · cases h.symm.trans hq
        · rcases hk with hk | hk <;> cases h.symm.trans hk
        · rcases hk with hk | hk <;> cases h.symm.trans hk
        · exact hl h
        · cases h.symm.trans hq
  · refine renderAgain_of_unrendered fun hren => ?_
    rcases hrendered.mp hren with ⟨hl, -⟩ | ⟨-, ⟨-, -, hnone⟩ | ⟨-, q', hq', hb⟩⟩
    · exact hnot hl
    · cases hnone.symm.trans hq
    · cases hq.symm.trans hq'
      exact hbegun hb
  · have hl : levelled := ⟨hon, .inl hk⟩
    rw [hshown hdue (.inl ⟨hl, ht⟩), Channel.again, if_pos (hlevelled.mpr hl), levelShow_of_level hk, Part.putChannel,
      pinOf_level (by exact hon) (by exact hk)]
  · have hl : levelled := ⟨hon, .inr hk⟩
    rw [hshown hdue (.inl ⟨hl, ht⟩), Channel.again, if_pos (hlevelled.mpr hl), levelShow_of_speed hk, Part.putChannel,
      pinOf_speed (by exact hk)]
  · have hl : ¬levelled := hdull hk (.inr rfl)
    rw [hshown hdue (.inr ⟨hl, .inl ⟨hon, hk, hq⟩⟩), Channel.again, if_neg (mt hlevelled.mp hl),
      if_pos ((looking_iff ch).mpr ⟨hon, hk, hq⟩), show_eq_shown, top_of_kind hk]
    rfl
  · rw [hshown hdue (.inr ⟨hdull hk (.inl rfl), .inr ⟨.inl hk, q, hq, hbegun⟩⟩), again_of_pwm hk hq, pwmShow_eq hk]
  · rw [hshown hdue (.inr ⟨hdull hk (.inr rfl), .inr ⟨.inr hk, q, hq, hbegun⟩⟩), again_of_pulse hk hq, pulseShow_eq hk]
  · rw [renderTravels_channel hlt, if_pos ((onAngle_iff ch).mpr h)]
  · rw [renderTravels_channel hlt, if_neg (mt (onAngle_iff ch).mp h)]

/-! ### Play taken before the render (2.4.1, R56, R60) -/

/-- A segment of TIME basis that has reached its length ends, and play goes on to the record behind it, whether its slot is kept for
a loop or not. -/
theorem endSegment_of_time {c slot : Nat} {pl : Play} {r : Segment} {p : Part} (hstate : (p.channel c).state = .running)
    (hpl : (p.channel c).play = some pl) (hq : (p.channel c).queue[pl.place]? = some { slot := slot, content := .segment r })
    (hbasis : r.basis = .time) (hend : r.endFlag = false) (hdue : pl.startTick + r.length ≤ p.now) :
    ∃ (queue : List QRec) (place before marker : Nat), queue[place]? = (p.channel c).queue[pl.place + 1]? ∧
      p.endSegment c = (p.setChannel c { p.channel c with queue := queue, play := none, held := (p.channel c).base },
        [.arrive c place none before marker, .renderAgain c]) := by
  have hplaying := playing_eq_some.mpr ⟨hpl, slot, hq⟩
  have hreached : reachedLength p.now pl r = true := (reachedLength_iff ..).mpr (by rw [hbasis]; exact hdue)
  refine ⟨if retainedAt (p.channel c).queue pl.place then (p.channel c).queue else (p.channel c).queue.eraseIdx pl.place,
    if retainedAt (p.channel c).queue pl.place then pl.place + 1 else pl.place, (p.channel c).pending, r.marker.getD 0, ?_, ?_⟩
  · split
    · rfl
    · rw [List.getElem?_eraseIdx, if_neg (Nat.lt_irrefl _)]
  · unfold Part.endSegment
    simp only [hstate, hplaying, hreached, hend, hbasis]
    rfl

/-- A level tick that has not been taken waits for its render. -/
theorem renderAgain_of_waiting {c : Nat} {p : Part} (hlevel : (p.channel c).levelled = true) (hmark : p.marks.level = true) :
    p.renderAgain c = p := by
  refine renderAgain_of_unrendered fun h => ?_
  rcases (rendered_iff ..).mp h with ⟨-, -, hno⟩ | ⟨hno, -⟩
  · cases hmark.symm.trans hno
  · exact hno hlevel

/-- The play of one channel is all that is due among those a test picks. -/
theorem playWhere_of_one {test : Channel → Bool} {c n : Nat} {p q : Part} (hc : c < 32) (htest : test (p.channel c) = true)
    (hothers : ∀ d < 32, d ≠ c → ¬(p.channel d).PlayDue p.now) (hplay : Leads n [.play c] p q) (hn : n ≤ 100)
    (hnow : q.now = p.now) (hrest : ∀ d ≠ c, q.channel d = p.channel d) : p.playWhere test = q := by
  have hmem : c ∈ (List.range Config.channels).filter fun d => test (p.channel d) :=
    List.mem_filter.mpr ⟨List.mem_range.mpr hc, htest⟩
  have hnodup : ((List.range Config.channels).filter fun d => test (p.channel d)).Nodup := List.nodup_range.filter _
  obtain ⟨l₁, l₂, hl⟩ := List.append_of_mem hmem
  have hrange {d : Nat} (hd : d ∈ l₁ ++ c :: l₂) : d < 32 := by
    rw [← hl] at hd
    exact List.mem_range.mp (List.mem_filter.mp hd).1
  rw [hl, List.nodup_middle, List.nodup_cons] at hnodup
  have hbefore : Leads (l₁.map Task.play).length (l₁.map Task.play) p p := .still fun t ht => by
    obtain ⟨d, hd, rfl⟩ := List.mem_map.mp ht
    exact ⟨rfl, playDue_of_not (hothers d (hrange (by simp [hd])) fun h => hnodup.1 (by simp [← h, hd]))⟩
  have hafter : Leads (l₂.map Task.play).length (l₂.map Task.play) q q := .still fun t ht => by
    obtain ⟨d, hd, rfl⟩ := List.mem_map.mp ht
    have hne : d ≠ c := fun h => hnodup.1 (by simp [← h, hd])
    exact ⟨rfl, playDue_of_not (by rw [hrest d hne, hnow]; exact hothers d (hrange (by simp [hd])) hne)⟩
  have hfew : l₁.length + (l₂.length + 1) ≤ 32 := by
    have hle := List.length_filter_le (fun d => test (p.channel d)) (List.range Config.channels)
    rw [hl, List.length_range, List.length_append, List.length_cons] at hle
    exact hle
  rw [Part.playWhere, hl, List.map_append, List.map_cons]
  refine settleAll_of_leads (hbefore.append (hplay.append hafter)) ?_
  rw [List.length_map, List.length_map]
  unfold taskLimit
  omega

theorem renderLevels_channel {c : Nat} {p : Part} (hc : c < p.channels.length) : p.renderLevels.channel c =
    if (p.channel c).levelled then
      { (p.channel c).levelRender p.now with pin := p.pinOf c ((p.channel c).levelRender p.now) }
    else p.channel c :=
  mapChannels_channel c fun h => absurd hc (Nat.not_lt.mpr h)

/-- What a level tick shows of a channel, from the part that the play taken first leaves. -/
theorem levelTick_channel {c : Nat} {q p : Part} (hplay : p.playWhere Channel.levelled = q)
    (hlevel : (q.channel c).levelled = true) : ∃ pin, p.levelTick.channel c = { (q.channel c).levelRender q.now with pin := pin } := by
  have hlt : c < q.channels.length := channel_lt ((levelled_iff _).mp hlevel).1
  have hrender := renderLevels_channel (p := { q with marks := { q.marks with level := false } }) hlt
  rw [Part.levelTick, hplay]
  exact ⟨_, hrender.trans (if_pos hlevel)⟩

/-- With no modifier, a level channel shows its base value within its range. -/
theorem levelRender_of_unmodified {ch : Channel} {k : Kind} (hk : ch.kind = some k) (hlevel : k = .level ∨ k = .speed)
    (hm : ch.modifier = none) (now : Nat) : (ch.levelRender now).base = ch.baseNow now ∧
      (ch.levelRender now).output = min (ch.baseNow now) (if k = .level then 12000 else 40000) ∧
      (ch.levelRender now).state = ch.state ∧ (ch.levelRender now).play = ch.play ∧ (ch.levelRender now).queue = ch.queue := by
  rcases hlevel with rfl | rfl
  · rw [levelRender_of_level hk, hm]
    exact ⟨rfl, rfl, rfl, rfl, rfl⟩
  · rw [levelRender_of_speed hk, hm]
    exact ⟨rfl, rfl, rfl, rfl, rfl⟩

/-- PlayBeforeRender of O28. -/
theorem playBeforeRender : Claims.PlayBeforeRender := by
  refine ⟨fun s hmark => ?_, fun c slot k pl r s hc hlen hmark => ?_⟩
  · show acted s (if s.part.marks.level then _ else _) = _
    rw [hmark]
    rfl
  intro p now ch top hk hkind hm hstate hstart hpl hq hbasis hend hdue hothers
  have hlt : c < p.channels.length := hlen ▸ hc
  have hexec : exec .levelTick s = .next (s.withPart p.levelTick) := by
    show acted s (if s.part.marks.level then _ else _) = _
    rw [if_pos hmark]
    rfl
  have hlevelled {x : Channel} (hx : x.state ≠ .off) (hxk : x.kind = ch.kind) : x.levelled = true :=
    (levelled_iff x).mpr ⟨hx, by rw [hxk, show ch.kind = some k from hkind]; rcases hk with rfl | rfl <;> simp⟩
  have hplayDue : p.playDue c = p.endSegment c := by
    unfold Part.playDue
    simp only [show (p.channel c).state = .running from hstate, show (p.channel c).startAt = none from hstart]
    rfl
  obtain ⟨queue, place, before, marker, hbehind, hends⟩ := endSegment_of_time hstate hpl hq hbasis hend hdue
  let x : Channel := { ch with queue := queue, play := none, held := ch.base }
  let w := p.setChannel c x
  have hw : w.channel c = x := channel_setChannel _ _ _ hlt
  have hplay {n : Nat} {u q : Part} {ts : List Task} (harrive : w.arrive c place none before marker = (u, ts))
      (hleads : Leads n ts u q) (hlevel : (q.channel c).levelled = true) (hqmark : q.marks.level = true) :
      Leads (n + 1 + 1 + 1) [.play c] p q := by
    refine .task rfl ?_
    show Leads (n + 1 + 1) (p.playDue c).2 (p.playDue c).1 q
    rw [hplayDue, hends]
    have harrives : Leads (n + 1) [.arrive c place none before marker] w q := .task rfl (by
      show Leads n (w.arrive c place none before marker).2 (w.arrive c place none before marker).1 q
      rw [harrive]
      exact hleads)
    have hagain := leads_renderAgain c q
    rw [renderAgain_of_waiting hlevel hqmark] at hagain
    exact harrives.append hagain
  have hnew {q : Part} (hqlevel : (q.channel c).levelled = true) (hqk : (q.channel c).kind = ch.kind) (hqm : (q.channel c).modifier = none)
      {n : Nat} (hn : n ≤ 100) (hleads : Leads n [.play c] p q) (hnow : q.now = now) (hrest : ∀ d ≠ c, q.channel d = p.channel d) :
      ((p.levelTick).channel c).base = (q.channel c).baseNow now ∧
        ((p.levelTick).channel c).output = min ((q.channel c).baseNow now) top ∧
        ((p.levelTick).channel c).state = (q.channel c).state ∧ ((p.levelTick).channel c).play = (q.channel c).play ∧
        ((p.levelTick).channel c).queue = (q.channel c).queue := by
    have hfirst := playWhere_of_one hc (hlevelled (by rw [show (p.channel c).state = .running from hstate]; decide) rfl) hothers
      hleads hn hnow hrest
    obtain ⟨pin, hshow⟩ := levelTick_channel hfirst hqlevel
    rw [hshow, hnow]
    exact levelRender_of_unmodified (hqk.trans hkind) hk hqm now
  refine ⟨fun hlast => ?_, fun slot' r' hnext hsound hunwaited hlong => ?_⟩
  · have hstarves : w.arrive c place none before marker = (w.starve c marker, []) :=
      arrive_of_none (by rw [hw]; exact hbehind.trans (List.getElem?_eq_none hlast.le))
    have hne : (w.channel c).state ≠ .starved := by rw [hw]; exact fun h => by cases hstate.symm.trans h
    obtain ⟨pin, hch⟩ := starve_channel (marker := marker) (by simpa [w] using hlt) hne
    rw [hw] at hch
    have houter : (w.starve c marker).outer = p.outer := starve_outer ..
    have hlevel : ((w.starve c marker).channel c).levelled = true := by
      rw [hch]
      exact hlevelled (fun h => by cases h) rfl
    have hshown := hnew hlevel (by rw [hch]; rfl) (by rw [hch]; exact hm) (by decide)
      (hplay hstarves (.nil _) hlevel (by rw [marks_of_outer houter]; exact hmark)) (congrArg Clock.ticks (clock_of_outer houter))
      fun d hd => (starve_channel_ne hd hne).trans (channel_setChannel_ne hd x p)
    rw [hch] at hshown
    obtain ⟨hbase, houtput, hst, -, -⟩ := hshown
    exact ⟨_, hexec, hst, hbase, houtput⟩
  · let y := x.startedAt now place 0 r'
    let v := w.setChannel c y
    let q := (v.markRaised c r').lowWater c before
    have hstarts : w.arrive c place none before marker = (v, startWork c 0 before r') := by
      rw [arrive_of_segment (by rw [hw]; exact hbehind.trans hnext) (readSlot_of_sound (p := w) hsound), startTravel_none, hw]
      rfl
    have hch : q.channel c = y := by
      rw [lowWater_channel, markRaised_channel]
      exact channel_setChannel _ _ _ (by simpa [w] using hlt)
    have hrest (d : Nat) (hd : d ≠ c) : q.channel d = p.channel d := by
      rw [lowWater_channel, markRaised_channel, channel_setChannel_ne hd, channel_setChannel_ne hd]
    have houter : q.outer = p.outer := (lowWater_outer ..).trans markRaised_outer
    have hlevel : (q.channel c).levelled = true := by
      rw [hch]
      exact hlevelled (fun h => by cases hstate.symm.trans h) rfl
    have hopen : ¬(r'.basis = .angle ∧ r'.length * 65536 ≤ 0) := fun h => by omega
    have hshown := hnew hlevel (by rw [hch]; rfl) (by rw [hch]; exact hm) (by decide)
      (hplay hstarts (leads_startWork hopen hunwaited) hlevel (by rw [marks_of_outer houter]; exact hmark))
      (congrArg Clock.ticks (clock_of_outer houter)) hrest
    have hplaying : y.playing = some ({ place := place, startTick := now, travel := 0 }, r') :=
      playing_eq_some.mpr ⟨rfl, slot', hbehind.trans hnext⟩
    have hbase : y.baseNow now = r'.start := by
      rw [baseNow_of_play (ch := y) hstate hplaying, elapsedOf_eq]
      simp [valueAt_zero]
    rw [hch, hbase] at hshown
    obtain ⟨hb, houtput, hst, hpl', hqueue⟩ := hshown
    exact ⟨_, place, hexec, hst.trans hstate, hpl',
      (congrArg (fun l : List QRec => l[place]?) hqueue).trans (hbehind.trans hnext), hb, houtput⟩

/-- Settles O28: the level tick, the play it takes first, a render taken again, and the base values. -/
theorem levelsAndBasesRendered : Obligations.LevelsAndBasesRendered :=
  ⟨levelsRendered, playBeforeRender, renderedAgain, baseValues⟩

end Sys2Proof.Machine
end

section
/-! SUPPORT. A group's start: each member whole before the next, and then the group counted (R25, R55, R60, R62, R63, R65, R82). -/

namespace Sys2Proof.Machine

open Sys2Proof

/-! ### The part beside its channel and group tables -/

/-- The part with other tables of channels and groups. -/
def Part.withTables (cs : List Channel) (gs : List Group) (p : Part) : Part := { p with channels := cs, groups := gs }

/-- Some causes raised, errors logged and occurrences counted: what a start does beside the channel table (R63, R72, R162). -/
structure Part.Noted (p q : Part) : Prop where
  frame   : q = { p with slots := q.slots, log := q.log, link := q.link }
  sources : ∀ n, (q.slot n).source = (p.slot n).source
  slots   : q.slots.length = p.slots.length

section
variable {p q v : Part}

theorem Part.Noted.refl (p : Part) : p.Noted p := ⟨rfl, fun _ => rfl, rfl⟩

theorem Part.Noted.trans (h : p.Noted q) (h' : q.Noted v) : p.Noted v :=
  ⟨h'.frame.trans (by rw [h.frame]), fun n => (h'.sources n).trans (h.sources n), h'.slots.trans h.slots⟩

theorem eq_of_noted {cs : List Channel} {gs : List Group} (h : p.Noted v) (hq : q = v.withTables cs gs) :
    q = { p with channels := q.channels, groups := q.groups, slots := v.slots, log := v.log, link := v.link } := by
  subst hq
  exact congrArg (Part.withTables cs gs) h.frame

theorem noted_raise (src : NoticeSource) (p : Part) : p.Noted (p.raise src) := by
  have hframe := raise_eq_link src p
  exact ⟨by rw [hframe], fun n => by rw [hframe]; rfl, by rw [hframe]⟩

theorem noted_logError (code : ErrCode) (sub : Subject) (d : Int) (p : Part) : p.Noted (p.logError code sub d) := by
  have hlogged : p.Noted { p with log := p.log.write ((p.log.of code.cls).add ⟨code, sub, d, p.stamp⟩) code.cls } :=
    ⟨rfl, fun _ => rfl, rfl⟩
  exact hlogged.trans (noted_raise ..)

theorem noted_counted (o : Occurrence) (p : Part) : p.Noted (p.counted o) :=
  ⟨rfl, counted_source o p, List.length_map _⟩

theorem noted_markCounted (c : Nat) (r : Segment) (p : Part) : p.Noted (p.markCounted c r) := by
  unfold Part.markCounted
  cases r.marker with
  | none => exact .refl p
  | some m => exact noted_counted ..

theorem noted_fallen (c before after mark : Nat) (p : Part) : p.Noted (p.fallen c before after mark) := by
  unfold Part.fallen
  split
  · exact noted_raise ..
  · exact .refl p

end

section
variable (cs : List Channel) (gs : List Group) (p : Part)

theorem raise_withTables (src : NoticeSource) : (p.withTables cs gs).raise src = (p.raise src).withTables cs gs := by
  have hqueued : (p.withTables cs gs).queued src = p.queued src := rfl
  have hlink : (p.withTables cs gs).link = p.link := rfl
  unfold Part.raise
  rw [hqueued, hlink]
  split_ifs <;> rfl

theorem logError_withTables (code : ErrCode) (sub : Subject) (d : Int) :
    (p.withTables cs gs).logError code sub d = (p.logError code sub d).withTables cs gs :=
  raise_withTables cs gs { p with log := p.log.write ((p.log.of code.cls).add ⟨code, sub, d, p.stamp⟩) code.cls } _

theorem markCounted_withTables (c : Nat) (r : Segment) :
    (p.withTables cs gs).markCounted c r = (p.markCounted c r).withTables cs gs := by
  unfold Part.markCounted
  cases r.marker <;> rfl

theorem fallen_withTables (c before after mark : Nat) :
    (p.withTables cs gs).fallen c before after mark = (p.fallen c before after mark).withTables cs gs := by
  unfold Part.fallen
  split
  · exact raise_withTables ..
  · rfl

end

/-! ### What a member's start raises, logs and counts -/

/-- The head record of a channel's queue cannot be read where its slot has an error beyond correction. -/
def Part.lostSlot (p : Part) (slot : Nat) : Bool := p.damage.any fun d => d.1 = slot

/-- What the start of a channel, as it stands in `p`, brings about beside the channel itself. -/
def Part.memberEffects (p v : Part) (k : Nat) : Part :=
  if (p.channel k).kind = some .wheel then v.raise (.channel k)
  else
    match (p.channel k).queue with
    | [] => ((v.raise (.channel k)).logError .channelUnderrun (.channel k) 0).raise (.channel k)
    | x :: rest =>
      match x.content with
      | .segment r =>
        if p.lostSlot x.slot then ((v.raise (.channel k)).logError .storeUncorrectable (.channel k) x.slot).raise (.channel k)
        else ((v.raise (.channel k)).markCounted k r).fallen k (rest.length + 1) rest.length (p.channel k).lowMark
      | .loop _ _ _ _ => v.raise (.channel k)

theorem memberEffects_withTables (p : Part) (cs : List Channel) (gs : List Group) (v : Part) (k : Nat) :
    p.memberEffects (v.withTables cs gs) k = (p.memberEffects v k).withTables cs gs := by
  unfold Part.memberEffects
  rw [raise_withTables]
  split
  · rfl
  · split
    · rw [logError_withTables, raise_withTables]
    · split
      · split
        · rw [logError_withTables, raise_withTables]
        · rw [markCounted_withTables, fallen_withTables]
      · rfl

theorem noted_memberEffects (p v : Part) (k : Nat) : v.Noted (p.memberEffects v k) := by
  unfold Part.memberEffects
  have hraised := noted_raise (.channel k) v
  split
  · exact hraised
  · split
    · exact (hraised.trans (noted_logError ..)).trans (noted_raise ..)
    · split
      · split
        · exact (hraised.trans (noted_logError ..)).trans (noted_raise ..)
        · exact (hraised.trans (noted_markCounted ..)).trans (noted_fallen ..)
      · exact hraised

theorem foldl_memberEffects_withTables (p : Part) (cs : List Channel) (gs : List Group) (ks : List Nat) (v : Part) :
    ks.foldl p.memberEffects (v.withTables cs gs) = (ks.foldl p.memberEffects v).withTables cs gs := by
  induction ks generalizing v with
  | nil => rfl
  | cons k ks ih => rw [List.foldl_cons, memberEffects_withTables, ih, List.foldl_cons]

theorem noted_foldl_memberEffects (p : Part) (ks : List Nat) (v : Part) : v.Noted (ks.foldl p.memberEffects v) := by
  induction ks generalizing v with
  | nil => exact .refl v
  | cons k ks ih => exact (noted_memberEffects p v k).trans (ih _)

/-! ### One member started (R82) -/

/-- What a member is left as by its group's start, as the statement describes it. -/
structure Part.StartsAs (p : Part) (k : Nat) (y : Channel) : Prop where
  wheel : (p.channel k).kind = some .wheel →
    let x := ({ p.channel k with state := .running, runStart := some p.clock.ticks, startAt := none, held := (p.channel k).park } :
      Channel).wheelRender (p.patternOf (p.channel k)) (p.engine.acc / 65536)
    y = { x with pin := p.pinOf k x }
  starved : (p.channel k).kind ≠ some .wheel → (p.channel k).queue = [] →
    y.state = .starved ∧ y.starvedAt = some p.clock.ticks ∧ y.play = none ∧ y.queue = [] ∧ y.runStart = some p.clock.ticks ∧
      y.held = (p.channel k).park
  lost : ∀ slot r rest, (p.channel k).kind ≠ some .wheel →
    (p.channel k).queue = { slot := slot, content := .segment r } :: rest → p.lostSlot slot = true →
      y.state = .faulted ∧ y.queue = [] ∧ y.held = (p.channel k).park
  plays : ∀ slot r rest, (p.channel k).kind ≠ some .wheel →
    (p.channel k).queue = { slot := slot, content := .segment r } :: rest → p.lostSlot slot = false →
      y.state = .running ∧ y.queue = (p.channel k).queue ∧ y.play = some { place := 0, startTick := p.clock.ticks, travel := 0 } ∧
        y.runStart = some p.clock.ticks ∧
        ((p.channel k).kind = some .level ∨ (p.channel k).kind = some .speed → p.clock.ticks % 10 = 0 → p.marks.level = false →
          y.base = r.start)

/-- A part in which some of the members have started: the part before, but for its tables and notes. -/
structure Part.Joining (p u : Part) : Prop where
  frame    : u = { p with channels := u.channels, groups := u.groups, slots := u.slots, log := u.log, link := u.link }
  sources  : ∀ n, (u.slot n).source = (p.slot n).source
  slots    : u.slots.length = p.slots.length
  channels : u.channels.length = p.channels.length
  armed    : ∀ g c w, (u.group g).armed = some (c, w) → (p.group g).armed = some (c, w)

section
variable {p u v : Part} (h : p.Joining u)
include h

theorem Part.Joining.now : u.now = p.now := by rw [h.frame]; rfl
theorem Part.Joining.damage : u.damage = p.damage := by rw [h.frame]
theorem Part.Joining.marks : u.marks = p.marks := by rw [h.frame]
theorem Part.Joining.angle : u.engine.angle = p.engine.angle := by rw [h.frame]
theorem Part.Joining.pinOf (c : Nat) (x : Channel) : u.pinOf c x = p.pinOf c x := by rw [h.frame]; rfl
theorem Part.Joining.patternOf (x : Channel) : u.patternOf x = p.patternOf x := by rw [h.frame]; rfl

theorem Part.Joining.unwaited {o : Occurrence} (ho : p.Unwaited o) : u.Unwaited o :=
  ho.of_eq (by rw [h.frame]) h.armed h.sources

theorem Part.Joining.withNotes (hv : u.Noted v) {cs : List Channel} (hcs : cs.length = u.channels.length) :
    p.Joining (v.withTables cs u.groups) where
  frame := by
    have hframe := hv.frame
    rw [h.frame] at hframe
    rw [hframe]
    rfl
  sources n := (hv.sources n).trans (h.sources n)
  slots := hv.slots.trans h.slots
  channels := hcs.trans h.channels
  armed := h.armed

theorem Part.Joining.raise (src : NoticeSource) : p.Joining (u.raise src) := by
  have hnoted := noted_raise src u
  have htables : (u.raise src).withTables u.channels u.groups = u.raise src := by
    rw [hnoted.frame]
    rfl
  exact htables ▸ h.withNotes hnoted rfl

end

/-! ### A channel started, and its render taken again -/

/-- A channel as its group's start makes it RUNNING, at its park value (R82). -/
def Channel.joined (now : Nat) (ch : Channel) : Channel :=
  { ch with state := .running, runStart := some now, startAt := none, held := ch.park }

/-- A record that starts on the tick does not end on it. -/
theorem not_playDue_of_started {now slot : Nat} {r : Segment} {ch : Channel} (hstate : ch.state = .running)
    (hstart : ch.startAt = none) (hpl : ch.play = some { place := 0, startTick := now, travel := 0 })
    (hq : ch.queue[0]? = some { slot := slot, content := .segment r }) (hlong : 1 ≤ r.length) : ¬ch.PlayDue now := by
  rintro (⟨-, t, ht, -⟩ | ⟨-, -, pl, slot', r', hpl', hq', hdue⟩ | ⟨hs, -⟩)
  · cases hstart.symm.trans ht
  · obtain rfl := Option.some.inj (hpl.symm.trans hpl')
    cases Option.some.inj (hq.symm.trans hq')
    cases hb : r.basis <;> simp only [hb] at hdue <;> omega
  · cases hstate.symm.trans hs

/-- A render taken again writes what is shown alone. -/
theorem again_frame (now : Nat) (ch : Channel) : ch.again now = { ch with
    base := (ch.again now).base, output := (ch.again now).output, dac := (ch.again now).dac, period := (ch.again now).period } := by
  unfold Channel.again Channel.levelShow Channel.pwmShow Channel.pulseShow
  simp only [show_eq_shown, pulseFrom_eq]
  split
  · split <;> rfl
  · split
    · rfl
    · split <;> rfl

section
variable {c : Nat} {y : Channel} {p : Part}

theorem renderAgain_frame (hc : c < p.channels.length) (y : Channel) : ∃ z,
    (p.setChannel c y).renderAgain c = p.setChannel c z ∧
      z = { y with base := z.base, output := z.output, dac := z.dac, period := z.period, pin := z.pin } := by
  have hy : (p.setChannel c y).channel c = y := channel_setChannel c y p hc
  by_cases hr : ((p.setChannel c y).channel c).rendered p.now p.marks.level = true
  · by_cases hdue : ((p.setChannel c y).channel c).PlayDue p.now
    · exact ⟨y, renderAgain_of_due hdue, rfl⟩
    · rw [renderAgain_of_rendered hr hdue, hy, putChannel_setChannel, Part.putChannel, again_frame]
      exact ⟨_, rfl, rfl⟩
  · exact ⟨y, renderAgain_of_unrendered hr, rfl⟩

/-- A level's render taken again shows its base value anew. -/
theorem renderAgain_base (hc : c < p.channels.length) (hlevel : y.levelled = true) (htick : p.now % 10 = 0)
    (hmark : p.marks.level = false) (hdue : ¬y.PlayDue p.now) :
    (((p.setChannel c y).renderAgain c).channel c).base = y.baseNow p.now := by
  have hy : (p.setChannel c y).channel c = y := channel_setChannel c y p hc
  have hrendered : ((p.setChannel c y).channel c).rendered p.now p.marks.level = true := by
    rw [hy]
    exact (rendered_iff ..).mpr (.inl ⟨hlevel, htick, hmark⟩)
  rw [renderAgain_of_rendered hrendered (by rw [hy]; exact hdue), hy, channel_putChannel (by simpa using hc), Channel.again,
    if_pos hlevel]
  rcases ((levelled_iff y).mp hlevel).2 with hk | hk
  · rw [levelShow_of_level hk]
    rfl
  · rw [levelShow_of_speed hk]
    rfl

end

/-! ### Play that starves, faults or starts a channel just written (R55, R60, R65) -/

section
variable {c : Nat} {x : Channel} {p : Part}

theorem renderWheel_setChannel (hc : c < p.channels.length) : (p.setChannel c x).renderWheel c =
    p.setChannel c { x.wheelRender (p.patternOf x) p.engine.angle with
      pin := p.pinOf c (x.wheelRender (p.patternOf x) p.engine.angle) } := by
  rw [Part.renderWheel, channel_setChannel c x p hc, putChannel_setChannel]
  rfl

theorem starve_setChannel (hc : c < p.channels.length) (h : x.state ≠ .starved) (marker : Nat) : ∃ pin,
    (p.setChannel c x).starve c marker =
      ((p.logError .channelUnderrun (.channel c) marker).raise (.channel c)).setChannel c { x with
        state := .starved, play := none, starvedAt := some p.now, startAt := none, resumeAt := none, pin := pin } := by
  have hx : (p.setChannel c x).channel c = x := channel_setChannel c x p hc
  rw [starve_eq (by rw [hx]; exact h), hx, logError_setChannel, putChannel_setChannel, Part.putChannel, raise_setChannel]
  exact ⟨_, rfl⟩

theorem faultChannel_setChannel (hc : c < p.channels.length) (h : x.state ≠ .faulted) (slot : Nat) : ∃ pin,
    (p.setChannel c x).faultChannel c slot =
      ((p.logError .storeUncorrectable (.channel c) slot).raise (.channel c)).setChannel c { x with
        state := .faulted, queue := [], play := none, starvedAt := none, startAt := none, resumeAt := none, pin := pin } := by
  have hx : (p.setChannel c x).channel c = x := channel_setChannel c x p hc
  rw [faultChannel_eq (by rw [hx]; exact h), hx, logError_setChannel, putChannel_setChannel, Part.putChannel, raise_setChannel]
  exact ⟨_, rfl⟩

theorem markCounted_setChannel (r : Segment) : (p.setChannel c x).markCounted c r = (p.markCounted c r).setChannel c x := by
  unfold Part.markCounted
  cases r.marker <;> rfl

theorem fallen_setChannel (before after mark : Nat) :
    (p.setChannel c x).fallen c before after mark = (p.fallen c before after mark).setChannel c x := by
  unfold Part.fallen
  split
  · exact raise_setChannel ..
  · rfl

end

/-! ### One member (R82) -/

theorem wheelRender_pin (pt : Option Pattern) (angle pin : Nat) (ch : Channel) :
    ({ ch with pin := pin } : Channel).wheelRender pt angle = { ch.wheelRender pt angle with pin := pin } := by
  unfold Channel.wheelRender
  simp only [show_eq_shown]
  split
  · cases ch.applied with
    | none => rfl
    | some m =>
      obtain ⟨_, fault, _⟩ := m
      cases fault <;> rfl
  · rfl

theorem startMember_eq {k : Nat} {u : Part} (hprimed : (u.channel k).state = .primed) :
    let x := (u.channel k).joined u.now
    let w := (u.raise (.channel k)).setChannel k { x with pin := u.pinOf k x }
    u.startMember k =
      if (u.channel k).kind = some .wheel then (w.renderWheel k, [])
      else (w, [.arrive k 0 none (u.channel k).queue.length 0, .renderAgain k]) := by
  have hne : (u.channel k).state ≠ .running := by rw [hprimed]; decide
  unfold Part.startMember
  simp only
  rw [if_pos hprimed, enterState_of_ne hne, Part.putChannel, raise_setChannel]
  rfl

/-- Play of a member that is over at once, or leaves one start, and the render after it. -/
theorem leads_startMember_of_arrival {k n : Nat} {u w q : Part} (hstart : u.startMember k = (w, [.arrive k 0 none n 0, .renderAgain k]))
    {m : Nat} (harrive : Leads m (w.arrive k 0 none n 0).2 (w.arrive k 0 none n 0).1 q) :
    Leads (m + 1 + 1 + 1) [.startMember k] u (q.renderAgain k) := by
  refine .task rfl ?_
  show Leads (m + 1 + 1) (u.startMember k).2 (u.startMember k).1 _
  rw [hstart]
  have hplayed : Leads (m + 1) [.arrive k 0 none n 0] w q := .task rfl harrive
  exact hplayed.append (leads_renderAgain k q)

theorem find_of_lostSlot {slot : Nat} {p : Part} (hdamage : ∀ d ∈ p.damage, d.2 = .uncorrectable) (h : p.lostSlot slot = true) :
    p.damage.find? (fun d => d.1 = slot) = some (slot, .uncorrectable) := by
  have hsome : (p.damage.find? fun d => d.1 = slot).isSome = true := List.find?_isSome.mpr (List.any_eq_true.mp h)
  obtain ⟨d, hd⟩ := Option.isSome_iff_exists.mp hsome
  have hslot : d.1 = slot := by simpa using List.find?_some hd
  have hlost := hdamage d (List.mem_of_find?_eq_some hd)
  rw [hd, ← hslot, ← hlost]

/-- A member as its start first writes it (R82). -/
def Part.joined (p : Part) (k : Nat) : Channel :=
  { (p.channel k).joined p.now with pin := p.pinOf k ((p.channel k).joined p.now) }

section
variable {k : Nat} {p u : Part} (h : p.Joining u) (hk : k < p.channels.length) (hch : u.channel k = p.channel k)
  (hprimed : (p.channel k).state = .primed)
include h hk

theorem Part.Joining.lt_raise : k < (u.raise (.channel k)).channels.length := by
  rw [raise_channels, h.channels]
  exact hk

theorem Part.Joining.lt_effects : k < (p.memberEffects u k).channels.length := by
  rw [(noted_memberEffects p u k).frame]
  exact h.channels ▸ hk

theorem Part.Joining.channel_joined : ((u.raise (.channel k)).setChannel k (p.joined k)).channel k = p.joined k :=
  channel_setChannel _ _ _ (h.lt_raise hk)

omit hk in
include hch hprimed in
theorem startMember_of_joining : u.startMember k =
    if (p.channel k).kind = some .wheel then (((u.raise (.channel k)).setChannel k (p.joined k)).renderWheel k, [])
    else ((u.raise (.channel k)).setChannel k (p.joined k), [.arrive k 0 none (p.channel k).queue.length 0, .renderAgain k]) := by
  rw [startMember_eq (by rw [hch]; exact hprimed), hch, h.now, h.pinOf]
  rfl

include hch hprimed

/-- A WHEEL member renders from the angle. -/
theorem leads_startMember_of_wheel (hwheel : (p.channel k).kind = some .wheel) :
    ∃ y, p.StartsAs k y ∧ Leads 5 [.startMember k] u ((p.memberEffects u k).setChannel k y) := by
  have hrender : ((u.raise (.channel k)).setChannel k (p.joined k)).renderWheel k = (p.memberEffects u k).setChannel k
      (let z := ((p.channel k).joined p.now).wheelRender (p.patternOf (p.channel k)) (p.engine.acc / 65536)
       { z with pin := p.pinOf k z }) := by
    have hraised : p.memberEffects u k = u.raise (.channel k) := if_pos hwheel
    have hN := h.raise (.channel k)
    rw [hraised, renderWheel_setChannel (h.lt_raise hk), hN.patternOf, hN.angle, hN.pinOf, Part.joined, wheelRender_pin]
    rfl
  refine ⟨_, ⟨fun _ => rfl, fun hno => absurd hwheel hno, fun _ _ _ hno => absurd hwheel hno,
    fun _ _ _ hno => absurd hwheel hno⟩, ?_⟩
  refine (Leads.task (n := 0) rfl ?_).mono (by omega)
  show Leads 0 (u.startMember k).2 (u.startMember k).1 _
  rw [startMember_of_joining h hch hprimed, if_pos hwheel, hrender]
  exact .nil _

/-- Play ends in `y`, and the render taken again changes what it shows alone. -/
theorem leads_startMember_of_play (hwheel : (p.channel k).kind ≠ some .wheel) {m : Nat} {y : Channel} {v : Part} {ts : List Task}
    (harrive : ((u.raise (.channel k)).setChannel k (p.joined k)).arrive k 0 none (p.channel k).queue.length 0 = (v, ts))
    (hm : m ≤ 2) (hplay : Leads m ts v ((p.memberEffects u k).setChannel k y)) :
    ∃ z, Leads 5 [.startMember k] u ((p.memberEffects u k).setChannel k z) ∧
      ((p.memberEffects u k).setChannel k y).renderAgain k = (p.memberEffects u k).setChannel k z ∧
      z = { y with base := z.base, output := z.output, dac := z.dac, period := z.period, pin := z.pin } := by
  have hstart := startMember_of_joining h hch hprimed
  rw [if_neg hwheel] at hstart
  obtain ⟨z, hagain, hz⟩ := renderAgain_frame (h.lt_effects hk) y
  refine ⟨z, ?_, hagain, hz⟩
  rw [← hagain]
  exact (leads_startMember_of_arrival hstart (by rw [harrive]; exact hplay)).mono (by omega)

/-- A member with an empty queue is STARVED. -/
theorem leads_startMember_of_empty (hwheel : (p.channel k).kind ≠ some .wheel) (hq : (p.channel k).queue = []) :
    ∃ y, p.StartsAs k y ∧ Leads 5 [.startMember k] u ((p.memberEffects u k).setChannel k y) := by
  obtain ⟨pin, hstarve⟩ := starve_setChannel (x := p.joined k) (h.lt_raise hk) (fun h => by cases h) 0
  have harrive := arrive_of_none (p := (u.raise (.channel k)).setChannel k (p.joined k)) (c := k) (place := 0) (carry := none)
    (before := (p.channel k).queue.length) (marker := 0) (by
      rw [h.channel_joined hk]
      exact congrArg (fun l : List QRec => l[0]?) hq)
  have hraised : p.memberEffects u k =
      ((u.raise (.channel k)).logError .channelUnderrun (.channel k) 0).raise (.channel k) := by
    rw [Part.memberEffects, if_neg hwheel, hq]
  obtain ⟨z, hleads, -, hz⟩ := leads_startMember_of_play h hk hch hprimed hwheel (m := 0) (y := _) harrive (by omega) (by
    rw [hstarve, hraised]
    exact .nil _)
  have hnow : (u.raise (.channel k)).now = p.clock.ticks := (h.raise (.channel k)).now
  exact ⟨z, ⟨fun hno => absurd hno hwheel, fun _ _ => hz ▸ ⟨rfl, congrArg some hnow, rfl, hq, rfl, rfl⟩,
    fun _ _ _ _ hno => (by cases hq.symm.trans hno), fun _ _ _ _ hno => (by cases hq.symm.trans hno)⟩, hleads⟩

section
variable {slot : Nat} {r : Segment} {rest : List QRec}
  (hq : (p.channel k).queue = { slot := slot, content := .segment r } :: rest)

omit hch hprimed in
include hq in
theorem Part.Joining.head_joined : (((u.raise (.channel k)).setChannel k (p.joined k)).channel k).queue[0]? =
    some { slot := slot, content := .segment r } := by
  rw [h.channel_joined hk]
  exact congrArg (fun l : List QRec => l[0]?) hq

include hq

/-- A member whose head record is beyond correction is FAULTED. -/
theorem leads_startMember_of_lost (hwheel : (p.channel k).kind ≠ some .wheel)
    (hdamage : ∀ d ∈ p.damage, d.2 = .uncorrectable) (hlost : p.lostSlot slot = true) :
    ∃ y, p.StartsAs k y ∧ Leads 5 [.startMember k] u ((p.memberEffects u k).setChannel k y) := by
  obtain ⟨pin, hfault⟩ := faultChannel_setChannel (x := p.joined k) (h.lt_raise hk) (fun h => by cases h) slot
  have hfound : ((u.raise (.channel k)).setChannel k (p.joined k)).damage.find? (fun d => d.1 = slot) =
      some (slot, .uncorrectable) := by
    rw [setChannel_damage, (h.raise (.channel k)).damage]
    exact find_of_lostSlot hdamage hlost
  have harrive := arrive_of_lost (carry := none) (before := (p.channel k).queue.length) (marker := 0) (h.head_joined hk hq)
    (readSlot_of_lost hfound)
  have hraised : p.memberEffects u k =
      ((u.raise (.channel k)).logError .storeUncorrectable (.channel k) slot).raise (.channel k) := by
    rw [Part.memberEffects, if_neg hwheel, hq]
    exact if_pos hlost
  obtain ⟨z, hleads, -, hz⟩ := leads_startMember_of_play h hk hch hprimed hwheel (m := 0) (y := _) harrive (by omega) (by
    rw [hfault, hraised]
    exact .nil _)
  refine ⟨z, ⟨fun hno => absurd hno hwheel, fun _ hno => (by cases hq.symm.trans hno),
    fun _ _ _ _ _ _ => hz ▸ ⟨rfl, rfl, rfl⟩, fun _ _ _ _ hq' hno => ?_⟩, hleads⟩
  cases hq.symm.trans hq'
  cases hlost.symm.trans hno

/-- A member's head record is in play from the tick. -/
theorem leads_startMember_of_segment (hwheel : (p.channel k).kind ≠ some .wheel) (hslots : p.slots.length = 16)
    (hlost : p.lostSlot slot = false) (hlong : 1 ≤ r.length) (hmark : p.MarkUnwaited k r) :
    ∃ y, p.StartsAs k y ∧ Leads 5 [.startMember k] u ((p.memberEffects u k).setChannel k y) := by
  have hN := h.raise (.channel k)
  let y := (p.joined k).startedAt (u.raise (.channel k)).now 0 0 r
  let v := (u.raise (.channel k)).setChannel k y
  have hsound : ∀ d ∈ ((u.raise (.channel k)).setChannel k (p.joined k)).damage, d.1 ≠ slot := by
    rw [setChannel_damage, hN.damage]
    simpa [Part.lostSlot] using hlost
  have harrive : ((u.raise (.channel k)).setChannel k (p.joined k)).arrive k 0 none (p.channel k).queue.length 0 =
      (v, startWork k 0 (p.channel k).queue.length r) := by
    rw [arrive_of_segment (h.head_joined hk hq) (readSlot_of_sound hsound), startTravel_none, h.channel_joined hk,
      setChannel_setChannel]
    rfl
  have hraised : p.memberEffects u k = ((u.raise (.channel k)).markCounted k r).fallen k (rest.length + 1) rest.length
      (p.channel k).lowMark := by
    rw [Part.memberEffects, if_neg hwheel, hq]
    exact if_neg (by simp [hlost])
  have hv : (v.markCounted k r).channel k = y := (markCounted_channel ..).trans (channel_setChannel _ _ _ (h.lt_raise hk))
  have hwork : (v.markRaised k r).lowWater k (p.channel k).queue.length = (p.memberEffects u k).setChannel k y := by
    have hlength : (p.channel k).queue.length = rest.length + 1 := congrArg List.length hq
    have hafter : ((v.markCounted k r).channel k).pending = rest.length := by
      rw [hv]
      exact (congrArg (fun l : List QRec => l.length - (0 + 1)) hq).trans (Nat.add_sub_cancel ..)
    have hmarked : ((v.markCounted k r).channel k).lowMark = (p.channel k).lowMark := by rw [hv]; rfl
    rw [markRaised_eq_markCounted (p := v) (hN.slots.trans hslots), lowWater_eq_fallen hafter hmarked, hlength, hraised,
      markCounted_setChannel, fallen_setChannel]
  obtain ⟨z, hleads, hagain, hz⟩ := leads_startMember_of_play h hk hch hprimed hwheel (m := 2) (y := y) harrive (by omega) (by
    rw [← hwork]
    exact leads_startWork (fun h => by omega) fun m hm => hN.unwaited (hmark m hm))
  have hplay : y.play = some { place := 0, startTick := p.clock.ticks, travel := 0 } :=
    congrArg (fun t => some (⟨0, t, 0⟩ : Play)) hN.now
  refine ⟨z, ⟨fun hno => absurd hno hwheel, fun _ hno => (by cases hq.symm.trans hno), fun _ _ _ _ hq' hno => ?_,
    fun slot' r' rest' _ hq' _ => ?_⟩, hleads⟩
  · cases hq.symm.trans hq'
    cases hlost.symm.trans hno
  · cases hq.symm.trans hq'
    refine ⟨by rw [hz]; rfl, by rw [hz]; rfl, by rw [hz]; exact hplay, by rw [hz]; rfl, fun hk' htick hlevel => ?_⟩
    have hEnow : (p.memberEffects u k).now = p.clock.ticks := by
      rw [(noted_memberEffects p u k).frame]
      exact h.now
    have hEmarks : (p.memberEffects u k).marks = p.marks := by
      rw [(noted_memberEffects p u k).frame]
      exact h.marks
    have hqueue : y.queue[0]? = some { slot := slot, content := .segment r } := congrArg (fun l : List QRec => l[0]?) hq
    have hdue : ¬y.PlayDue p.clock.ticks := not_playDue_of_started rfl rfl hplay hqueue hlong
    have hlevelled : y.levelled = true := (levelled_iff y).mpr ⟨fun h => (by cases h), hk'⟩
    have hbase := renderAgain_base (h.lt_effects hk) hlevelled (by rw [hEnow]; exact htick) (by rw [hEmarks]; exact hlevel)
      (by rw [hEnow]; exact hdue)
    rw [hagain, channel_setChannel _ _ _ (h.lt_effects hk), hEnow,
      baseNow_of_play rfl (playing_eq_some.mpr ⟨hplay, slot, hqueue⟩), elapsedOf_eq] at hbase
    rw [hbase]
    simp [valueAt_zero]

end

/-- A member starts whole, whatever stands after it: its effects beside the channel table, and what it is left as. -/
theorem leads_startMember (hslots : p.slots.length = 16) (hdamage : ∀ d ∈ p.damage, d.2 = .uncorrectable)
    (hhead : (p.channel k).kind ≠ some .wheel → ∀ x rest, (p.channel k).queue = x :: rest →
      ∃ r, x.content = .segment r ∧ 1 ≤ r.length ∧ p.MarkUnwaited k r) :
    ∃ y, p.StartsAs k y ∧ Leads 5 [.startMember k] u ((p.memberEffects u k).setChannel k y) := by
  by_cases hwheel : (p.channel k).kind = some .wheel
  · exact leads_startMember_of_wheel h hk hch hprimed hwheel
  · cases hq : (p.channel k).queue with
    | nil => exact leads_startMember_of_empty h hk hch hprimed hwheel hq
    | cons x rest =>
      obtain ⟨r, hr, hlong, hmark⟩ := hhead hwheel x rest hq
      obtain ⟨slot, content⟩ := x
      obtain rfl : content = .segment r := hr
      cases hlost : p.lostSlot slot with
      | true => exact leads_startMember_of_lost h hk hch hprimed hq hwheel hdamage hlost
      | false => exact leads_startMember_of_segment h hk hch hprimed hq hwheel hslots hlost hlong hmark

end

/-! ### The members and their group (R82) -/

/-- The members start in order, each whole before the next, and every other channel stays as it was. -/
theorem leads_startMembers {p : Part} (hslots : p.slots.length = 16) (hdamage : ∀ d ∈ p.damage, d.2 = .uncorrectable)
    (ks : List Nat) (hks : ks.Nodup) (hlt : ∀ k ∈ ks, k < p.channels.length) (hprimed : ∀ k ∈ ks, (p.channel k).state = .primed)
    (hhead : ∀ k ∈ ks, (p.channel k).kind ≠ some .wheel → ∀ x rest, (p.channel k).queue = x :: rest →
      ∃ r, x.content = .segment r ∧ 1 ≤ r.length ∧ p.MarkUnwaited k r)
    {u : Part} (h : p.Joining u) (hch : ∀ k ∈ ks, u.channel k = p.channel k) :
    ∃ cs : List Channel, cs.length = p.channels.length ∧
      Leads (5 * ks.length) (ks.map Task.startMember) u ((ks.foldl p.memberEffects u).withTables cs u.groups) ∧
      (∀ k ∈ ks, p.StartsAs k (cs.getD k Channel.atReset)) ∧ ∀ k ∉ ks, cs.getD k Channel.atReset = u.channel k := by
  induction ks generalizing u with
  | nil => exact ⟨u.channels, h.channels, .nil u, fun _ hk => absurd hk List.not_mem_nil, fun _ _ => rfl⟩
  | cons k ks ih =>
    obtain ⟨hnot, hks⟩ := List.nodup_cons.mp hks
    have hk := hlt k List.mem_cons_self
    obtain ⟨y, hy, hfirst⟩ := leads_startMember h hk (hch k List.mem_cons_self) (hprimed k List.mem_cons_self) hslots hdamage
      (hhead k List.mem_cons_self)
    have hnoted := noted_memberEffects p u k
    have htables : (p.memberEffects u k).setChannel k y = (p.memberEffects u k).withTables (u.channels.set k y) u.groups := by
      rw [hnoted.frame]
      rfl
    rw [htables] at hfirst
    obtain ⟨cs, hlen, hrest, hstarts, hothers⟩ := ih hks (fun d hd => hlt d (List.mem_cons_of_mem k hd))
      (fun d hd => hprimed d (List.mem_cons_of_mem k hd)) (fun d hd => hhead d (List.mem_cons_of_mem k hd))
      (h.withNotes hnoted (List.length_set ..)) fun d hd => by
        have hne : d ≠ k := fun hdk => hnot (hdk ▸ hd)
        exact (channel_setChannel_ne hne y u).trans (hch d (List.mem_cons_of_mem k hd))
    rw [foldl_memberEffects_withTables] at hrest
    refine ⟨cs, hlen, (hfirst.append hrest).mono (by simp only [List.length_cons]; omega), fun d hd => ?_, fun d hd => ?_⟩
    · rcases List.mem_cons.mp hd with rfl | hd
      · rw [hothers d hnot, ← htables, channel_setChannel _ _ _ (h.lt_effects hk)]
        exact hy
      · exact hstarts d hd
    · obtain ⟨hne, hd⟩ := not_or.mp (mt List.mem_cons.mpr hd)
      rw [hothers d hd]
      exact channel_setChannel_ne hne y u

theorem mem_primedFor {p : Part} {g k : Nat} : k ∈ p.primedFor g ↔
    k < 32 ∧ (p.channel k).state = .primed ∧ ((p.channel k).config.bind ChConfig.startGroup) = some g := by
  simp only [Part.primedFor, List.mem_filter, List.mem_range, Bool.and_eq_true, decide_eq_true_eq, Option.any_eq_true,
    Option.bind_eq_some_iff]
  rfl

theorem primedFor_eq (p : Part) (g : Nat) : p.primedFor g = (List.range 32).filter fun k =>
    (p.channel k).state = .primed ∧ ((p.channel k).config.bind ChConfig.startGroup) = some g := by
  refine List.filter_congr fun k _ => ?_
  rw [Bool.eq_iff_iff]
  simp only [Bool.and_eq_true, decide_eq_true_eq, Option.any_eq_true, Option.bind_eq_some_iff]

/-- A group once its members have started (R82). -/
def Group.started (stamp : Stamp) (n : Nat) (x : Group) : Group :=
  { armed := none, startCount := (x.startCount + 1) % 4294967296, lastStart := some { stamp := stamp, channels := n } }

/-- A group whose members have started and that nothing waits for is counted (R82). -/
theorem leads_groupDone {g n : Nat} {u : Part} (hslots : u.slots.length = 16) (hunwaited : u.Unwaited (.group g)) {x : Group}
    (hx : u.group g = { x with armed := none }) :
    Leads 3 [.groupDone g n] u (((u.setGroup g (x.started u.stamp n)).counted (.group g)).raise (.group g)) := by
  let v := u.setGroup g (x.started u.stamp n)
  have hdone : u.groupDone g n = (v, [.occur (.group g), .notify (.group g)]) := by
    unfold Part.groupDone
    rw [hx]
    rfl
  have hquiet : v.Unwaited (.group g) := hunwaited.of_eq rfl (fun k c w hk => by
    by_cases hkg : k = g
    · subst hkg
      rcases Nat.lt_or_ge k u.groups.length with hlt | hge
      · rw [group_setGroup _ _ _ hlt] at hk
        cases hk
      · simpa [v, Part.setGroup, Part.group, hge] using hk
    · rwa [group_setGroup_ne hkg] at hk) fun _ => rfl
  have hnotify : Leads 1 [.notify (.group g)] (v.counted (.group g)) ((v.counted (.group g)).raise (.group g)) :=
    .task rfl (.nil _)
  refine .task rfl ?_
  show Leads 2 (u.groupDone g n).2 (u.groupDone g n).1 _
  rw [hdone]
  exact (leads_occur hquiet hslots fun _ => by simp).append hnotify

/-- The whole of a group's start: the members, and then the group. -/
theorem startGroup_eq {g : Nat} {c : Condition} {w : Waiting} {p : Part} (hg : g < p.groups.length) (hchannels : p.channels.length = 32)
    (hslots : p.slots.length = 16) (hdamage : ∀ d ∈ p.damage, d.2 = .uncorrectable) (harmed : (p.group g).armed = some (c, w))
    (hunwaited : p.Unwaited (.group g))
    (hhead : ∀ k ∈ p.primedFor g, (p.channel k).kind ≠ some .wheel → ∀ x rest, (p.channel k).queue = x :: rest →
      ∃ r, x.content = .segment r ∧ 1 ≤ r.length ∧ p.MarkUnwaited k r) :
    ∃ cs : List Channel, cs.length = 32 ∧
      settleAll (p, [.startGroup g w]) =
        ((((p.primedFor g).foldl p.memberEffects p).counted (.group g)).raise (.group g)).withTables cs
          (p.groups.set g ((p.group g).started p.stamp (p.primedFor g).length)) ∧
      (∀ k ∈ p.primedFor g, p.StartsAs k (cs.getD k Channel.atReset)) ∧
      ∀ k ∉ p.primedFor g, cs.getD k Channel.atReset = p.channel k := by
  let ks := p.primedFor g
  let p0 := p.setGroup g { p.group g with armed := none }
  have hstart : p.startGroup g w = (p0, ks.map Task.startMember ++ [.groupDone g ks.length]) := by
    unfold Part.startGroup
    simp only [harmed]
    exact if_pos rfl
  have hp0 : p.Joining p0 := ⟨rfl, fun _ => rfl, rfl, rfl, fun k c' w' hk => by
    by_cases hkg : k = g
    · subst hkg
      rw [group_setGroup _ _ _ hg] at hk
      cases hk
    · rwa [group_setGroup_ne hkg] at hk⟩
  obtain ⟨cs, hlen, hmembers, hstarts, hothers⟩ := leads_startMembers hslots hdamage ks (List.nodup_range.filter _)
    (fun k hk => by rw [hchannels]; exact (mem_primedFor.mp hk).1) (fun k hk => (mem_primedFor.mp hk).2.1) hhead hp0 fun _ _ => rfl
  let n := ks.foldl p.memberEffects p
  have hn : p.Noted n := noted_foldl_memberEffects p ks p
  let u := n.withTables cs p0.groups
  have hfold : ks.foldl p.memberEffects p0 = n.withTables p.channels p0.groups :=
    foldl_memberEffects_withTables p p.channels p0.groups ks p
  have hjoined := hp0.withNotes (noted_foldl_memberEffects p ks p0) hlen
  rw [hfold] at hmembers hjoined
  have hstamp : u.stamp = p.stamp := by
    rw [show u.stamp = n.stamp from rfl, hn.frame]
    rfl
  have hdone := leads_groupDone (u := u) (n := ks.length) (hjoined.slots.trans hslots) (hjoined.unwaited hunwaited)
    (x := p.group g) (group_setGroup g _ p hg)
  have hwhole : Leads (5 * ks.length + 3) (ks.map Task.startMember ++ [.groupDone g ks.length]) p0 _ := hmembers.append hdone
  have hfew : ks.length ≤ 32 := (List.length_filter_le _ _).trans_eq List.length_range
  refine ⟨cs, hlen.trans hchannels, ?_, hstarts, hothers⟩
  have hall : Leads (5 * ks.length + 3 + 1) [.startGroup g w] p _ := .task rfl (by
    show Leads _ (p.startGroup g w).2 (p.startGroup g w).1 _
    rw [hstart]
    exact hwhole)
  rw [settleAll_of_leads hall (by unfold taskLimit; omega), hstamp]
  have htables : (u.setGroup g ((p.group g).started p.stamp ks.length)).counted (.group g) =
      (n.counted (.group g)).withTables cs (p.groups.set g ((p.group g).started p.stamp ks.length)) := by
    show (n.counted (.group g)).withTables cs ((p.groups.set g _).set g _) = _
    rw [List.set_set]
  rw [htables, raise_withTables]

/-- Settles O38: a group's start. -/
theorem groupStartsMembers : Obligations.GroupStartsMembers := by
  intro g w c p now members wheel lost started hg hchannels hgroups hslots hdamage harmed hunwaited hhead q effects after
  have hmembers : p.primedFor g = members := primedFor_eq p g
  have hwheel (k : Nat) : wheel k = true ↔ (p.channel k).kind = some .wheel := decide_eq_true_iff
  have hnot (k : Nat) : wheel k = false ↔ (p.channel k).kind ≠ some .wheel := decide_eq_false_iff_not
  have heffects : effects = p.memberEffects := by
    funext v k
    by_cases hk : wheel k = true
    · exact (if_pos hk).trans (if_pos ((hwheel k).mp hk)).symm
    · refine (if_neg hk).trans (Eq.trans ?_ (if_neg (mt (hwheel k).mpr hk)).symm)
      rw [lowMark_eq]
      cases (p.channel k).queue with
      | nil => rfl
      | cons x rest =>
        obtain ⟨slot, content⟩ := x
        cases content <;> rfl
  have hafter : after = ((members.foldl p.memberEffects p).counted (.group g)).raise (.group g) := by rw [← heffects]
  obtain ⟨cs, hlen, hq, hstarts, hothers⟩ := startGroup_eq (hgroups ▸ hg) hchannels hslots hdamage harmed hunwaited
    fun k hk hno x rest hx => hhead k (hmembers ▸ hk) ((hnot k).mpr hno) x rest hx
  rw [hmembers, ← hafter] at hq
  rw [hmembers] at hstarts hothers
  have hchannel (k : Nat) : q.channel k = cs.getD k Channel.atReset := congrArg (fun v : Part => v.channel k) hq
  have hgroup (k : Nat) : q.group k = (p.setGroup g ((p.group g).started p.stamp members.length)).group k :=
    (congrArg (fun v : Part => v.group k) hq).trans rfl
  refine ⟨fun k hk => ?_, fun k _ hk => (hchannel k).trans (hothers k hk), ?_, fun k hk => ?_, ?_⟩
  · rw [hchannel]
    have hk' := hstarts k hk
    refine ⟨fun h => hk'.wheel ((hwheel k).mp h), fun h => hk'.starved ((hnot k).mp h), fun slot r rest h hrest =>
      ⟨hk'.lost slot r rest ((hnot k).mp h) hrest, hk'.plays slot r rest ((hnot k).mp h) hrest⟩⟩
  · rw [hgroup, group_setGroup _ _ _ (hgroups ▸ hg)]
    rfl
  · rw [hgroup, group_setGroup_ne hk]
  · have hnoted : p.Noted after := by
      rw [hafter]
      exact ((noted_foldl_memberEffects p members p).trans (noted_counted ..)).trans (noted_raise ..)
    exact eq_of_noted hnoted hq

end Sys2Proof.Machine
end

section
/-! SUPPORT. Fields read back from the bytes that spell them, and the fault entry definition as it is sent (10.1.1, 10.8). -/

namespace Sys2Proof.Machine

open Sys2Proof

/-! ### Fields of bytes laid one after another (10.1.1) -/

theorem bytesAt_zero_append {k : Nat} {xs : List Byte} (h : xs.length = k) (ys : List Byte) : bytesAt 0 k (xs ++ ys) = xs := by
  subst h
  simp [bytesAt]

theorem bytesAt_append {at0 : Nat} {xs : List Byte} (h : xs.length ≤ at0) (len : Nat) (ys : List Byte) :
    bytesAt at0 len (xs ++ ys) = bytesAt (at0 - xs.length) len ys := by
  simp [bytesAt, List.drop_append, List.drop_eq_nil_of_le h]

/-- A field behind some bytes is read in what follows them. -/
theorem field_append {at0 : Nat} {xs : List Byte} (h : xs.length ≤ at0) (len : Nat) (ys : List Byte) :
    field at0 len (xs ++ ys) = field (at0 - xs.length) len ys := by
  rw [field, bytesAt_append h, field]

theorem flag_append {at0 : Nat} {xs : List Byte} (h : xs.length ≤ at0) (bit : Nat) (ys : List Byte) :
    flag at0 bit (xs ++ ys) = flag (at0 - xs.length) bit ys := by
  simp [flag, List.getElem?_append_right h]

theorem beNat_bigEndian (k n : Nat) : beNat (bigEndian k n) = n % 256 ^ k := by
  have hfold (a : Nat) : (bigEndian k n).foldl (fun n b => n * 256 + b.toNat) a = a * 256 ^ k + n % 256 ^ k := by
    induction k generalizing a with
    | zero => simp [bigEndian, Nat.mod_one]
    | succ k ih =>
      have hdigit : n % 256 ^ (k + 1) = 256 ^ k * (n / 256 ^ k % 256) + n % 256 ^ k := by
        rw [pow_succ, Nat.mod_mul, Nat.add_comm]
      rw [bigEndian, List.foldl_cons, ih, hdigit, BitVec.toNat_ofNat]
      ring
  rw [beNat, hfold]
  simp

/-- A number reads back from its own bytes at the front. -/
theorem field_bigEndian_append (k n : Nat) (ys : List Byte) : field 0 k (bigEndian k n ++ ys) = n % 256 ^ k := by
  rw [field, bytesAt_zero_append (bigEndian_length k n), beNat_bigEndian]

theorem field_bigEndian (k n : Nat) : field 0 k (bigEndian k n) = n % 256 ^ k := by
  simpa using field_bigEndian_append k n []

theorem testBit_bitsOf (bs : List Bool) (i : Nat) : (bitsOf bs).testBit i = bs.getD i false := by
  induction bs generalizing i with
  | nil => simp [bitsOf]
  | cons b bs ih =>
    cases i with
    | zero => cases b <;> simp [bitsOf, Nat.testBit_zero]
    | succ i =>
      have hshift : (bitsOf (b :: bs)) / 2 = bitsOf bs := by
        cases b <;> simp only [bitsOf, Bool.toNat_false, Bool.toNat_true] <;> omega
      rw [Nat.testBit_succ, hshift, ih]
      rfl

/-- A presence bit reads back from the byte its bits make. -/
theorem flag_bitsOf {bit : Nat} (h : bit < 8) (bs : List Bool) (ys : List Byte) :
    flag 0 bit (bigEndian 1 (bitsOf bs) ++ ys) = bs.getD bit false := by
  show (BitVec.ofNat 8 (bitsOf bs / 256 ^ 0)).getLsbD bit = _
  rw [pow_zero, Nat.div_one, BitVec.getLsbD_ofNat, testBit_bitsOf]
  simp [h]

theorem field_signedWord (v : Int) (ys : List Byte) : ((field 0 4 (signedWord v ++ ys) : Int) - v) % 4294967296 = 0 := by
  rw [signedWord, field_bigEndian_append]
  norm_num
  omega

/-- Bytes of zeros laid together are zeros. -/
theorem bigEndian_zero_add (j k : Nat) : bigEndian (j + k) 0 = bigEndian j 0 ++ bigEndian k 0 := by
  have hzeros (k : Nat) : bigEndian k 0 = List.replicate k 0#8 := by
    induction k with
    | zero => rfl
    | succ k ih => rw [bigEndian, ih, Nat.zero_div, List.replicate_succ]
  rw [hzeros, hzeros, hzeros, List.replicate_append_replicate]

/-! ### The definition of an entry as it is sent (10.8) -/

theorem condition_record_spells (c : Condition) : SpellsCondition c c.record := by
  cases c with
  | now =>
    have hsplit : Condition.now.record = bigEndian 1 0 ++ bigEndian 11 0 := bigEndian_zero_add 1 11
    rw [hsplit]
    simp [SpellsCondition, field_append, field_bigEndian, field_bigEndian_append, bigEndian_length]
  | atTime t => simp [SpellsCondition, Condition.record, field_append, field_bigEndian, field_bigEndian_append, bigEndian_length]
  | atAngle a floor =>
    cases floor <;>
      simp [SpellsCondition, Condition.record, field_append, field_bigEndian, field_bigEndian_append, bigEndian_length]
  | onEvent s n => simp [SpellsCondition, Condition.record, field_append, field_bigEndian, field_bigEndian_append, bigEndian_length]

/-- The bytes of a signal fault's kind and its fields, and what follows them. -/
theorem sigFault_record_spells (f : SigFault) (ys : List Byte) :
    match f with
    | .stuck => field 0 1 (f.record ++ ys) = 0 ∧ field 1 6 (f.record ++ ys) = 0
    | .offset v => field 0 1 (f.record ++ ys) = 1 ∧ ((field 1 4 (f.record ++ ys) : Int) - v) % 4294967296 = 0 ∧
        field 5 2 (f.record ++ ys) = 0
    | .drop q n => field 0 1 (f.record ++ ys) = 2 ∧ field 1 4 (f.record ++ ys) = 0 ∧ field 5 1 (f.record ++ ys) = q % 256 ∧
        field 6 1 (f.record ++ ys) = n % 256
    | .shift v => field 0 1 (f.record ++ ys) = 3 ∧ ((field 1 4 (f.record ++ ys) : Int) - v) % 4294967296 = 0 ∧
        field 5 2 (f.record ++ ys) = 0 := by
  have hword (v : Int) : (signedWord v).length = 4 := bigEndian_length ..
  cases f with
  | stuck => simp [SigFault.record, field_append, field_bigEndian_append, bigEndian_length]
  | drop q n => simp [SigFault.record, field_append, field_bigEndian_append, bigEndian_length]
  | offset v => simp [SigFault.record, field_append, field_bigEndian_append, field_signedWord, bigEndian_length, hword]
  | shift v => simp [SigFault.record, field_append, field_bigEndian_append, field_signedWord, bigEndian_length, hword]

/-- The class byte, the presence bits and the class fields of a definition, and what follows them. -/
def classBytes (e : Nat) (c : EntryClass) (latest count spacing : Bool) (ys : List Byte) : List Byte :=
  bigEndian 1 e ++ (bigEndian 1 c.record.1 ++ (bigEndian 1 (bitsOf (latest :: c.record.2.1 ++ [count, spacing])) ++
    (c.record.2.2 ++ ys)))

section
variable (e : Nat) (latest count spacing : Bool) (ys : List Byte)

theorem electrical_spells (d : Electrical) : SpellsElectrical d (classBytes e (.electrical d) latest count spacing ys) := by
  have hchatter (zs : List Byte) : bigEndian 4 0 ++ (bigEndian 4 0 ++ (bigEndian 2 0 ++ zs)) = bigEndian 10 0 ++ zs := by
    rw [show (10 : Nat) = 4 + (4 + 2) from rfl, bigEndian_zero_add, bigEndian_zero_add 4 2]
    simp only [List.append_assoc]
  refine ⟨?_, ?_, ?_, ?_, ?_, ?kind, ?_, ?lines, ?_, ?_, ?_, ?_, ?chatter, ?_⟩
  case kind =>
    have hcode : field 3 1 (classBytes e (.electrical d) latest count spacing ys) = d.kind.code % 256 := by
      simp [classBytes, EntryClass.record, Electrical.record, field_append, field_bigEndian_append, bigEndian_length]
    rw [hcode]
    cases d.kind <;> rfl
  case lines =>
    intro i hi
    interval_cases i <;> simp [classBytes, EntryClass.record, Electrical.record, field_append, field_bigEndian_append,
      bigEndian_length, List.range_succ]
  case chatter =>
    cases hc : d.chatter with
    | some c => simp [classBytes, EntryClass.record, Electrical.record, field_append, field_bigEndian_append, bigEndian_length,
        List.range_succ, hc]
    | none => simp [classBytes, EntryClass.record, Electrical.record, field_append, field_bigEndian_append, bigEndian_length,
        List.range_succ, hc, hchatter]
  all_goals
    simp [classBytes, EntryClass.record, Electrical.record, field_append, flag_append, field_bigEndian_append, flag_bitsOf,
      bigEndian_length, List.range_succ]

theorem signal_spells (c : Nat) (f : SigFault) : SpellsSignal c f (classBytes e (.signal c f) latest count spacing ys) := by
  have hfields (k len : Nat) : field (4 + k) len (classBytes e (.signal c f) latest count spacing ys) =
      field k len (f.record ++ (bigEndian 24 0 ++ ys)) := by
    have hsplit : classBytes e (.signal c f) latest count spacing ys =
        (bigEndian 1 e ++ bigEndian 1 1 ++ bigEndian 1 (bitsOf [latest, false, false, false, false, count, spacing]) ++
          bigEndian 1 c) ++ (f.record ++ (bigEndian 24 0 ++ ys)) := by
      simp [classBytes, EntryClass.record]
    rw [hsplit, field_append (by simp only [List.length_append, bigEndian_length]; omega)]
    simp only [List.length_append, bigEndian_length]
    rw [Nat.add_sub_cancel_left]
  have hlen : f.record.length = 7 := by cases f <;> simp [SigFault.record, signedWord, bigEndian_length]
  refine ⟨?_, ?_, ?_, ?_, ?_, ?_, ?kind, ?rest⟩
  case kind =>
    have hkind := sigFault_record_spells f (bigEndian 24 0 ++ ys)
    cases f <;> simpa only [← hfields] using hkind
  case rest =>
    rw [show (11 : Nat) = 4 + 7 from rfl, hfields, field_append hlen.le, hlen, field_bigEndian_append, Nat.zero_mod]
  all_goals
    simp [classBytes, EntryClass.record, field_append, flag_append, field_bigEndian_append, flag_bitsOf, bigEndian_length]

end

/-- A definition's class comes first, in 35 bytes, and the class fields are followed by the condition and the rest. -/
theorem entryDef_record_eq (e : Nat) (d : EntryDef) : d.record e =
    classBytes e d.cls d.latestStart.isSome d.repeatCount.isSome d.spacing.isSome (d.condition.record ++
      (bigEndian 4 (d.latestStart.getD 0) ++ (d.duration.record ++ (bigEndian 2 (d.repeatCount.getD 0) ++
        bigEndian 4 (d.spacing.getD 0))))) := by
  simp only [EntryDef.record, classBytes, List.append_assoc]

theorem classBytes_append (e : Nat) (c : EntryClass) (latest count spacing : Bool) (ys : List Byte) :
    ∃ front, front.length = 35 ∧ classBytes e c latest count spacing ys = front ++ ys := by
  refine ⟨classBytes e c latest count spacing [], ?_, ?_⟩
  · simp [classBytes, bigEndian_length, class_record_length]
  · simp [classBytes]

/-- The bytes of a duration, and what follows them. -/
theorem duration_record_spells (d : Duration) (ys : List Byte) :
    match d with
    | .time n => field 0 1 (d.record ++ ys) = 0 ∧ field 1 4 (d.record ++ ys) = n % 4294967296
    | .angle n => field 0 1 (d.record ++ ys) = 1 ∧ field 1 4 (d.record ++ ys) = n % 4294967296
    | .untilEvent s => field 0 1 (d.record ++ ys) = 2 ∧ field 1 1 (d.record ++ ys) = s % 256 ∧ field 2 3 (d.record ++ ys) = 0
    | .untilDisarm => field 0 1 (d.record ++ ys) = 3 ∧ field 1 4 (d.record ++ ys) = 0 := by
  cases d <;> simp [Duration.record, field_append, field_bigEndian_append, bigEndian_length]

/-- The definition of an entry is sent as 10.8 lays it out. -/
theorem entryDef_record_spells (e : Nat) (d : EntryDef) : SpellsDefinition e d (d.record e) := by
  have hlength := entryDef_record_length e d
  obtain ⟨front, hfront, hsplit⟩ := classBytes_append e d.cls d.latestStart.isSome d.repeatCount.isSome d.spacing.isSome
    (d.condition.record ++ (bigEndian 4 (d.latestStart.getD 0) ++ (d.duration.record ++ (bigEndian 2 (d.repeatCount.getD 0) ++
      bigEndian 4 (d.spacing.getD 0)))))
  have htail (k len : Nat) : field (35 + k) len (d.record e) = field k len (d.condition.record ++
      (bigEndian 4 (d.latestStart.getD 0) ++ (d.duration.record ++ (bigEndian 2 (d.repeatCount.getD 0) ++
        bigEndian 4 (d.spacing.getD 0))))) := by
    rw [entryDef_record_eq, hsplit, field_append (by omega), hfront, Nat.add_sub_cancel_left]
  have hend (k len : Nat) : field (51 + k) len (d.record e) =
      field k len (d.duration.record ++ (bigEndian 2 (d.repeatCount.getD 0) ++ bigEndian 4 (d.spacing.getD 0))) := by
    rw [show 51 + k = 35 + (12 + (4 + k)) by omega, htail, field_append (by rw [condition_record_length]; omega),
      condition_record_length, Nat.add_sub_cancel_left, field_append (by rw [bigEndian_length]; omega), bigEndian_length,
      Nat.add_sub_cancel_left]
  refine ⟨hlength, ?_, ?_, ?_, ?_, ?_, ?cls, ?condition, ?latest, ?duration, ?count, ?spacing⟩
  case cls =>
    rw [entryDef_record_eq]
    cases d.cls with
    | electrical x => exact electrical_spells ..
    | signal c f => exact signal_spells ..
  case condition =>
    have hbytes : bytesAt 35 12 (d.record e) = d.condition.record := by
      rw [entryDef_record_eq, hsplit, bytesAt_append hfront.le, hfront,
        show 35 - 35 = 0 from rfl, bytesAt_zero_append (condition_record_length _)]
    rw [hbytes]
    exact condition_record_spells _
  case latest =>
    rw [show (47 : Nat) = 35 + 12 from rfl, htail, field_append (condition_record_length _).le, condition_record_length]
    exact field_bigEndian_append ..
  case duration =>
    have hduration := duration_record_spells d.duration (bigEndian 2 (d.repeatCount.getD 0) ++ bigEndian 4 (d.spacing.getD 0))
    cases hd : d.duration <;> rw [hd] at hduration hend <;> simpa only [← hend] using hduration
  case count =>
    rw [show (56 : Nat) = 51 + 5 from rfl, hend, field_append (duration_record_length _).le, duration_record_length]
    exact field_bigEndian_append ..
  case spacing =>
    rw [show (58 : Nat) = 51 + (5 + 2) from rfl, hend, field_append (by rw [duration_record_length]; omega),
      duration_record_length, Nat.add_sub_cancel_left, field_append (bigEndian_length ..).le, bigEndian_length]
    exact field_bigEndian ..
  all_goals
    rw [entryDef_record_eq]
    cases d.cls <;>
      simp [classBytes, EntryClass.record, flag_append, field_bigEndian_append, flag_bitsOf, bigEndian_length]

end Sys2Proof.Machine
end

section
/-! SUPPORT. The snapshots a notice carries, and the transmitter: what it sends next, the frame, and how a transmission ends (R178 to
R180, R182). -/

namespace Sys2Proof.Machine

open Sys2Proof

/-! ### The snapshots, as their rules spell them -/

theorem groupSnapshot_eq (g : Nat) (p : Part) : p.groupSnapshot g = p.groupShown g := by
  rw [Part.groupSnapshot, primedFor_eq]
  rfl

theorem guardSnapshot_eq (p : Part) : p.guardSnapshot = p.guardShown := by
  unfold Part.guardSnapshot Part.guardShown
  cases p.guard.period <;> rfl

/-- An ELECTRICAL fault's share of the short budget is its lines, for a short to ground or to battery (R150). -/
theorem budget_eq (d : Electrical) : d.budget = if d.kind = .shortGnd ∨ d.kind = .shortBat then d.lines.length else 0 := by
  unfold Electrical.budget
  cases d.kind <;> rfl

theorem heldClaims_eq (e : Nat) (p : Part) : p.heldClaims e = (p.entryShown e).claims := by
  have hbudget : ((p.entry e).electrical?.map Electrical.budget).getD 0 =
      match (p.entry e).electrical? with
      | some d => if d.kind = .shortGnd ∨ d.kind = .shortBat then d.lines.length else 0
      | none => 0 := by
    cases (p.entry e).electrical? with
    | none => rfl
    | some d => exact budget_eq d
  unfold Part.heldClaims Part.entryShown
  simp only [hbudget, Bool.and_eq_true, List.isEmpty_iff, Option.isNone_iff_eq_none]
  rfl

theorem entrySnapshot_eq (e : Nat) (p : Part) : p.entrySnapshot e = p.entryShown e := by
  have hwaiting : Waiting.reported = fun w => match w with
      | .time t => .time (min t 281474976710655)
      | w' => w' := by
    funext w
    cases w <;> rfl
  unfold Part.entrySnapshot
  rw [heldClaims_eq, hwaiting]
  rfl

theorem weld_eq (r : ClassRecord) : r.weld = r.named := by
  unfold ClassRecord.weld ClassRecord.named
  cases r.first with
  | none => rfl
  | some g =>
    have hplace (d : Int) : weldPlace d = if d = 1 then some .step else if d = 2 then some .fast
        else if d = 3 then some .isolate else if d = 4 then some .patrol else none := by
      by_cases h1 : d = 1
      · subst h1; rfl
      by_cases h2 : d = 2
      · subst h2; rfl
      by_cases h3 : d = 3
      · subst h3; rfl
      by_cases h4 : d = 4
      · subst h4; rfl
      simp [weldPlace, WeldPlace.number, h1, h2, h3, h4, Ne.symm h1, Ne.symm h2, Ne.symm h3, Ne.symm h4]
    show (if g.code = .cellWelded then weldPlace g.detail else none) = _
    rw [hplace]

theorem batchBody_eq (c : Capture) : c.batchBody =
    .captureBatch (c.ring.take 32) c.dropped (c.ring.length - 32) (c.ring[32]?.map fun r => r.stamp.time) := by
  unfold Capture.batchBody
  simp only [List.length_drop, List.head?_drop]

theorem summaryFlag_eq (p : Part) : p.summaryFlag =
    decide (0 < p.log.corrected.count ∨ 0 < p.log.recoverable.count ∨ 0 < p.log.fatal.count) := by
  rw [Bool.eq_iff_iff]
  simp [Part.summaryFlag, Nat.pos_iff_ne_zero, or_assoc]

/-- A notice carries its source's snapshot as its rule spells it. -/
theorem noticeBody_eq (src : NoticeSource) (p : Part) : p.noticeBody src = p.bodyShown src := by
  cases src with
  | guard => exact congrArg Body.guard (guardSnapshot_eq p)
  | cls c =>
    show Body.errorNotice c (p.log.of c) (p.log.of c).weld p.summaryFlag = _
    rw [weld_eq, summaryFlag_eq]
    rfl
  | entry e => exact congrArg Body.entry (entrySnapshot_eq e p)
  | channel c => exact congrArg Body.channel (channelSnapshot_eq c p)
  | group g => exact congrArg Body.group (groupSnapshot_eq g p)
  | capture => exact batchBody_eq p.capture
  | part | matrix | engine | link => rfl

/-! ### The frame (R178, 10.8) -/

/-- A frame of so many body bytes takes the first tick at or after its line time. -/
theorem frameTicks_bounds (n : Nat) : (7 + n) * 10 ≤ frameTicks n * 12 ∧ frameTicks n * 12 < (7 + n) * 10 + 12 := by
  unfold frameTicks
  omega

/-- The record that a body holds is its entry's definition. -/
theorem holdsDefinition_of_record {body : Body} {front back : List Byte} :
    HoldsDefinition body (front ++ body.record ++ back) := by
  rintro x d rfl hd
  have hrecord : (Body.entry x).record = d.record x.entry := by simp [Body.record, hd]
  exact ⟨front, d.record x.entry, back, by rw [hrecord], entryDef_record_spells x.entry d⟩

/-- RepliesSentFirst of O11. -/
theorem repliesSentFirst : Claims.RepliesSentFirst := by
  intro r rest s hidle hreplies
  let n := s.part.freeIndex
  let f : OutFrame := .reply r
  obtain ⟨front, back, hbody, hlen⟩ := outFrame_body n f
  obtain ⟨hlow, hhigh⟩ := frameTicks_bounds (f.body n).length
  refine ⟨frameTicks (f.body n).length, f.kind, f.body n, hlen, hlow, hhigh, fun b hb => ⟨?_, ?_⟩, fun no hno => ?_, ?_⟩
  · obtain ⟨tag, answer⟩ := r
    obtain rfl : answer = .ack b := hb
    rfl
  · obtain ⟨tag, answer⟩ := r
    obtain rfl : answer = .ack b := hb
    rw [hbody]
    exact holdsDefinition_of_record
  · obtain ⟨tag, answer⟩ := r
    obtain rfl : answer = .refuse no := hno
    rfl
  · show acted s s.part.startTransmission = _
    unfold Part.startTransmission
    rw [hidle, hreplies]
    rfl

/-! ### The notice chosen (R178) -/

theorem chooseNotice_mem {v : Levels} {ns : List QNotice} {m : QNotice} (h : chooseNotice v ns = some m) : m ∈ ns := by
  induction ns generalizing m with
  | nil => cases h
  | cons n rest ih =>
    rw [chooseNotice] at h
    cases hr : chooseNotice v rest with
    | none =>
      rw [hr] at h
      cases h
      exact List.mem_cons_self
    | some k =>
      rw [hr] at h
      simp only at h
      split at h <;> cases h
      · exact List.mem_cons_of_mem _ (ih hr)
      · exact List.mem_cons_self

theorem before_iff {v : Levels} {a b : QNotice} :
    a.before v b = true ↔ v.of a.source < v.of b.source ∨ v.of a.source = v.of b.source ∧ a.age < b.age := by
  simp [QNotice.before]

/-- The notice that goes ahead of each one before it, and that none behind it goes ahead of, is chosen. -/
theorem chooseNotice_eq {v : Levels} {front back : List QNotice} {n : QNotice} (hfront : ∀ m ∈ front, n.before v m = true)
    (hback : ∀ m ∈ back, m.before v n = false) : chooseNotice v (front ++ n :: back) = some n := by
  induction front with
  | nil =>
    rw [List.nil_append, chooseNotice]
    cases hr : chooseNotice v back with
    | none => rfl
    | some m => exact if_neg (by simp [hback m (chooseNotice_mem hr)])
  | cons f front ih =>
    rw [List.cons_append, chooseNotice, ih fun m hm => hfront m (List.mem_cons_of_mem f hm)]
    exact if_pos (hfront f List.mem_cons_self)

/-- NoticeSentByUrgency of O11. -/
theorem noticeSentByUrgency : Claims.NoticeSentByUrgency := by
  intro front back n s v hidle hreplies hnotices hfront hback hother p ring code
  have hcode : code = (n.source.code, n.source.index) := by
    simp only [code]
    generalize n.source = src
    cases src with
    | cls c => cases c <;> rfl
    | _ => rfl
  have hchosen : chooseNotice v s.part.link.notices = some n := by
    rw [hnotices]
    refine chooseNotice_eq (fun m hm => before_iff.mpr (hfront m hm)) fun m hm => Bool.eq_false_iff.mpr fun h => ?_
    rcases hback m hm with hlt | ⟨heq, hage⟩ <;> rcases before_iff.mp h with hlt' | ⟨heq', hage'⟩ <;> omega
  have hunqueued : s.part.unqueue n.source = p := by
    have hfilter : (s.part.link.notices.filter fun m => m.source ≠ n.source) = front ++ back := by
      have hkept (ms : List QNotice) (h : ∀ m ∈ ms, m ∈ front ++ back) : (ms.filter fun m => m.source ≠ n.source) = ms :=
        List.filter_eq_self.mpr fun m hm => decide_eq_true (hother m (h m hm))
      rw [hnotices, List.filter_append, List.filter_cons, hkept front fun m hm => List.mem_append_left _ hm,
        hkept back fun m hm => List.mem_append_right _ hm]
      simp
    rw [Part.unqueue, hfilter]
  let f : OutFrame := .notice (p.formNotice n)
  have hform : p.formNotice n =
      { source := n.source, level := v.of n.source, repeats := n.repeats, time := p.clock.rigTime
        body := p.bodyShown n.source } := by
    rw [Part.formNotice, noticeBody_eq]
  obtain ⟨before, after, hbody, hlen⟩ := outFrame_body p.freeIndex f
  have hhead : f.head.length = 11 := by simp [f, OutFrame.head, Notice.header, bigEndian_length]
  have hheader : f.head = bigEndian 1 n.source.code ++ (bigEndian 1 n.source.index ++ (bigEndian 1 (v.of n.source) ++
      (bigEndian 2 n.repeats ++ bigEndian 6 p.clock.rigTime))) := by
    simp only [f, OutFrame.head, Notice.header, hform, List.append_assoc]
  have hlength : (f.body p.freeIndex).length = 11 + (before ++ f.content.record ++ after).length := by
    rw [hbody, List.length_append, hhead]
  obtain ⟨hlow, hhigh⟩ := frameTicks_bounds (f.body p.freeIndex).length
  refine ⟨frameTicks (f.body p.freeIndex).length, f.head, before ++ f.content.record ++ after, hhead, by omega, ?_, ?_, ?_, ?_, ?_,
    ?_, by omega, by omega, ?_⟩
  · rw [hheader, field_bigEndian_append, hcode]
    show n.source.code % 256 = n.source.code
    cases n.source <;> rfl
  · rw [hheader, field_append (bigEndian_length ..).le, bigEndian_length, field_bigEndian_append, hcode]
    rfl
  · simp [hheader, field_append, field_bigEndian_append, bigEndian_length]
  · simp [hheader, field_append, field_bigEndian_append, bigEndian_length]
  · simp [hheader, field_append, field_bigEndian, bigEndian_length]
  · have hcontent : f.content = p.bodyShown n.source := congrArg Notice.body hform
    rw [hcontent]
    exact holdsDefinition_of_record
  · have hexec : exec .transmitStart s =
        .next (s.withPart (((s.part.unqueue n.source).handOver n.source).beginFrame
          (.notice ((s.part.unqueue n.source).formNotice n)))) := by
      show acted s s.part.startTransmission = _
      unfold Part.startTransmission
      rw [hidle, hreplies, show chooseNotice _ _ = _ from hchosen]
      rfl
    rw [hexec, hunqueued]
    have hhanded : p.handOver n.source = { p with
        capture := if n.source = .capture then { p.capture with ring := ring.drop 32, dropped := 0 } else p.capture } := by
      unfold Part.handOver
      split <;> rfl
    rw [hhanded, ← hbody, ← hform]
    rfl

/-- TransmissionEnds of O11. -/
theorem transmissionEnds : Claims.TransmissionEnds := by
  intro t s ht k
  have hexec : exec .transmitEnd s = .next (s.withPart (if t.endTick ≤ s.part.now then
      (if t.frame.isResetAck then s.part.afterReset .link
        else ({ s.part with link := { s.part.link with transmitter := none } }).mapCounters t.frame.counted)
      else s.part)) := by
    show acted s _ = _
    rw [ht]
    rfl
  refine ⟨fun hearly => ?_, fun hdue => ⟨fun tag time hf => ?_, fun r hf hno => ?_, fun n hf => ?_⟩⟩
  · rw [hexec, if_neg (show ¬t.endTick ≤ s.part.now from Nat.not_le.mpr hearly)]
    rfl
  · rw [hexec, if_pos (show t.endTick ≤ s.part.now from hdue), hf]
    rfl
  · have hplain : t.frame.isResetAck = false := by
      rw [hf]
      obtain ⟨tag, answer⟩ := r
      cases answer with
      | refuse no => rfl
      | ack b =>
        cases b with
        | linkReset time => exact absurd rfl (hno time)
        | _ => rfl
    rw [hexec, if_pos (show t.endTick ≤ s.part.now from hdue), hplain, hf]
    rfl
  · rw [hexec, if_pos (show t.endTick ≤ s.part.now from hdue), hf]
    rfl

/-- Settles O11: the transmitter. -/
theorem transmitterWorks : Obligations.TransmitterWorks := ⟨repliesSentFirst, noticeSentByUrgency, transmissionEnds⟩

end Sys2Proof.Machine
end

section
/-! SUPPORT. The operations of the matrix, the schedule and the link that leave the channel table alone, block by block (R47). -/

namespace Sys2Proof.Machine

open Sys2Proof

theorem channels_of_bare {p q : Part} (h : q.bare = p.bare) : q.channels = p.channels := (congrArg Part.channels h :)

theorem foldl_channels {α : Type} {f : Part → α → Part} (h : ∀ v x, (f v x).channels = v.channels) (xs : List α) (p : Part) :
    (xs.foldl f p).channels = p.channels := foldl_keeps Part.channels h xs p

theorem forEach_channels {f : Nat → Part → Part × List Task} (h : ∀ n v, (f n v).1.channels = v.channels) (ns : List Nat)
    (p : Part) : (p.forEach f ns).1.channels = p.channels := by
  rw [forEach_fst]
  exact foldl_channels (fun v n => h n v) ns p

/-! ### The matrix -/

@[simp] theorem setLineState_channels (l : Nat) (st : LineState) (p : Part) : (p.setLineState l st).channels = p.channels := by
  unfold Part.setLineState
  simp only
  split
  · rfl
  · rfl
  · split
    · rfl
    · exact raise_channels ..

@[simp] theorem setMatrixState_channels (st : MatrixState) (p : Part) : (p.setMatrixState st).channels = p.channels := by
  unfold Part.setMatrixState
  simp only
  split
  · rfl
  · exact raise_channels ..

@[simp] theorem beginAttempt_channels (closing verified : Bool) (n : Nat) (ts : List (Nat × CellId)) (p : Part) :
    (p.beginAttempt closing verified n ts).1.channels = p.channels := channels_of_bare (giveCommands_bare ..)

@[simp] theorem sense_channels (l : Nat) (c : CellId) (p : Part) : (p.sense l c).channels = p.channels := rfl

@[simp] theorem countNoMake_channels (l : Nat) (c : CellId) (p : Part) : (p.countNoMake l c).channels = p.channels := by
  unfold Part.countNoMake
  simp only
  split
  · exact (raise_channels ..).trans (logError_channels ..)
  · rfl

@[simp] theorem readBack_channels (closing : Bool) (ts : List (Nat × CellId)) (p : Part) :
    (p.readBack closing ts).channels = p.channels :=
  foldl_channels (fun v t => by dsimp only; split <;> simp) ts p

@[simp] theorem logRetries_channels (n : Nat) (ts : List (Nat × CellId)) (p : Part) :
    (p.logRetries n ts).channels = p.channels := by
  unfold Part.logRetries
  split
  · rfl
  · exact foldl_channels (fun _ _ => logError_channels ..) ts p

@[simp] theorem logNoMakes_channels (ts : List (Nat × CellId)) (p : Part) : (p.logNoMakes ts).channels = p.channels :=
  foldl_channels (fun _ _ => logError_channels ..) ts p

@[simp] theorem isolate_channels (l : Nat) (c : CellId) (p : Part) : (p.isolate l c).channels = p.channels := by
  have hopened : (allCells.foldl (fun q k => q.commandOpen l k) p).channels = p.channels :=
    foldl_channels (fun _ _ => by rfl) allCells p
  unfold Part.isolate
  rw [raise_channels]
  exact hopened

/-! ### Releases and lockout -/

@[simp] theorem enterEntry_channels (e : Nat) (st : EntryState) (x : Entry) (p : Part) :
    (p.enterEntry e st x).channels = p.channels := by
  unfold Part.enterEntry
  simp only
  split
  · rfl
  · exact raise_channels ..

@[simp] theorem recordCause_channels (e : Nat) (cause : EndCause) (p : Part) : (p.recordCause e cause).channels = p.channels :=
  channels_of_bare (recordCause_bare e cause p)

@[simp] theorem releaseClosing_channels (e : Nat) (fast : Bool) (broken : List Nat) (p : Part) :
    (p.releaseClosing e fast broken).1.channels = p.channels := channels_of_bare (releaseClosing_bare e fast broken p)

@[simp] theorem beginRelease_channels (e : Nat) (fast : Bool) (p : Part) :
    (p.beginRelease e fast).1.channels = p.channels := by
  unfold Part.beginRelease
  exact (channels_of_bare (releaseOpening_bare ..)).trans
    ((foldl_channels (fun _ _ => by rfl) _ _).trans (enterEntry_channels ..))

@[simp] theorem holdBackCloses_channels (e : Nat) (p : Part) : (p.holdBackCloses e).channels = p.channels :=
  channels_of_bare (holdBackCloses_bare e p)

theorem lockEntry_channels (e : Nat) (p : Part) : (p.lockEntry e).1.channels = p.channels := by
  unfold Part.lockEntry
  simp only
  split
  · simp
  · simp
  · rfl
  · rfl

@[simp] theorem lockOut_channels (welds : List (Nat × CellId)) (p : Part) : (p.lockOut welds).1.channels = p.channels := by
  have hisolated : (welds.foldl (fun q w => q.isolate w.1 w.2) (p.setMatrixState .lockout)).channels = p.channels :=
    (foldl_channels (fun _ _ => isolate_channels ..) _ _).trans (setMatrixState_channels ..)
  unfold Part.lockOut
  simp only
  split
  · rw [forEach_channels fun n v => lockEntry_channels n v]
    exact hisolated
  · exact hisolated

@[simp] theorem weldsFound_channels (place : WeldPlace) (welds : List (Nat × CellId)) (p : Part) :
    (p.weldsFound place welds).1.channels = p.channels := by
  unfold Part.weldsFound
  split
  · rfl
  · exact (lockOut_channels ..).trans (foldl_channels (fun _ _ => logError_channels ..) _ _)

/-! ### Insertion and the readbacks -/

@[simp] theorem setTermination_channels (d : Electrical) (t : Termination) (p : Part) :
    (p.setTermination d t).channels = p.channels := by
  unfold Part.setTermination
  split <;> rfl

@[simp] theorem beginInsertStep_channels (e : Nat) (followed : Option Nat) (st : InsertStep) (rest : List InsertStep)
    (p : Part) : (p.beginInsertStep e followed st rest).channels = p.channels := by
  cases st <;> exact beginAttempt_channels _ true 1 _ p

@[simp] theorem acceptInsertion_channels (e : Nat) (d : Electrical) (p : Part) :
    (p.acceptInsertion e d).channels = p.channels := by
  have hheld : (d.lines.foldl (fun q l => q.setLineState l (.held e)) p).channels = p.channels :=
    foldl_channels (fun _ _ => setLineState_channels ..) _ p
  unfold Part.acceptInsertion
  cases d.termination <;> cases d.insertSteps <;> simp [hheld]

@[simp] theorem insertStepEnded_channels (e : Nat) (d : Electrical) (ok : Bool) (rest : List InsertStep) (disarmed : Bool)
    (p : Part) : (p.insertStepEnded e d ok rest disarmed).1.channels = p.channels := by
  unfold Part.insertStepEnded
  split
  · simp
  · split
    · simp
    · split
      · simp
      · exact enterEntry_channels ..

theorem retry_channels (e : Nat) (s : Seq) (wrong : List (Nat × CellId)) (p : Part) :
    (p.retry e s wrong).channels = p.channels :=
  beginAttempt_channels s.step.closing true (s.step.attempt + 1) wrong p

theorem stepEnded_channels (e : Nat) (d : Electrical) (s : Seq) (wrong : List (Nat × CellId)) (place : WeldPlace) (p : Part) :
    (p.stepEnded e d s wrong place).1.channels = p.channels := by
  have hwelds := weldsFound_channels place wrong p
  unfold Part.stepEnded
  split
  · simp only
    split <;> simp
  · simp only
    split
    · split
      · simp
      · split <;> simp
    · simp

theorem stepReadback_channels (e : Nat) (p : Part) : (p.stepReadback e).1.channels = p.channels := by
  unfold Part.stepReadback
  simp only
  split
  · split
    · split
      · simp [stepEnded_channels]
      · simp [retry_channels]
    · rfl
  · rfl

theorem fastReadback_channels (e : Nat) (p : Part) : (p.fastReadback e).1.channels = p.channels := by
  unfold Part.fastReadback
  simp only
  split
  · split
    · simp [stepEnded_channels]
    · rfl
  · rfl

theorem giveHeldClose_channels (l : Nat) (p : Part) : (p.giveHeldClose l).channels = p.channels := by
  unfold Part.giveHeldClose
  simp only
  split
  · split
    · rfl
    · split
      · split
        · split <;> rfl
        · rfl
      · rfl
  · rfl

theorem readIsolated_channels (l : Nat) (logged : CellId) (p : Part) : (p.readIsolated l logged).channels = p.channels := by
  refine foldl_channels (fun v c => ?_) allCells p
  dsimp only
  split
  · split <;> simp
  · rfl

theorem isolationReadback_channels (l : Nat) (p : Part) : (p.isolationReadback l).1.channels = p.channels := by
  have hread (i : Isolation) : ((p.setLine l { p.line l with isolation := none }).readIsolated l i.logged).channels =
      p.channels := readIsolated_channels ..
  unfold Part.isolationReadback
  simp only
  split
  · split
    · split
      · split <;> simp [hread]
      · split <;> simp [hread]
    · rfl
  · rfl

theorem patrolLine_channels (l : Nat) (p : Part) : (p.patrolLine l).1.channels = p.channels := by
  have hsensed : (allCells.foldl (fun q c => q.sense l c) p).channels = p.channels := foldl_channels (fun _ _ => by rfl) _ p
  unfold Part.patrolLine
  simp only
  split
  · rfl
  · split
    · split <;> simp [hsensed]
    · split
      · simp [hsensed]
      · split
        · simp [hsensed]
        · split <;> simp [hsensed]

theorem patrolStep_channels (p : Part) : p.patrolStep.1.channels = p.channels := by
  unfold Part.patrolStep
  simp only
  split
  · split
    · exact (setMatrixState_channels ..).trans (patrolLine_channels ..)
    · exact patrolLine_channels ..
  · rfl

theorem restoreLine_channels (wrong : List (Nat × CellId)) (l : Nat) (p : Part) :
    (p.restoreLine wrong l).channels = p.channels := by
  unfold Part.restoreLine
  split
  · exact setLineState_channels ..
  · rfl
  · rfl

theorem restoreReadback_channels (p : Part) : p.restoreReadback.channels = p.channels := by
  have hlines (wrong : List (Nat × CellId)) (ls : List Nat) (v : Part) :
      (ls.foldl (fun q l => q.restoreLine wrong l) v).channels = v.channels :=
    foldl_channels (fun v l => restoreLine_channels wrong l v) ls v
  unfold Part.restoreReadback
  simp only
  split
  · split
    · split
      · simp
      · split <;> simp [hlines]
    · rfl
  · rfl

theorem wearOutAll_channels (p : Part) : p.wearOutAll.channels = p.channels := by
  refine foldl_channels (fun v l => foldl_channels (fun w c => ?_) allCells v) _ p
  unfold Part.wearOut
  simp only
  split <;> simp [Part.setCell]

theorem patrolCfg_channels (settle interval wear : Option Nat) (p : Part) :
    (p.patrolCfg settle interval wear).channels = p.channels := by
  unfold Part.patrolCfg
  simp only
  split
  · exact wearOutAll_channels _
  · rfl

theorem restoreCells_channels (l : Nat) (cells : List CellId) (p : Part) : (p.restoreCells l cells).channels = p.channels := by
  have hcells : (cells.foldl (fun q c => q.setCell l c (q.cell l c).restored) p).channels = p.channels :=
    foldl_channels (fun _ _ => by rfl) cells p
  unfold Part.restoreCells
  simp only
  split <;> simp [hcells]

theorem beginRestore_channels (p : Part) : p.beginRestore.channels = p.channels := beginAttempt_channels ..

/-! ### Entries, slots and groups -/

@[simp] theorem released_channels (e : Nat) (broken : List Nat) (p : Part) : (p.released e broken).1.channels = p.channels := by
  unfold Part.released
  split
  · refine (foldl_channels (fun _ _ => setLineState_channels ..) _ _).trans ?_
    split <;> simp
  · rfl

theorem block_channels (e : Nat) (p : Part) : (p.block e).channels = p.channels := by
  unfold Part.block
  simp only
  split
  · rfl
  · exact enterEntry_channels ..

theorem grantElectrical_channels (e : Nat) (d : Electrical) (p : Part) : (p.grantElectrical e d).1.channels = p.channels :=
  (acceptInsertion_channels ..).trans (enterEntry_channels ..)

@[simp] theorem finish_channels (e : Nat) (p : Part) : (p.finish e).1.channels = p.channels :=
  finish_keeps Part.channels (fun _ _ => rfl) (fun _ => raise_channels ..) (fun _ _ => logError_channels ..) p

theorem occur_channels (o : Occurrence) (p : Part) : (p.occur o).1.channels = p.channels := by
  rw [occur_eq]

theorem startGroup_channels (g : Nat) (w : Waiting) (p : Part) : (p.startGroup g w).1.channels = p.channels := by
  unfold Part.startGroup
  simp only
  split <;> rfl

theorem cancelGroup_channels (g : Nat) (p : Part) : (p.cancelGroup g).channels = p.channels := by
  unfold Part.cancelGroup
  split
  · exact raise_channels ..
  · rfl

theorem safeWaiting_channels (e : Nat) (p : Part) : (p.safeWaiting e).1.channels = p.channels :=
  safeWaiting_keeps Part.channels (fun _ _ => rfl) (fun _ => raise_channels ..) (fun _ _ => logError_channels ..) p

theorem toggleChatter_channels (e : Nat) (p : Part) : (p.toggleChatter e).channels = p.channels := by
  have hline (d : Electrical) (on : Bool) (l : Nat) (v : Part) : (v.toggleLine d on l).channels = v.channels := by
    unfold Part.toggleLine
    split
    · split
      · exact channels_of_bare (commandClose_bare ..)
      · rfl
    · split
      · rfl
      · exact channels_of_bare (commandClose_bare ..)
  unfold Part.toggleChatter
  simp only
  split
  · split
    · split
      · exact foldl_channels (fun _ _ => hline ..) _ _
      · rfl
    · rfl
  · rfl

/-! ### Capture, engine and link -/

@[simp] theorem captureTest_channels (p : Part) : p.captureTest.channels = p.channels := by
  unfold Part.captureTest
  split
  · exact raise_channels ..
  · rfl

theorem offer_channels (m : Nat) (up : Bool) (p : Part) : (p.offer m up).channels = p.channels := by
  unfold Part.offer
  simp only
  split
  · exact captureTest_channels _
  · split
    · rfl
    · exact logError_channels ..

theorem setEnables_channels (xs : List CaptureSetting) (p : Part) : (p.setEnables xs).channels = p.channels :=
  foldl_channels (fun _ _ => by rfl) xs p

@[simp] theorem setEngine_channels (e : Engine) (p : Part) : (p.setEngine e).channels = p.channels := by
  unfold Part.setEngine
  simp only
  split
  · rfl
  · exact raise_channels ..

theorem engineMode_channels (mode : Mode) (c : Nat) (p : Part) : (p.engineMode mode c).channels = p.channels := by
  unfold Part.engineMode
  split
  · split <;> rfl
  · exact setEngine_channels ..

theorem guardSet_channels (period rate : Option Nat) (p : Part) : (p.guardSet period rate).channels = p.channels := by
  unfold Part.guardSet
  simp only
  split
  · rfl
  · split
    · rfl
    · exact raise_channels ..

theorem keepalive_channels (v : Nat) (p : Part) : (p.keepalive v).channels = p.channels := by
  unfold Part.keepalive
  split <;> rfl

@[simp] theorem discardFrame_channels (code : ErrCode) (n : Nat) (count : Counters → Counters) (p : Part) :
    (p.discardFrame code n count).channels = p.channels := (raise_channels ..).trans (logError_channels ..)

@[simp] theorem completeFrame_channels (bytes : List Byte) (p : Part) : (p.completeFrame bytes).channels = p.channels := by
  unfold Part.completeFrame
  split
  · split
    · rfl
    · exact discardFrame_channels ..
  · exact discardFrame_channels ..

@[simp] theorem huntCharacter_channels (char : Byte) (p : Part) : (p.huntCharacter char).channels = p.channels := by
  unfold Part.huntCharacter
  split <;> rfl

@[simp] theorem truncateFrame_channels (bytes : List Byte) (p : Part) : (p.truncateFrame bytes).channels = p.channels :=
  discardFrame_channels ..

@[simp] theorem takeCharacter_channels (char : Byte) (p : Part) : (p.takeCharacter char).channels = p.channels := by
  unfold Part.takeCharacter
  split
  · exact huntCharacter_channels ..
  · simp only
    split
    · exact completeFrame_channels ..
    · split
      · simp
      · split
        · exact discardFrame_channels ..
        · rfl

theorem startTransmission_channels (p : Part) : p.startTransmission.channels = p.channels := by
  have hover (src : NoticeSource) (v : Part) : (v.handOver src).channels = v.channels := by
    unfold Part.handOver
    split <;> rfl
  unfold Part.startTransmission
  split
  · rfl
  · split
    · exact hover ..
    · rfl
  · rfl

end Sys2Proof.Machine
end

section
/-! SUPPORT. Queues covered: what play, renders and the cascade leave of the channels' queues holds no slot but those held before,
queue by queue and in order, so that a store that is sound stays so (R47, R53, R59, R66). -/

namespace Sys2Proof.Machine

open Sys2Proof

/-! ### One part's queues covered by another's -/

/-- The slots that hold a channel's records, from the head on (R48). -/
def Channel.slots (ch : Channel) : List Nat := ch.queue.map QRec.slot

/-- Each queue of `q` stands in slots of the same queue of `p`, in the same order. -/
structure Part.Covers (p q : Part) : Prop where
  count : q.channels.length = p.channels.length
  slots : ∀ c, (q.channel c).slots.Sublist (p.channel c).slots

theorem Part.Covers.refl (p : Part) : p.Covers p := ⟨rfl, fun _ => .refl _⟩

theorem Part.Covers.trans {p q r : Part} (h : p.Covers q) (h' : q.Covers r) : p.Covers r :=
  ⟨h'.count.trans h.count, fun c => (h'.slots c).trans (h.slots c)⟩

/-- What leaves the channel table alone leaves the queues. -/
theorem covers_of_channels {p q : Part} (h : q.channels = p.channels) : p.Covers q :=
  ⟨congrArg List.length h, fun c => by rw [channel_of_channels h]⟩

/-- What leaves the channel table alone after some work leaves the queues as that work does. -/
theorem Part.Covers.of_channels {p q r : Part} (h : p.Covers q) (hr : r.channels = q.channels) : p.Covers r :=
  h.trans (covers_of_channels hr)

theorem covers_setChannel {c : Nat} {x : Channel} {p : Part} (h : x.slots.Sublist (p.channel c).slots) :
    p.Covers (p.setChannel c x) := by
  refine ⟨List.length_set, fun k => ?_⟩
  rcases eq_or_ne k c with rfl | hk
  · rcases Nat.lt_or_ge k p.channels.length with hlt | hge
    · rw [channel_setChannel k x p hlt]
      exact h
    · have hsame : (p.setChannel k x).channels = p.channels := List.set_eq_of_length_le hge
      rw [channel_of_channels hsame]
  · rw [channel_setChannel_ne hk]

theorem covers_putChannel {c : Nat} {x : Channel} {p : Part} (h : x.slots.Sublist (p.channel c).slots) :
    p.Covers (p.putChannel c x) := covers_setChannel (x := { x with pin := p.pinOf c x }) h

/-- A channel whose queue is emptied is covered by any. -/
theorem slots_of_empty {x : Channel} (h : x.queue = []) (ch : Channel) : x.slots.Sublist ch.slots := by
  rw [Channel.slots, h]
  exact List.nil_sublist _

/-- A change of every channel that keeps each queue. -/
theorem covers_mapChannels {f : Nat → Channel → Channel} (h : ∀ c ch, (f c ch).queue = ch.queue) (p : Part) :
    p.Covers (p.mapChannels f) := by
  refine ⟨List.length_mapIdx, fun c => ?_⟩
  have hqueue : ((p.mapChannels f).channel c).queue = (p.channel c).queue := by
    simp only [Part.channel, Part.mapChannels, List.getD_eq_getElem?_getD, List.getElem?_mapIdx]
    cases p.channels[c]? with
    | none => rfl
    | some ch => exact h c ch
  rw [Channel.slots, hqueue]
  exact .refl _

theorem covers_foldl {α : Type} {f : Part → α → Part} (h : ∀ v x, Part.Covers v (f v x)) (xs : List α) (p : Part) :
    p.Covers (xs.foldl f p) := by
  induction xs generalizing p with
  | nil => exact .refl p
  | cons x xs ih => exact (h p x).trans (ih _)

/-- What tables of channels hold together is covered where each channel is. -/
theorem flatMap_slots_sublist {xs ys : List Channel} (hlen : ys.length = xs.length)
    (h : ∀ c, (ys.getD c Channel.atReset).slots.Sublist (xs.getD c Channel.atReset).slots) :
    (ys.flatMap Channel.slots).Sublist (xs.flatMap Channel.slots) := by
  induction xs generalizing ys with
  | nil =>
    rw [List.length_eq_zero_iff.mp hlen]
  | cons x xs ih =>
    match ys, hlen with
    | y :: ys, hlen =>
      rw [List.flatMap_cons, List.flatMap_cons]
      exact (h 0).append (ih (Nat.succ.inj hlen) fun c => h (c + 1))

/-- A store covered by a sound one is sound. -/
theorem Part.Covers.storeSound {p q : Part} (h : p.Covers q) (hp : p.StoreSound) : q.StoreSound := by
  obtain ⟨hnodup, hrange, hlimit⟩ := hp
  have hheld : q.heldSlots.Sublist p.heldSlots := flatMap_slots_sublist h.count h.slots
  refine ⟨hnodup.sublist hheld, fun n hn => hrange n (hheld.subset hn), fun ch hch => ?_⟩
  obtain ⟨c, hc, rfl⟩ := List.getElem_of_mem hch
  have hc' : c < p.channels.length := h.count ▸ hc
  have hread (v : Part) (hv : c < v.channels.length) : v.channels[c] = v.channel c := by
    simp [Part.channel, List.getD_eq_getElem?_getD, hv]
  have hle := (h.slots c).length_le
  rw [Channel.slots, Channel.slots, List.length_map, List.length_map] at hle
  rw [hread q hc]
  exact hle.trans (hread p hc' ▸ hlimit _ (List.getElem_mem hc'))

/-- A record written back in its slot leaves the slots as they were. -/
theorem slots_of_set {queue : List QRec} {i : Nat} {q : QRec} (hq : queue[i]? = some q) (content : Content) :
    (queue.set i { q with content := content }).map QRec.slot = queue.map QRec.slot := by
  obtain ⟨hlt, hget⟩ := List.getElem?_eq_some_iff.mp hq
  have hsame : q.slot = (queue.map QRec.slot)[i]'(by simpa using hlt) := by simp [hget]
  rw [List.map_set, hsame, List.set_getElem_self]

/-! ### Renders -/

theorem show_queue (base : Nat) (ch : Channel) : (ch.show base).queue = ch.queue := by rw [show_eq]

theorem levelShow_queue (now : Nat) (ch : Channel) : (ch.levelShow now).queue = ch.queue := by
  unfold Channel.levelShow
  split
  · exact show_queue ..
  · exact show_queue ..
  · rfl

theorem pwmShow_queue (now start : Nat) (ch : Channel) : (ch.pwmShow now start).queue = ch.queue := show_queue ..

theorem pulseFrom_queue (start : Nat) (ch : Channel) : (ch.pulseFrom start).queue = ch.queue := by
  unfold Channel.pulseFrom
  split <;> rfl

theorem pulseShow_queue (now start : Nat) (ch : Channel) : (ch.pulseShow now start).queue = ch.queue :=
  (pulseFrom_queue ..).trans (show_queue ..)

theorem pwmPeriod_queue (now start : Nat) (ch : Channel) : (ch.pwmPeriod now start).queue = ch.queue := pwmShow_queue ..

theorem pulsePeriod_queue (now start : Nat) (ch : Channel) : (ch.pulsePeriod now start).queue = ch.queue := pulseShow_queue ..

theorem firstPeriod_queue (now : Nat) (ch : Channel) : (ch.firstPeriod now).queue = ch.queue := by
  unfold Channel.firstPeriod
  split
  · exact pwmPeriod_queue ..
  · exact pulsePeriod_queue ..
  · rfl

theorem wheelRender_queue (pattern : Option Pattern) (angle : Nat) (ch : Channel) :
    (ch.wheelRender pattern angle).queue = ch.queue := by
  unfold Channel.wheelRender
  simp only
  split
  · split <;> exact show_queue ..
  · exact show_queue ..

theorem again_queue (now : Nat) (ch : Channel) : (ch.again now).queue = ch.queue := by
  unfold Channel.again
  split
  · exact levelShow_queue ..
  · split
    · exact show_queue ..
    · split
      · exact pwmShow_queue ..
      · exact pulseShow_queue ..
      · rfl

/-- A channel with the queue it had stands in the slots it stood in. -/
theorem slots_of_queue {x ch : Channel} (h : x.queue = ch.queue) : x.slots.Sublist ch.slots := by
  rw [Channel.slots, h]
  exact .refl _

theorem covers_renderWheel (c : Nat) (p : Part) : p.Covers (p.renderWheel c) :=
  covers_putChannel (slots_of_queue (wheelRender_queue ..))

theorem covers_renderAgain (c : Nat) (p : Part) : p.Covers (p.renderAgain c) := by
  unfold Part.renderAgain
  simp only
  split
  · exact covers_putChannel (slots_of_queue (again_queue ..))
  · exact .refl p

theorem covers_renderWheels (p : Part) : p.Covers p.renderWheels :=
  covers_mapChannels (fun _ _ => by dsimp only; split <;> [exact wheelRender_queue ..; rfl]) p

theorem covers_refreshPins (p : Part) : p.Covers p.refreshPins :=
  covers_mapChannels (fun _ _ => by split <;> rfl) p

theorem covers_renderLevels (p : Part) : p.Covers p.renderLevels :=
  covers_mapChannels (fun _ _ => by dsimp only; split <;> [exact levelShow_queue ..; rfl]) p

theorem covers_renderLooks (p : Part) : p.Covers p.renderLooks :=
  covers_mapChannels (fun _ _ => by dsimp only; split <;> [exact show_queue ..; rfl]) p

theorem covers_renderTravels (p : Part) : p.Covers p.renderTravels :=
  covers_mapChannels (fun _ _ => by dsimp only; split <;> [exact again_queue ..; rfl]) p

theorem tickTake_queue (ch : Channel) : ch.tickTake.queue = ch.queue := by
  unfold Channel.tickTake
  split
  · rfl
  · split <;> rfl

theorem covers_tickTakes (p : Part) : p.Covers p.tickTakes :=
  ⟨List.length_map _, fun c => by
    have hread : p.tickTakes.channel c = (p.channel c).tickTake := getD_map_of_fixed rfl p.channels c
    exact slots_of_queue (by rw [hread, tickTake_queue])⟩

theorem covers_addTravel (m : Move) (p : Part) : p.Covers (p.addTravel m) :=
  ⟨List.length_map _, fun _ => slots_of_queue (by rw [addTravel_channel, channel_travelled_eq])⟩

/-! ### Play -/

theorem covers_enterState {c : Nat} {st : ChState} {x : Channel} {p : Part} (h : x.slots.Sublist (p.channel c).slots) :
    p.Covers (p.enterState c st x) := by
  have hput : p.Covers (p.putChannel c { x with state := st }) := covers_putChannel h
  unfold Part.enterState
  simp only
  split
  · exact hput
  · exact hput.of_channels (raise_channels ..)

theorem readSlot_channels (c slot : Nat) (p : Part) : (p.readSlot c slot).2.channels = p.channels := by
  unfold Part.readSlot
  split
  · rfl
  · exact logError_channels ..
  · rfl

theorem covers_starve (c marker : Nat) (p : Part) : p.Covers (p.starve c marker) := by
  refine (covers_of_channels (logError_channels ..)).trans (covers_enterState ?_)
  rw [logError_channel]
  exact slots_of_queue rfl

theorem covers_faultChannel (c slot : Nat) (p : Part) : p.Covers (p.faultChannel c slot) :=
  (covers_of_channels (logError_channels ..)).trans (covers_enterState (slots_of_empty rfl _))

theorem covers_arrive (c place : Nat) (carry : Option Nat) (before marker : Nat) (p : Part) :
    p.Covers (p.arrive c place carry before marker).1 := by
  unfold Part.arrive
  split
  · exact covers_starve ..
  · rename_i q hq
    have hchannels := readSlot_channels c q.slot p
    split
    · rename_i p' hp
      rw [hp] at hchannels
      exact (covers_of_channels hchannels).trans (covers_faultChannel ..)
    · rename_i p' hp
      rw [hp] at hchannels
      have hchannel := channel_of_channels hchannels c
      refine (covers_of_channels hchannels).trans ?_
      split
      · exact covers_setChannel (slots_of_queue rfl)
      · rename_i k _ _ _ _
        dsimp only
        split
        · refine covers_setChannel ?_
          rw [Channel.slots, hchannel, slots_of_set hq]
          exact .refl _
        · refine covers_setChannel ?_
          rw [Channel.slots, Channel.slots, hchannel]
          have hfreed : ((p.channel c).queue.drop (place + 1)).Sublist ((p.channel c).queue.drop (place - k)) :=
            List.drop_sublist_drop_left _ (by omega)
          have hkept := (List.Sublist.refl ((p.channel c).queue.take (place - k))).append hfreed
          rw [List.take_append_drop] at hkept
          exact hkept.map _

theorem covers_endSegment (c : Nat) (p : Part) : p.Covers (p.endSegment c).1 := by
  unfold Part.endSegment
  simp only
  split
  · split
    · split
      · exact covers_enterState (slots_of_empty rfl _)
      · refine covers_setChannel ?_
        dsimp only [Channel.slots]
        split
        · exact .refl _
        · exact (List.eraseIdx_sublist ..).map _
    · exact .refl p
  · exact .refl p

theorem covers_startMember (c : Nat) (p : Part) : p.Covers (p.startMember c).1 := by
  unfold Part.startMember
  simp only
  split
  · split
    · exact (covers_enterState (slots_of_queue (by rfl))).trans (covers_renderWheel c _)
    · exact covers_enterState (slots_of_queue (by rfl))
  · exact .refl p

theorem covers_resume (c : Nat) (p : Part) : p.Covers (p.resume c).1 := by
  unfold Part.resume
  simp only
  split
  · split
    · split
      · exact covers_faultChannel ..
      · exact covers_enterState (slots_of_queue rfl)
    · exact .refl p
  · exact .refl p

theorem covers_runStart (c : Nat) (p : Part) : p.Covers (p.runStart c).1 := by
  unfold Part.runStart
  simp only
  split
  · split
    · split
      · exact (covers_setChannel (slots_of_queue (by rfl))).trans (covers_renderWheel c _)
      · exact covers_setChannel (slots_of_queue (by rfl))
    · exact .refl p
  · exact .refl p

theorem covers_playDue (c : Nat) (p : Part) : p.Covers (p.playDue c).1 := by
  unfold Part.playDue
  split
  · split
    · exact covers_runStart ..
    · exact covers_endSegment ..
  · exact covers_resume ..
  · exact .refl p

theorem covers_lowWater (c before : Nat) (p : Part) : p.Covers (p.lowWater c before) := by
  unfold Part.lowWater
  simp only
  split
  · exact covers_of_channels (raise_channels ..)
  · exact .refl p

/-! ### Entries whose faults stand on channels (R134, R139, R143) -/

theorem covers_setModifier (c : Nat) (m : Option Modifier) (p : Part) :
    p.Covers (p.setChannel c { p.channel c with modifier := m }) := covers_setChannel (slots_of_queue (by rfl))

theorem covers_endSignal (e c : Nat) (f : SigFault) (p : Part) : p.Covers (p.endSignal e c f).1 := by
  unfold Part.endSignal
  simp only
  split
  · exact (covers_setModifier c none p).of_channels rfl
  · exact covers_of_channels rfl

theorem covers_endActive (e : Nat) (cause : EndCause) (p : Part) : p.Covers (p.endActive e cause).1 := by
  have hcause : p.Covers (p.recordCause e cause) := covers_of_channels (recordCause_channels ..)
  unfold Part.endActive
  simp only
  split
  · exact hcause.of_channels (beginRelease_channels ..)
  · exact hcause.trans (covers_endSignal ..)
  · exact .refl p

theorem covers_endUnclaimed (e : Nat) (cause : EndCause) (p : Part) : p.Covers (p.endUnclaimed e cause).1 :=
  covers_of_channels (recordCause_channels ..)

theorem covers_grantSignal (e c : Nat) (f : SigFault) (p : Part) : p.Covers (p.grantSignal e c f).1 := by
  unfold Part.grantSignal
  refine Part.Covers.trans ?_ (covers_setModifier c _ _)
  exact covers_of_channels (enterEntry_channels ..)

theorem covers_askClaims (e : Nat) (back : List Nat) (p : Part) : p.Covers (p.askClaims e back).1 := by
  unfold Part.askClaims
  split
  · split
    · exact covers_endUnclaimed ..
    · split
      · exact covers_grantSignal ..
      · exact covers_of_channels (block_channels ..)
  · split
    · split
      · exact covers_endUnclaimed ..
      · exact covers_endUnclaimed ..
      · exact covers_of_channels (grantElectrical_channels ..)
    · exact covers_of_channels (block_channels ..)
  · exact .refl p

theorem covers_due (e : Nat) (w : Waiting) (point : Nat) (p : Part) : p.Covers (p.due e w point).1 := by
  unfold Part.due
  simp only
  split
  · split
    · split
      · exact (covers_of_channels (setEntry_channels ..)).trans (covers_endUnclaimed e .missed _)
      · exact (covers_of_channels (setEntry_channels ..)).trans (covers_askClaims e [] _)
    · exact .refl p
  · exact .refl p

theorem covers_judge (e : Nat) (back : List Nat) (p : Part) : p.Covers (p.judge e back).1 := by
  unfold Part.judge
  split
  · exact covers_askClaims ..
  · exact .refl p

/-! ### The cascade -/

/-- No piece of work puts a record into a queue. -/
theorem covers_doTask (t : Task) (p : Part) : p.Covers (p.doTask t).1 := by
  cases t with
  | occur o => exact covers_of_channels (occur_channels o p)
  | notify src => exact covers_of_channels (raise_channels src p)
  | due e w point => exact covers_due e w point p
  | startGroup g w => exact covers_of_channels (startGroup_channels g w p)
  | startMember c => exact covers_startMember c p
  | groupDone g n => exact covers_of_channels rfl
  | arrive c place carry before marker => exact covers_arrive c place carry before marker p
  | lowWater c before => exact covers_lowWater c before p
  | endSegment c => exact covers_endSegment c p
  | resume c => exact covers_resume c p
  | capture m up => exact covers_of_channels (offer_channels m up p)
  | renderAgain c => exact covers_renderAgain c p
  | play c => exact covers_playDue c p
  | endUntil e ended =>
    simp only [Part.doTask]
    split
    · exact covers_endActive e .completed p
    · exact .refl p
  | endActive e cause => exact covers_endActive e cause p
  | judge e back => exact covers_judge e back p
  | released e broken => exact covers_of_channels (released_channels e broken p)
  | finish e => exact covers_of_channels (finish_channels e p)

theorem covers_settleAll (r : Part × List Task) : r.1.Covers (settleAll r) :=
  settleAll_keeps (P := r.1.Covers) (fun t q h => h.trans (covers_doTask t q)) r (.refl r.1)

/-- Work begun from a part that `p` covers leaves one that `p` covers. -/
theorem Part.Covers.settled {p : Part} {r : Part × List Task} (h : p.Covers r.1) : p.Covers (settleAll r) :=
  h.trans (covers_settleAll r)

theorem covers_play (c : Nat) (p : Part) : p.Covers (p.play c) := (covers_playDue c p).settled

theorem covers_playWhere (test : Channel → Bool) (p : Part) : p.Covers (p.playWhere test) :=
  (Part.Covers.refl p).settled

theorem covers_passings (m : Move) (p : Part) : p.Covers (p.passings m).1 := by
  rw [passings_eq]
  exact covers_of_channels rfl

theorem covers_takeMove (em : Engine × Move) (p : Part) : p.Covers (p.takeMove em) := by
  have hturned : p.Covers { p with engine := em.1 } := covers_of_channels rfl
  have hmet := (hturned.trans (covers_addTravel em.2 _)).trans (covers_passings em.2 _)
  exact (hmet.settled.trans (covers_renderTravels _)).trans (covers_renderWheels _)

end Sys2Proof.Machine
end

section
/-! SUPPORT. Slots taken by an append, lowest free first, and the soundness of the store that every step keeps (R47, R52). -/

namespace Sys2Proof.Machine

open Sys2Proof

/-! ### The lowest free slot (R47) -/

/-- Numbers that are all among some others are no more than these. -/
theorem le_length_of_all_mem {n : Nat} {used : List Nat} (h : ∀ m < n, m ∈ used) : n ≤ used.length := by
  have hsub : (List.range n).Subperm used :=
    List.subperm_of_subset List.nodup_range fun m hm => h m (List.mem_range.mp hm)
  simpa using hsub.length_le

/-- A search that has a free slot in its reach finds the lowest one from its start on. -/
theorem firstFree_spec {fuel n : Nat} {used : List Nat} (h : ∃ m, n ≤ m ∧ m < n + fuel ∧ m ∉ used) :
    firstFree fuel n used ∉ used ∧ ∀ m, n ≤ m → m < firstFree fuel n used → m ∈ used := by
  induction fuel generalizing n with
  | zero =>
    obtain ⟨m, hle, hlt, -⟩ := h
    omega
  | succ fuel ih =>
    obtain ⟨m, hle, hlt, hfree⟩ := h
    rw [firstFree]
    by_cases hn : n ∈ used
    · rw [if_pos (List.contains_iff_mem.mpr hn)]
      have hne : n ≠ m := fun heq => hfree (heq ▸ hn)
      obtain ⟨hnew, hbelow⟩ := ih (n := n + 1) ⟨m, by omega, by omega, hfree⟩
      refine ⟨hnew, fun k hk hlow => ?_⟩
      rcases Nat.eq_or_lt_of_le hk with rfl | hk
      · exact hn
      · exact hbelow k hk hlow
    · rw [if_neg (mt List.contains_iff_mem.mp hn)]
      exact ⟨hn, fun k hk hlow => absurd hlow (Nat.not_lt.mpr hk)⟩

/-- The slot that an append takes next: free, and every lower one used. -/
theorem lowestFree_spec (used : List Nat) : firstFree (used.length + 1) 0 used ∉ used ∧
    ∀ m < firstFree (used.length + 1) 0 used, m ∈ used := by
  have hreach : ∃ m, 0 ≤ m ∧ m < 0 + (used.length + 1) ∧ m ∉ used := by
    by_contra hno
    push Not at hno
    have hle := le_length_of_all_mem fun m (hm : m < used.length + 1) => hno m (Nat.zero_le m) (by omega)
    omega
  obtain ⟨hfree, hbelow⟩ := firstFree_spec hreach
  exact ⟨hfree, fun m hm => hbelow m (Nat.zero_le m) hm⟩

theorem lowestFree_le (used : List Nat) : firstFree (used.length + 1) 0 used ≤ used.length :=
  le_length_of_all_mem (lowestFree_spec used).2

/-! ### The slots of an append (R47, R52) -/

theorem takeSlots_length (k : Nat) (used : List Nat) : (takeSlots k used).length = k := by
  induction k generalizing used with
  | zero => rfl
  | succ k ih => rw [takeSlots, List.length_cons, ih]

/-- Each slot an append takes is the lowest that is free when the records before it have theirs. -/
theorem takeSlots_lowest {k : Nat} {used : List Nat} {i n : Nat} (h : (takeSlots k used)[i]? = some n) :
    n ∉ used ∧ n ∉ (takeSlots k used).take i ∧ ∀ m < n, m ∈ used ∨ m ∈ (takeSlots k used).take i := by
  induction k generalizing used i with
  | zero => cases h
  | succ k ih =>
    obtain ⟨hfree, hbelow⟩ := lowestFree_spec used
    rw [takeSlots] at h ⊢
    cases i with
    | zero =>
      obtain rfl := Option.some.inj h
      exact ⟨hfree, List.not_mem_nil, fun m hm => .inl (hbelow m hm)⟩
    | succ i =>
      obtain ⟨hnew, htaken, hlow⟩ := ih h
      rw [List.take_succ_cons]
      refine ⟨fun hm => hnew (List.mem_cons_of_mem _ hm), fun hm => ?_, fun m hm => ?_⟩
      · rcases List.mem_cons.mp hm with rfl | hm
        · exact hnew List.mem_cons_self
        · exact htaken hm
      · rcases hlow m hm with hm | hm
        · rcases List.mem_cons.mp hm with rfl | hm
          · exact .inr List.mem_cons_self
          · exact .inl hm
        · exact .inr (List.mem_cons_of_mem _ hm)

theorem takeSlots_fresh {k n : Nat} {used : List Nat} (h : n ∈ takeSlots k used) : n ∉ used := by
  obtain ⟨i, hi⟩ := List.mem_iff_getElem?.mp h
  exact (takeSlots_lowest hi).1

theorem takeSlots_nodup (k : Nat) (used : List Nat) : (takeSlots k used).Nodup := by
  induction k generalizing used with
  | zero => exact List.nodup_nil
  | succ k ih =>
    rw [takeSlots, List.nodup_cons]
    exact ⟨fun hm => takeSlots_fresh hm List.mem_cons_self, ih _⟩

theorem takeSlots_lt {k n : Nat} {used : List Nat} (h : n ∈ takeSlots k used) : n < used.length + k := by
  induction k generalizing used with
  | zero => cases h
  | succ k ih =>
    rw [takeSlots] at h
    rcases List.mem_cons.mp h with rfl | h
    · have hle := lowestFree_le used
      omega
    · have hlt := ih h
      rw [List.length_cons] at hlt
      omega

/-! ### The store after an append -/

/-- The records of an append, each in its slot. -/
def appendedRecords (k : Kind) (slots : List Nat) (rs : List RawRecord) : List QRec :=
  (slots.zip (storedRecords k rs)).map fun (s, r) => { slot := s, content := r.1 }

theorem appendedRecords_slots {k : Kind} {slots : List Nat} {rs : List RawRecord} (h : slots.length = rs.length) :
    (appendedRecords k slots rs).map QRec.slot = slots := by
  rw [appendedRecords, List.map_map]
  exact List.map_fst_zip (by rw [storedRecords, List.length_map, h])

/-- Slots that join a queue join the slots held. -/
theorem flatMap_set_append {c : Nat} {xs : List Channel} (hc : c < xs.length) {x : Channel} {added : List Nat}
    (hx : x.slots = xs[c].slots ++ added) : ((xs.set c x).flatMap Channel.slots).Perm (xs.flatMap Channel.slots ++ added) := by
  induction xs generalizing c with
  | nil => cases hc
  | cons y ys ih =>
    cases c with
    | zero =>
      rw [List.set_cons_zero, List.flatMap_cons, List.flatMap_cons, hx, List.append_assoc, List.append_assoc]
      exact (List.perm_append_comm).append_left _
    | succ c =>
      rw [List.set_cons_succ, List.flatMap_cons, List.flatMap_cons, List.append_assoc]
      exact (ih (Nat.lt_of_succ_lt_succ hc) hx).append_left _

section
variable {c : Nat} {rs : List RawRecord} {p : Part}

/-- The slots an append takes. -/
def Part.appendSlots (rs : List RawRecord) (p : Part) : List Nat := takeSlots rs.length p.heldSlots

theorem appendSlots_length : (p.appendSlots rs).length = rs.length := takeSlots_length ..

theorem append_slots (hc : c < p.channels.length) :
    ((p.append c rs).channel c).slots = (p.channel c).slots ++ p.appendSlots rs := by
  have hchannel : ((p.append c rs).channel c).queue = (p.channel c).queue ++
      appendedRecords ((p.channel c).kind.getD .level) (p.appendSlots rs) rs :=
    congrArg Channel.queue (channel_setChannel c _ p hc)
  rw [Channel.slots, hchannel, List.map_append, appendedRecords_slots appendSlots_length, Channel.slots]

theorem append_heldSlots (hc : c < p.channels.length) : (p.append c rs).heldSlots.Perm (p.heldSlots ++ p.appendSlots rs) := by
  have hget : p.channels[c] = p.channel c := by simp [Part.channel, List.getD_eq_getElem?_getD, hc]
  refine flatMap_set_append hc ?_
  rw [hget]
  exact (congrArg Channel.slots (channel_setChannel c _ p hc)).symm.trans (append_slots hc)

theorem heldRecords_eq (p : Part) : p.heldRecords = p.heldSlots.length := by
  rw [Part.heldRecords, Part.heldSlots, List.length_flatMap]
  simp

/-- An append within the store and within the queue keeps the store sound. -/
theorem append_storeSound (hp : p.StoreSound) (hstore : ¬p.freeSlots < rs.length)
    (hqueue : ¬Config.queueLimit < (p.channel c).queue.length + rs.length) : (p.append c rs).StoreSound := by
  rcases Nat.lt_or_ge c p.channels.length with hc | hc
  · obtain ⟨hnodup, hrange, hlimit⟩ := hp
    have hheld : (p.append c rs).heldSlots.Perm (p.heldSlots ++ p.appendSlots rs) := append_heldSlots hc
    have hroom (n : Nat) (hn : n ∈ p.appendSlots rs) : n < 16384 := by
      have hlt : n < p.heldSlots.length + rs.length := takeSlots_lt hn
      have hsome : 0 < (p.appendSlots rs).length := List.length_pos_of_mem hn
      rw [appendSlots_length] at hsome
      rw [Part.freeSlots, heldRecords_eq] at hstore
      have hslots : Config.slots = 16384 := rfl
      omega
    refine ⟨hheld.nodup_iff.mpr (List.nodup_append.mpr ⟨hnodup, takeSlots_nodup .., fun m hm n hn heq => ?_⟩),
      fun n hn => ?_, fun ch hch => ?_⟩
    · exact takeSlots_fresh hn (heq ▸ hm)
    · rcases List.mem_append.mp (hheld.mem_iff.mp hn) with hn | hn
      · exact hrange n hn
      · exact hroom n hn
    · rcases List.mem_or_eq_of_mem_set hch with hch | rfl
      · exact hlimit ch hch
      · have hlength := congrArg List.length (append_slots (rs := rs) hc)
        rw [Channel.slots, Channel.slots, List.length_append, List.length_map, List.length_map,
          appendSlots_length] at hlength
        have hread : (p.append c rs).channel c = _ := channel_setChannel c _ p hc
        rw [← hread, hlength]
        have hmax : Config.queueLimit = 4096 := rfl
        omega
  · have hsame : (p.append c rs).channels = p.channels := List.set_eq_of_length_le hc
    exact (covers_of_channels hsame).storeSound hp

end

end Sys2Proof.Machine
end

section
/-! SUPPORT. Every command keeps the store sound: what each block's acceptance and each event leaves, and the step over them (R47). -/

namespace Sys2Proof.Machine

open Sys2Proof

/-! ### What an outcome leaves -/

/-- A next state, if that is the outcome, has a part of which `P` holds. -/
def Leaves (P : Part → Prop) (o : Host.Outcome State Fault Refusal) : Prop := ∀ t, o = .next t → P t.part

/-- An acceptance, if that is the verdict, leaves a part of which `P` holds. -/
def Verdict.Accepts (P : Part → Prop) : Verdict → Prop
  | .refuse _ => True
  | .ack _ q => P q

section
variable {P : Part → Prop} {s : State}

/-- A verdict behind checks is to be looked at where none of them fails. -/
theorem accepts_checked {cs : List (Bool × Refused)} {a : Verdict} (h : firstFailure cs = none → a.Accepts P) :
    (checked cs a).Accepts P := by
  unfold checked
  cases hf : firstFailure cs with
  | none => exact h hf
  | some r => trivial

theorem leaves_acted {p : Part} (h : P p) : Leaves P (acted s p) := by
  intro t ht
  cases ht
  exact h

theorem leaves_onUnit {n units : Nat} {act : Part → Part} (h : P (act s.part)) : Leaves P (onUnit n units act s) := by
  rcases Nat.lt_or_ge n units with hn | hn
  · rw [onUnit_of_lt hn]
    exact leaves_acted h
  · rw [onUnit_of_le hn]
    intro t ht
    cases ht

/-- A request leaves what its block's acceptance leaves, or nothing but a frame taken and a reply. -/
theorem leaves_request {c : Instr} {tag : Nat} {act : Part → Verdict} (hlink : ∀ p l, P p → P { p with link := l })
    (hact : ∀ p, P p → (act p).Accepts P) (hs : P s.part) : Leaves P (request c tag act s) := by
  cases htakes : s.part.takes c with
  | false =>
    rw [request_of_not_takes htakes]
    exact leaves_acted (s := s) hs
  | true =>
    rw [request_of_takes htakes]
    refine leaves_acted (s := s) ?_
    obtain ⟨l, hl⟩ : ∃ l, s.part.taken c = { s.part with link := l } := by
      unfold Part.taken Part.takeFrame
      split
      · split
        · split <;> exact ⟨_, rfl⟩
        · exact ⟨_, rfl⟩
      · exact ⟨_, rfl⟩
    have htaken : P (s.part.taken c) := hl ▸ hlink _ _ hs
    have haccepts := hact _ htaken
    unfold Part.judgeRequest
    split
    · exact hlink _ _ htaken
    · generalize act (s.part.taken c) = v at haccepts
      cases v with
      | refuse r => exact hlink _ _ htaken
      | ack b q => exact hlink _ _ haccepts

end

/-! ### Covered queues (R47) -/

section
variable {s : State}

/-- A request whose acceptance leaves queues covered by those it found keeps the store sound. -/
theorem request_storeSound {c : Instr} {tag : Nat} {act : Part → Verdict} (hs : s.part.StoreSound)
    (h : ∀ p : Part, (act p).Accepts p.Covers) : Leaves Part.StoreSound (request c tag act s) := by
  refine leaves_request (fun p l hp => (covers_of_channels (q := { p with link := l }) rfl).storeSound hp)
    (fun p hp => ?_) hs
  have haccepts := h p
  cases hv : act p with
  | refuse r => trivial
  | ack b q =>
    rw [hv] at haccepts
    exact Part.Covers.storeSound haccepts hp

/-- A checked request, likewise. -/
theorem request_checked_storeSound {c : Instr} {tag : Nat} {checks : Part → List (Bool × Refused)} {body : Part → Body}
    {after : Part → Part} (hs : s.part.StoreSound) (h : ∀ p : Part, p.Covers (after p)) :
    Leaves Part.StoreSound (request c tag (fun p => checked (checks p) (.ack (body p) (after p))) s) :=
  request_storeSound hs fun p => accepts_checked fun _ => h p

theorem acted_storeSound {q : Part} (hs : s.part.StoreSound) (h : s.part.Covers q) : Leaves Part.StoreSound (acted s q) :=
  leaves_acted (h.storeSound hs)

theorem onUnit_storeSound {n units : Nat} {act : Part → Part} (hs : s.part.StoreSound) (h : ∀ p : Part, p.Covers (act p)) :
    Leaves Part.StoreSound (onUnit n units act s) := leaves_onUnit ((h s.part).storeSound hs)

end

theorem covers_ite {c : Prop} [Decidable c] {p q r : Part} (hq : p.Covers q) (hr : p.Covers r) :
    p.Covers (if c then q else r) := by
  split
  · exact hq
  · exact hr

/-! ### The channels' requests and renders -/

theorem covers_configure (c : Nat) (cfg : ChConfig) (p : Part) : p.Covers (p.configure c cfg) := by
  have hshown (ch : Channel) : (ch.shownAtPark p.now).queue = ch.queue := firstPeriod_queue ..
  have hanew (ch : Channel) : (p.wheelAnew ch).queue = ch.queue := by
    unfold Part.wheelAnew
    split
    · exact wheelRender_queue ..
    · rfl
  unfold Part.configure
  simp only
  split
  · exact covers_enterState (slots_of_queue (hshown _))
  · refine covers_putChannel (slots_of_queue ?_)
    split
    · exact hanew _
    · exact hshown _

theorem covers_startChannel (c : Nat) (p : Part) : p.Covers (p.startChannel c) := by
  unfold Part.startChannel
  simp only
  split <;> exact covers_enterState (slots_of_queue (by rfl))

theorem covers_disableChannel (c : Nat) (p : Part) : p.Covers (p.disableChannel c) := by
  unfold Part.disableChannel
  simp only
  exact covers_ite (.refl p) (Part.Covers.settled (covers_enterState (slots_of_empty rfl _)))

theorem covers_levelTick (p : Part) : p.Covers p.levelTick :=
  ((covers_playWhere Channel.levelled p).of_channels (by rfl)).trans (covers_renderLevels _)

theorem covers_endPwmPeriod (c : Nat) (p : Part) : p.Covers (p.endPwmPeriod c) := by
  unfold Part.endPwmPeriod
  split
  · exact (covers_play c p).trans (covers_putChannel (slots_of_queue (pwmPeriod_queue ..)))
  · exact .refl p

theorem covers_endPulsePeriod (c : Nat) (p : Part) : p.Covers (p.endPulsePeriod c) := by
  unfold Part.endPulsePeriod
  split
  · exact (covers_play c p).trans (covers_putChannel (slots_of_queue (pulsePeriod_queue ..)))
  · exact .refl p

theorem covers_startTrain (c : Nat) (p : Part) : p.Covers (p.startTrain c) :=
  covers_ite (covers_putChannel (slots_of_queue (pulseFrom_queue ..))) (.refl p)

/-! ### The engine and the tick -/

theorem covers_indexPulse (p : Part) : p.Covers p.indexPulse := by
  unfold Part.indexPulse
  simp only
  exact covers_ite ((covers_takeMove _ p).of_channels (logError_channels ..)) (covers_takeMove _ p)

theorem ringTest_channels (p : Part) : p.ringTest.channels = p.channels := by
  unfold Part.ringTest
  split
  · rfl
  · split
    · exact raise_channels ..
    · rfl

theorem covers_tick (changes : List PinChange) (p : Part) : p.Covers (p.tick changes) := by
  have honto : (p.onto changes).channels = p.channels := by rw [onto_eq]
  have hsampled : p.Covers (p.onto changes).tickTakes.sampleTriggers :=
    ((covers_of_channels honto).trans (covers_tickTakes _)).of_channels rfl
  have hturned (v : Part) : v.Covers v.turn := covers_ite (covers_takeMove _ v) (.refl v)
  have hrendered (v : Part) : v.Covers v.tickRenders := (covers_renderLooks v).trans (covers_renderWheels _)
  exact (((hsampled.trans (hturned _)).trans (hrendered _)).trans (covers_refreshPins _)).of_channels (ringTest_channels _)

/-! ### SAFE (R157, R159) -/

theorem covers_forEach {f : Nat → Part → Part × List Task} (h : ∀ n v, Part.Covers v (f n v).1) (ns : List Nat) (p : Part) :
    p.Covers (p.forEach f ns).1 := by
  rw [forEach_fst]
  exact covers_foldl (fun v n => h n v) ns p

theorem covers_safeInserted (e : Nat) (p : Part) : p.Covers (p.safeInserted e).1 := by
  unfold Part.safeInserted
  simp only
  split
  · exact covers_of_channels (by simp)
  · exact covers_of_channels (by simp)
  · exact covers_endActive e .safe p
  · exact .refl p

theorem covers_safeGroup (g : Nat) (p : Part) : p.Covers (p.safeGroup g) :=
  covers_ite (covers_of_channels (raise_channels ..)) (.refl p)

theorem covers_safeChannel (c : Nat) (p : Part) : p.Covers (p.safeChannel c) :=
  covers_ite (.refl p) (covers_enterState (slots_of_empty rfl _))

theorem covers_enterSafe (cause : SafeCause) (p : Part) : p.Covers (p.enterSafe cause) := by
  unfold Part.enterSafe
  simp only
  refine Part.Covers.of_channels ?_ (setEngine_channels ..)
  refine Part.Covers.trans ?_ (covers_foldl (fun v c => covers_safeChannel c v) _ _)
  refine Part.Covers.settled (Part.Covers.trans ?_ (covers_forEach covers_safeInserted _ _))
  refine Part.Covers.trans ?_ (covers_foldl (fun v g => covers_safeGroup g v) _ _)
  refine Part.Covers.settled (Part.Covers.trans ?_
    (covers_forEach (fun e v => covers_of_channels (safeWaiting_channels e v)) _ _))
  exact covers_of_channels (raise_channels ..)

theorem covers_freeChannel (c : Nat) (p : Part) : p.Covers (p.freeChannel c) :=
  covers_ite (covers_enterState (slots_of_queue rfl)) (.refl p)

theorem covers_leaveSafe (p : Part) : p.Covers p.leaveSafe := by
  have hfreed : p.Covers ((List.range Config.channels).foldl (fun q c => q.freeChannel c) { p with safe := none }) :=
    Part.Covers.trans (covers_of_channels (by rfl)) (covers_foldl (fun v c => covers_freeChannel c v) _ _)
  unfold Part.leaveSafe
  simp only
  generalize (List.range Config.channels).foldl (fun q c => q.freeChannel c) { p with safe := none } = v at hfreed ⊢
  exact hfreed.of_channels (raise_channels ..)

theorem covers_expire (p : Part) : p.Covers p.expire := by
  have hcounted (g : Guard) : p.Covers (({ p with guard := g }).raise .guard) := covers_of_channels (raise_channels ..)
  unfold Part.expire
  simp only
  exact covers_ite (hcounted _) (((hcounted _).trans (covers_enterSafe ..)).of_channels (logError_channels ..))

/-! ### Conditions and the schedule -/

theorem covers_armGroup (g : Nat) (c : Condition) (p : Part) : p.Covers (p.armGroup g c) := by
  unfold Part.armGroup
  simp only
  split
  · exact Part.Covers.settled (covers_of_channels (raise_channels ..))
  · exact covers_of_channels (raise_channels ..)

theorem covers_timeMet (w : Waiter) (p : Part) : p.Covers (p.timeMet w) := by
  unfold Part.timeMet
  split <;> split <;> [exact (Part.Covers.refl p).settled; exact .refl p; exact (Part.Covers.refl p).settled; exact .refl p]

theorem covers_sampleMonitors (p : Part) : p.Covers p.sampleMonitors :=
  Part.Covers.settled (covers_forEach (fun m v => covers_of_channels (by rfl)) _ p)

theorem covers_armEntry (e : Nat) (p : Part) : p.Covers (p.armEntry e) := by
  unfold Part.armEntry
  simp only
  split
  · exact .refl p
  · split
    · exact Part.Covers.settled (covers_of_channels (enterEntry_channels ..))
    · exact covers_of_channels (enterEntry_channels ..)

theorem covers_disarmEntry (e : Nat) (p : Part) : p.Covers (p.disarmEntry e) := by
  unfold Part.disarmEntry
  simp only
  split
  · exact covers_of_channels (enterEntry_channels ..)
  · exact Part.Covers.settled (covers_of_channels ((finish_channels ..).trans (recordCause_channels ..)))
  · exact covers_of_channels (recordCause_channels e .disarmed p)
  · exact (covers_endActive e .disarmed p).settled
  · exact .refl p

theorem covers_trip (e n : Nat) (p : Part) : p.Covers (p.trip e n) := by
  unfold Part.trip
  simp only
  refine Part.Covers.settled (Part.Covers.of_channels ?_ (logError_channels ..))
  exact (covers_of_channels (setEntry_channels ..)).trans (covers_endActive e .tripped _)

theorem covers_breakLoop (c : Nat) (p : Part) : p.Covers (p.breakLoop c) := by
  unfold Part.breakLoop
  simp only
  split
  · split
    · refine covers_setChannel ?_
      rw [Channel.slots, slots_of_set ‹_›]
      exact .refl _
    · exact .refl p
  · exact .refl p

end Sys2Proof.Machine
end

section
/-! SUPPORT. The store kept sound by every command (R47). -/

namespace Sys2Proof.Machine

open Sys2Proof

theorem firstFailure_eq_none {cs : List (Bool × Refused)} (h : firstFailure cs = none) : ∀ x ∈ cs, x.1 = false := by
  unfold firstFailure at h
  rw [Option.map_eq_none_iff, List.find?_eq_none] at h
  exact fun x hx => Bool.eq_false_iff.mpr (h x hx)

/-- A reset empties every queue. -/
theorem afterReset_storeSound (cause : ResetCause) (p : Part) : (p.afterReset cause).StoreSound := by
  have hempty : ∀ ch ∈ (p.afterReset cause).channels, ch.queue = [] := fun ch hch => by
    rw [List.eq_of_mem_replicate hch]
    rfl
  have hnone : (p.afterReset cause).heldSlots = [] :=
    List.flatMap_eq_nil_iff.mpr fun ch hch => by rw [hempty ch hch]; rfl
  unfold Part.StoreSound
  rw [hnone]
  refine ⟨List.nodup_nil, fun n hn => absurd hn List.not_mem_nil, fun ch hch => ?_⟩
  rw [hempty ch hch]
  exact Nat.zero_le _

section
variable {s : State} (hs : s.part.StoreSound)
include hs

/-- SEG_APPEND checks that the store and the queue take its records before it appends them. -/
theorem segAppend_storeSound (tag c count : Nat) (rs : List RawRecord) :
    Leaves Part.StoreSound (execSegAppend tag c count rs s) := by
  refine leaves_request (fun p l hp => (covers_of_channels (q := { p with link := l }) rfl).storeSound hp)
    (fun p hp => accepts_checked fun hpass => ?_) hs
  have hchecks := firstFailure_eq_none hpass
  have hstore := hchecks (decide (p.freeSlots < rs.length), refusal .storeFull) (by simp [Part.appendChecks])
  have hqueue := hchecks (decide (Config.queueLimit < (p.channel c).queue.length + rs.length), refusal .queueFull)
    (by simp [Part.appendChecks])
  exact append_storeSound hp (of_decide_eq_false hstore) (of_decide_eq_false hqueue)

theorem transmitEnd_storeSound : Leaves Part.StoreSound (execTransmitEnd s) := by
  refine leaves_acted ?_
  split
  · split
    · split
      · exact afterReset_storeSound .link _
      · exact (covers_of_channels (by rfl)).storeSound hs
    · exact hs
  · exact hs

theorem badKind_storeSound (f : Frame) : Leaves Part.StoreSound (execBadKind f s) := by
  unfold execBadKind
  split
  · rename_i r p _ hp
    have hchannels : p.channels = s.part.channels := by
      unfold Part.takeFrame at hp
      split at hp
      · split at hp
        · split at hp
          · obtain rfl := Option.some.inj hp
            rfl
          · cases hp
        · obtain rfl := Option.some.inj hp
          rfl
      · cases hp
    exact acted_storeSound hs (covers_of_channels hchannels)
  · exact acted_storeSound hs (.refl _)

/-- The requests. -/
theorem request_exec_storeSound {i : Instr} (hi : requestTag i ≠ none) : Leaves Part.StoreSound (exec i s) := by
  cases i with
  | statusGet tag => exact request_storeSound hs fun p => .refl p
  | linkReset tag => exact request_storeSound hs fun p => covers_of_channels (by rfl)
  | noticeLevel tag kind index level => exact request_checked_storeSound hs fun p => covers_of_channels (by rfl)
  | errlogGet tag => exact request_storeSound hs fun p => .refl p
  | errlogClear tag cls =>
    refine request_storeSound hs fun p => ?_
    split
    · trivial
    · exact covers_of_channels (by rfl)
  | guardSet tag period rate =>
    exact request_checked_storeSound hs fun p => covers_of_channels (guardSet_channels period rate p)
  | keepalive tag value => exact request_storeSound hs fun p => covers_of_channels (keepalive_channels value p)
  | safeEnter tag => exact request_storeSound hs fun p => covers_ite (.refl p) (covers_enterSafe .request p)
  | safeLeave tag =>
    refine request_storeSound hs fun p => ?_
    split
    · exact accepts_checked fun _ => covers_leaveSafe p
    · exact .refl p
  | engineGet tag => exact request_storeSound hs fun p => .refl p
  | engineSpeed tag target rate => exact request_checked_storeSound hs fun p => covers_of_channels (setEngine_channels ..)
  | engineMode tag mode channel => exact request_checked_storeSound hs fun p => covers_of_channels (engineMode_channels ..)
  | engineAngleSet tag angle cycle =>
    exact request_checked_storeSound hs fun p => (covers_of_channels (by rfl)).trans (covers_renderWheels _)
  | engineFollowCfg tag counts offset tolerance => exact request_checked_storeSound hs fun p => covers_of_channels (by rfl)
  | channelConfig tag channel config => exact request_checked_storeSound hs fun p => covers_configure channel _ p
  | channelStart tag channel => exact request_checked_storeSound hs fun p => covers_startChannel channel p
  | channelStop tag channel =>
    exact request_checked_storeSound hs fun p => covers_enterState (slots_of_empty (by rfl) _)
  | channelDisable tag channel => exact request_checked_storeSound hs fun p => covers_disableChannel channel p
  | channelGet tag channel => exact request_checked_storeSound hs fun p => .refl p
  | wheelDefine tag index pattern => exact request_checked_storeSound hs fun p => covers_of_channels (by rfl)
  | segAppend tag channel count records => exact segAppend_storeSound hs tag channel count records
  | loopBreak tag channel =>
    refine request_storeSound hs fun p => ?_
    split
    · trivial
    · dsimp only
      split
      · trivial
      · split
        · exact covers_breakLoop channel p
        · trivial
  | slotConfig tag slot kind byte2 byte3 => exact request_checked_storeSound hs fun p => covers_of_channels (by rfl)
  | slotGet tag slot =>
    refine request_storeSound hs fun p => ?_
    split
    · exact .refl p
    · exact accepts_checked fun _ => .refl p
  | triggerCfg tag input width => exact request_checked_storeSound hs fun p => covers_of_channels (by rfl)
  | groupArm tag group condition => exact request_checked_storeSound hs fun p => covers_armGroup group _ p
  | groupCancel tag group => exact request_checked_storeSound hs fun p => covers_of_channels (cancelGroup_channels group p)
  | monitorConfig tag monitor high low => exact request_checked_storeSound hs fun p => covers_of_channels (by rfl)
  | monitorRead tag monitor =>
    refine request_storeSound hs fun p => ?_
    split
    · exact covers_of_channels (by rfl)
    · exact accepts_checked fun _ => covers_of_channels (by rfl)
  | captureCfg tag batch flush listLength settings =>
    exact request_checked_storeSound hs fun p => covers_of_channels (setEnables_channels ..)
  | patrolCfg tag settle interval wear => exact request_checked_storeSound hs fun p => covers_of_channels (patrolCfg_channels ..)
  | cellRestore tag line cell => exact request_checked_storeSound hs fun p => covers_of_channels (restoreCells_channels ..)
  | matrixGet tag line =>
    refine request_storeSound hs fun p => ?_
    split
    · exact .refl p
    · exact accepts_checked fun _ => .refl p
  | matrixClear tag =>
    refine request_storeSound hs fun p => ?_
    split
    · exact .refl p
    · exact accepts_checked fun _ => covers_of_channels (beginRestore_channels p)
  | entryDefine tag definition => exact request_checked_storeSound hs fun p => covers_of_channels (raise_channels ..)
  | entryArm tag entry => exact request_checked_storeSound hs fun p => covers_armEntry entry p
  | entryDisarm tag entry => exact request_checked_storeSound hs fun p => covers_disarmEntry entry p
  | entryDelete tag entry => exact request_checked_storeSound hs fun p => covers_of_channels (enterEntry_channels ..)
  | entryGet tag entry =>
    refine request_storeSound hs fun p => ?_
    split
    · exact .refl p
    · exact accepts_checked fun _ => .refl p
  | _ => exact absurd rfl hi

/-- The events, and BAD_KIND. -/
theorem event_exec_storeSound {i : Instr} (hi : requestTag i = none) : Leaves Part.StoreSound (exec i s) := by
  cases i with
  | badKind frame => exact badKind_storeSound hs frame
  | frameReceived last =>
    refine acted_storeSound hs (covers_of_channels ?_)
    split
    · split
      · exact takeCharacter_channels ..
      · rfl
    · rfl
  | linkFraming =>
    refine acted_storeSound hs (covers_of_channels ?_)
    split
    · rfl
    · split
      · exact truncateFrame_channels ..
      · exact discardFrame_channels ..
  | frameLengthError second =>
    refine acted_storeSound hs (covers_of_channels ?_)
    split
    · split
      · exact takeCharacter_channels ..
      · rfl
    · rfl
  | linkTruncated =>
    refine acted_storeSound hs (covers_of_channels ?_)
    split
    · split
      · exact truncateFrame_channels ..
      · rfl
    · rfl
  | transmitStart => exact acted_storeSound hs (covers_of_channels (startTransmission_channels _))
  | transmitEnd => exact transmitEnd_storeSound hs
  | powerOn => exact leaves_acted (afterReset_storeSound .powerOn _)
  | supplyDip => exact leaves_acted (afterReset_storeSound .supplyDip _)
  | microsecondTick changes => exact acted_storeSound hs (covers_tick changes _)
  | rigTimeHold changes => exact acted_storeSound hs (covers_ite (covers_tick changes _) (.refl _))
  | millisecondUpdate =>
    exact acted_storeSound hs (covers_ite (covers_of_channels (setEngine_channels ..)) (.refl _))
  | encoderCount a b =>
    refine acted_storeSound hs ?_
    split
    · exact Part.Covers.trans (covers_of_channels (by rfl)) (covers_takeMove _ _)
    · exact covers_of_channels (by rfl)
  | indexPulse z =>
    have hpin : s.part.Covers { s.part with pins := { s.part.pins with encZ := z } } := covers_of_channels rfl
    exact acted_storeSound hs (covers_ite (hpin.trans (covers_indexPulse _)) hpin)
  | indexMissing => exact acted_storeSound hs (covers_ite (covers_of_channels (logError_channels ..)) (.refl _))
  | levelTick => exact acted_storeSound hs (covers_ite (covers_levelTick _) (.refl _))
  | pwmPeriodEnd channel => exact onUnit_storeSound hs fun p => (covers_endPwmPeriod channel _)
  | pulsePeriodEnd channel => exact onUnit_storeSound hs fun p => (covers_endPulsePeriod channel _)
  | pulseTrainStart channel => exact onUnit_storeSound hs fun p => (covers_startTrain channel _)
  | channelRunStart channel => exact onUnit_storeSound hs fun p => (covers_runStart channel p).settled
  | segmentEnd channel => exact onUnit_storeSound hs fun p => (covers_ite (covers_endSegment channel _).settled (.refl _))
  | angleSegmentEnd channel => exact onUnit_storeSound hs fun p => (covers_ite (covers_endSegment channel _).settled (.refl _))
  | channelResume channel => exact onUnit_storeSound hs fun p => (covers_resume channel _).settled
  | conditionAtTime waiter => cases waiter <;> exact onUnit_storeSound hs fun p => (covers_timeMet _ _)
  | triggerAccept input =>
    simp only [exec, execTriggerAccept]
    exact onUnit_storeSound hs fun p => (covers_ite (Part.Covers.settled (covers_of_channels (by rfl))) (.refl _))
  | monitorSample =>
    exact acted_storeSound hs (covers_ite (Part.Covers.trans (covers_of_channels (by rfl)) (covers_sampleMonitors _)) (.refl _))
  | captureFlush => exact acted_storeSound hs (covers_ite (covers_of_channels (raise_channels ..)) (.refl _))
  | currentReading => exact acted_storeSound hs (covers_ite (covers_of_channels (by rfl)) (.refl _))
  | trip entry =>
    simp only [exec, execTrip]
    refine onUnit_storeSound hs fun p => ?_
    split
    · exact covers_trip entry _ p
    · exact .refl p
  | stepReadback owner =>
    cases owner with
    | entry e => exact onUnit_storeSound hs fun p => (Part.Covers.settled (covers_of_channels (stepReadback_channels e _)))
    | restore => exact acted_storeSound hs (covers_of_channels (restoreReadback_channels _))
  | heldCloseGiven line => exact onUnit_storeSound hs fun p => (covers_of_channels (giveHeldClose_channels line _))
  | fastReleaseReadback entry =>
    exact onUnit_storeSound hs fun p => (Part.Covers.settled (covers_of_channels (fastReadback_channels entry _)))
  | isolationReadback line =>
    exact onUnit_storeSound hs fun p => (Part.Covers.settled (covers_of_channels (isolationReadback_channels line _)))
  | patrolCheck => exact acted_storeSound hs (Part.Covers.settled (covers_of_channels (patrolStep_channels _)))
  | chatterToggle entry => exact onUnit_storeSound hs fun p => (covers_of_channels (toggleChatter_channels entry _))
  | entryMissed entry =>
    simp only [exec, execEntryMissed]
    exact onUnit_storeSound hs fun p => (covers_ite (covers_endUnclaimed entry .missed _).settled (.refl _))
  | durationTimeEnd entry =>
    simp only [exec, execDurationTimeEnd]
    exact onUnit_storeSound hs fun p => (covers_ite (covers_endActive entry .completed _).settled (.refl _))
  | durationAngleEnd entry =>
    simp only [exec, execDurationAngleEnd]
    exact onUnit_storeSound hs fun p => (covers_ite (covers_endActive entry .completed _).settled (.refl _))
  | guardExpiry => exact acted_storeSound hs (covers_ite (covers_expire _) (.refl _))
  | characterReceived char => exact acted_storeSound hs (covers_of_channels (takeCharacter_channels char _))
  | _ => cases hi

end

/-- Settles O59: a request and an event each keep the store sound, and an idle step changes nothing. -/
theorem storeStaysSound : Obligations.StoreStaysSound := by
  intro s t hs hstep
  unfold step at hstep
  split at hstep
  · cases hstep
    exact hs
  · rename_i i rest _
    by_cases hi : requestTag i = none
    · exact event_exec_storeSound (s := { s with pending := rest }) hs hi t hstep
    · exact request_exec_storeSound (s := { s with pending := rest }) hs hi t hstep

end Sys2Proof.Machine
end

section
/-! SUPPORT. SEG_APPEND: its checks one by one, its refusals, and the records as they are stored (R47, R49 to R52, R54). -/

namespace Sys2Proof.Machine

open Sys2Proof

/-! ### Faulty records (R51) -/

theorem outside_eq_false (lo hi n : Nat) : outside lo hi n = false ↔ lo ≤ n ∧ n ≤ hi := by
  rw [Bool.eq_false_iff, Ne, outside_eq_true, not_or, Nat.not_lt, Nat.not_lt]

theorem recordFaulty_eq_false (r : RawRecord) : recordFaulty r = false ↔ RawRecord.Good r := by
  cases r with
  | segment r =>
    have hmarker : outsideIf 1 15 r.marker = false ↔ ∀ m, r.marker = some m → 1 ≤ m ∧ m ≤ 15 := by
      cases r.marker <;> simp [outsideIf, outside_eq_false]
    have hlength : ¬r.length = 0 ↔ 1 ≤ r.length := by omega
    simp only [recordFaulty, RawRecord.Good, Bool.or_eq_false_iff, Bool.and_eq_false_iff, decide_eq_false_iff_not, hmarker,
      hlength, Nat.not_lt, and_assoc]
    have hend : (¬r.shape = .ramp ∨ r.endValue.isNone = false) ↔ (r.shape = .ramp → r.endValue.isSome = true) := by
      rw [Option.isNone_eq_false_iff, imp_iff_not_or]
    have hangle : (¬r.basis = .angle ∨ r.length ≤ 11796480) ↔ (r.basis = .angle → r.length ≤ 11796480) := imp_iff_not_or.symm
    rw [hend, hangle]
  | loop k n => exact outside_eq_false 1 64 k
  | unknown b => exact iff_of_false Bool.noConfusion id

theorem recordFaulty_eq_true (r : RawRecord) : recordFaulty r = true ↔ ¬RawRecord.Good r := by
  rw [← recordFaulty_eq_false, Bool.not_eq_false]

/-- No record of a request fails a test that all pass. -/
theorem any_record_eq_false {bad : RawRecord → Bool} {rs : List RawRecord} (h : ∀ r ∈ rs, bad r = false) : rs.any bad = false :=
  List.any_eq_false.mpr fun r hr => by rw [h r hr]; exact Bool.false_ne_true

theorem any_faulty_eq_false {rs : List RawRecord} (h : ∀ r ∈ rs, RawRecord.Good r) : rs.any recordFaulty = false :=
  any_record_eq_false fun r hr => (recordFaulty_eq_false r).mpr (h r hr)

theorem any_angle_eq_false {rs : List RawRecord} (h : ∀ r, RawRecord.segment r ∈ rs → r.basis = .time) :
    rs.any recordIsAngle = false :=
  any_record_eq_false fun r hr => by
    cases r with
    | segment r => exact decide_eq_false (by rw [h r hr]; exact Basis.noConfusion)
    | loop k n => rfl
    | unknown b => rfl

/-- The first record that fails a test is named by its position. -/
theorem firstRecord_eq {bad : RawRecord → Bool} {rs : List RawRecord} {i : Nat} {r : RawRecord} (hr : rs[i]? = some r)
    (hbad : bad r = true) (hfirst : ∀ j < i, ∀ x, rs[j]? = some x → bad x = false) :
    rs.any bad = true ∧ firstRecord bad rs = some (i + 1) := by
  obtain ⟨hi, hget⟩ := List.getElem?_eq_some_iff.mp hr
  refine ⟨List.any_eq_true.mpr ⟨r, List.mem_of_getElem? hr, hbad⟩, ?_⟩
  have hfind : rs.findIdx? bad = some i := by
    rw [List.findIdx?_eq_some_iff_getElem]
    exact ⟨hi, hget ▸ hbad, fun j hj => by rw [hfirst j hj _ (List.getElem?_eq_getElem (hj.trans hi))]; exact Bool.false_ne_true⟩
  rw [firstRecord, hfind]
  rfl

/-! ### Loop records (R51) -/

/-- What is wrong with a record that comes behind others, of each of which, nearest first, it is known whether it is a loop
record. -/
def loopFault (before : List Bool) : RawRecord → Option RefusalCode
  | .loop k _ => if (before.take k).any id then some .nestedLoop else if before.length < k then some .shortBody else none
  | _ => none

theorem loopCheck_cons (position : Nat) (before : List Bool) (r : RawRecord) (rest : List RawRecord) :
    loopCheck position before (r :: rest) =
      ((loopFault before r).map fun code => badRecord code 3 position).or
        (loopCheck (position + 1) (recordIsLoop r :: before) rest) := by
  cases r with
  | loop k n =>
    by_cases hnested : (before.take k).any id = true
    · simp only [loopCheck, loopFault, hnested, if_true, Option.map_some, Option.some_or]
    · by_cases hshort : before.length < k
      · simp only [loopCheck, loopFault, hnested, hshort, if_true, if_false, Bool.false_eq_true, Option.map_some, Option.some_or]
      · simp only [loopCheck, loopFault, hnested, hshort, if_false, Bool.false_eq_true, Option.map_none, Option.none_or]
  | segment r => simp only [loopCheck, loopFault, Option.map_none, Option.none_or]
  | unknown b => simp only [loopCheck, loopFault, Option.map_none, Option.none_or]

/-- Whether each record ahead of a place of a request is a loop record, nearest first. -/
def aheadOf (before : List Bool) (rs : List RawRecord) (i : Nat) : List Bool :=
  ((rs.take i).map recordIsLoop).reverse ++ before

theorem aheadOf_succ (before : List Bool) (r : RawRecord) (rs : List RawRecord) (i : Nat) :
    aheadOf before (r :: rs) (i + 1) = aheadOf (recordIsLoop r :: before) rs i := by
  simp [aheadOf]

theorem loopCheck_eq_none {position : Nat} {before : List Bool} {rs : List RawRecord}
    (h : ∀ i r, rs[i]? = some r → loopFault (aheadOf before rs i) r = none) : loopCheck position before rs = none := by
  induction rs generalizing position before with
  | nil => rfl
  | cons r rs ih =>
    have hr : loopFault before r = none := h 0 r rfl
    rw [loopCheck_cons, hr, Option.map_none, Option.none_or]
    exact ih fun i x hx => aheadOf_succ before r rs i ▸ h (i + 1) x hx

theorem loopCheck_eq_some {position i : Nat} {before : List Bool} {rs : List RawRecord} {r : RawRecord} {code : RefusalCode}
    (hr : rs[i]? = some r) (hfault : loopFault (aheadOf before rs i) r = some code)
    (hfirst : ∀ j < i, ∀ x, rs[j]? = some x → loopFault (aheadOf before rs j) x = none) :
    loopCheck position before rs = some (badRecord code 3 (position + i)) := by
  induction rs generalizing position before i with
  | nil => cases hr
  | cons x rs ih =>
    cases i with
    | zero =>
      obtain rfl := Option.some.inj hr
      have hx : loopFault before x = some code := hfault
      rw [loopCheck_cons, hx]
      rfl
    | succ i =>
      have hx : loopFault before x = none := hfirst 0 (Nat.zero_lt_succ i) x rfl
      rw [loopCheck_cons, hx, Option.map_none, Option.none_or, ih hr (aheadOf_succ before x rs i ▸ hfault) fun j hj y hy =>
        aheadOf_succ before x rs j ▸ hfirst (j + 1) (Nat.succ_lt_succ hj) y hy, Nat.add_right_comm, Nat.add_assoc]

/-! ### The queue as it will stand -/

section
variable (queue : List QRec) (rs : List RawRecord)

/-- The record at a place of the queue as it will stand is a loop record. -/
def LoopAt (i : Nat) : Prop :=
  (∃ q, queue[i]? = some q ∧ ∃ a b d e, q.content = .loop a b d e) ∨
    (∃ a b, queue.length ≤ i ∧ rs[i - queue.length]? = some (.loop a b))

/-- The record at a place of the request is a loop record whose body holds a loop record (R51). -/
def NestedAt (i : Nat) : Prop :=
  ∃ a b j, rs[i]? = some (.loop a b) ∧ queue.length + i - a ≤ j ∧ j < queue.length + i ∧ LoopAt queue rs j

/-- The record at a place of the request is a loop record whose body is not all held (R51). -/
def ShortAt (i : Nat) : Prop := ∃ a b, rs[i]? = some (.loop a b) ∧ queue.length + i < a

variable {queue rs}

theorem isLoop_eq_true (q : QRec) : q.isLoop = true ↔ ∃ a b d e, q.content = .loop a b d e := by
  unfold QRec.isLoop
  cases q.content <;> simp

theorem recordIsLoop_eq_true (r : RawRecord) : recordIsLoop r = true ↔ ∃ a b, r = .loop a b := by
  cases r <;> simp [recordIsLoop]

theorem loopAt_iff (i : Nat) :
    LoopAt queue rs i ↔ (queue.map QRec.isLoop ++ rs.map recordIsLoop)[i]? = some true := by
  rw [List.getElem?_append, List.length_map, List.getElem?_map, List.getElem?_map]
  unfold LoopAt
  rcases Nat.lt_or_ge i queue.length with hi | hi
  · rw [if_pos hi, Option.map_eq_some_iff]
    simp only [isLoop_eq_true, Nat.not_le.mpr hi, false_and, exists_const, or_false]
  · rw [if_neg (Nat.not_lt.mpr hi), List.getElem?_eq_none hi, Option.map_eq_some_iff]
    simp only [recordIsLoop_eq_true, hi, true_and]
    constructor
    · rintro (⟨_, hq, -⟩ | ⟨a, b, hr⟩)
      · cases hq
      · exact ⟨_, hr, a, b, rfl⟩
    · rintro ⟨_, hr, a, b, rfl⟩
      exact .inr ⟨a, b, hr⟩

/-- What stands ahead of a record of the request is the queue with the request's records before it. -/
theorem aheadOf_eq (i : Nat) : aheadOf (queue.reverse.map QRec.isLoop) rs i =
    (queue.map QRec.isLoop ++ (rs.map recordIsLoop).take i).reverse := by
  simp [aheadOf, List.map_take]

theorem aheadOf_length {i : Nat} (hi : i < rs.length) :
    (aheadOf (queue.reverse.map QRec.isLoop) rs i).length = queue.length + i := by
  rw [aheadOf_eq]
  simp [Nat.min_eq_left hi.le, Nat.add_comm]

/-- A loop record stands among the nearest records ahead. -/
theorem aheadOf_take_any {i : Nat} (hi : i < rs.length) (k : Nat) :
    ((aheadOf (queue.reverse.map QRec.isLoop) rs i).take k).any id = true ↔
      ∃ j, queue.length + i - k ≤ j ∧ j < queue.length + i ∧ LoopAt queue rs j := by
  have hahead : queue.map QRec.isLoop ++ (rs.map recordIsLoop).take i =
      (queue.map QRec.isLoop ++ rs.map recordIsLoop).take (queue.length + i) := by
    rw [List.take_append, List.length_map, Nat.add_sub_cancel_left,
      List.take_of_length_le (l := queue.map QRec.isLoop) (by simp)]
  have hlength := aheadOf_length (queue := queue) hi
  rw [aheadOf_eq, List.length_reverse] at hlength
  rw [aheadOf_eq, List.take_reverse, List.any_reverse, hlength, hahead, List.any_eq_true]
  constructor
  · rintro ⟨_, hmem, rfl⟩
    obtain ⟨n, hn⟩ := List.mem_iff_getElem?.mp hmem
    rw [List.getElem?_drop, List.getElem?_take] at hn
    split at hn
    · exact ⟨_, Nat.le_add_right _ n, ‹_›, (loopAt_iff _).mpr hn⟩
    · cases hn
  · rintro ⟨j, hlo, hhi, hloop⟩
    refine ⟨true, List.mem_iff_getElem?.mpr ⟨j - (queue.length + i - k), ?_⟩, rfl⟩
    rw [List.getElem?_drop, Nat.add_sub_cancel' hlo, List.getElem?_take, if_pos hhi]
    exact (loopAt_iff j).mp hloop

variable {i : Nat}

theorem loopFault_of_nested (h : NestedAt queue rs i) : ∃ r, rs[i]? = some r ∧
    loopFault (aheadOf (queue.reverse.map QRec.isLoop) rs i) r = some .nestedLoop := by
  obtain ⟨a, b, j, hr, hbody⟩ := h
  obtain ⟨hi, -⟩ := List.getElem?_eq_some_iff.mp hr
  exact ⟨_, hr, if_pos ((aheadOf_take_any hi a).mpr ⟨j, hbody⟩)⟩

theorem loopFault_of_short (hn : ¬NestedAt queue rs i) (h : ShortAt queue rs i) : ∃ r, rs[i]? = some r ∧
    loopFault (aheadOf (queue.reverse.map QRec.isLoop) rs i) r = some .shortBody := by
  obtain ⟨a, b, hr, hshort⟩ := h
  obtain ⟨hi, -⟩ := List.getElem?_eq_some_iff.mp hr
  refine ⟨_, hr, (if_neg fun hany => hn ?_).trans (if_pos (by rwa [aheadOf_length hi]))⟩
  obtain ⟨j, hbody⟩ := (aheadOf_take_any hi a).mp hany
  exact ⟨a, b, j, hr, hbody⟩

theorem loopFault_of_sound (hn : ¬NestedAt queue rs i) (hs : ¬ShortAt queue rs i) {r : RawRecord} (hr : rs[i]? = some r) :
    loopFault (aheadOf (queue.reverse.map QRec.isLoop) rs i) r = none := by
  obtain ⟨hi, -⟩ := List.getElem?_eq_some_iff.mp hr
  cases r with
  | loop a b =>
    refine (if_neg fun hany => hn ?_).trans (if_neg fun hshort => hs ⟨a, b, hr, by rwa [aheadOf_length hi] at hshort⟩)
    obtain ⟨j, hbody⟩ := (aheadOf_take_any hi a).mp hany
    exact ⟨a, b, j, hr, hbody⟩
  | segment r => rfl
  | unknown b => rfl

end

/-! ### The checks in order (R51) -/

theorem not_busy_of_open {st : ChState} (h : st = .idle ∨ st = .primed ∨ st = .running ∨ st = .starved) :
    ¬(st = .off ∨ st = .done ∨ st = .faulted ∨ st = .held) := by
  rcases h with rfl | rfl | rfl | rfl <;> decide

@[simp] theorem firstFailure_nil : firstFailure [] = none := rfl

@[simp] theorem firstFailure_cons (b : Bool) (r : Refused) (cs : List (Bool × Refused)) :
    firstFailure ((b, r) :: cs) = if b = true then some r else firstFailure cs := by
  cases b <;> rfl

/-- R51's checks, each as what it looks for. -/
theorem appendChecks_failure (c count : Nat) (rs : List RawRecord) (p : Part) :
    firstFailure (p.appendChecks c count rs) =
      if 31 < c then some (badField 1)
      else if count < 1 ∨ 32 < count ∨ count ≠ rs.length then some (badField 2)
      else if rs.any recordFaulty = true then some (badRecord .badField 3 ((firstRecord recordFaulty rs).getD 0))
      else if (p.channel c).state = .off ∨ (p.channel c).state = .done ∨ (p.channel c).state = .faulted ∨
          (p.channel c).state = .held then some (refusal .busy)
      else if (p.channel c).kind = some .wheel then some (refusal .kindMismatch)
      else if rs.any recordIsAngle = true ∧ (p.channel c).kind = some .speed then
        some (badRecord .badField 3 ((firstRecord recordIsAngle rs).getD 0))
      else (loopCheck 1 ((p.channel c).queue.reverse.map QRec.isLoop) rs).or
        (if p.freeSlots < rs.length then some (refusal .storeFull)
        else if 4096 < (p.channel c).queue.length + rs.length then some (refusal .queueFull) else none) := by
  simp only [Part.appendChecks, recordCheck, Prod.map, id, firstFailure_cons, firstFailure_nil, Bool.or_eq_true,
    Bool.and_eq_true, outside_eq_true, decide_eq_true_eq, Nat.not_lt_zero, false_or, or_assoc]
  cases loopCheck 1 ((p.channel c).queue.reverse.map QRec.isLoop) rs <;> rfl

section
variable {tag c count : Nat} {rs : List RawRecord} {s : State} (ht : s.part.takes (.segAppend tag c count rs) = true)
  (htag : tag ≠ 0)
include ht htag

theorem segAppend_refused {r : Refused}
    (h : firstFailure ((s.part.taken (.segAppend tag c count rs)).appendChecks c count rs) = some r) :
    exec (.segAppend tag c count rs) s =
      .next (s.replied (s.part.taken (.segAppend tag c count rs)) tag (.refuse r)) :=
  request_refused ht htag (by simp only [checked, h])

theorem segAppend_accepted
    (h : firstFailure ((s.part.taken (.segAppend tag c count rs)).appendChecks c count rs) = none) :
    let p := s.part.taken (.segAppend tag c count rs)
    let q := p.append c rs
    exec (.segAppend tag c count rs) s =
      .next (s.replied q tag (.ack (.segAppend c rs.length (clampedFields ((p.channel c).kind.getD .level) rs)
        ((p.channel c).queue.length + 1) (q.channel c).queue.length (q.channel c).pending q.freeSlots))) :=
  request_acked ht htag (by simp only [checked, h])

end

/-! ### The refusals (R51) -/

/-- SEG_APPEND's refusals in O30. -/
theorem appendRefused : Claims.AppendRefused := by
  intro tag c count rs s ht htag
  have hrefused := fun r => segAppend_refused (r := r) ht htag
  generalize s.part.taken (.segAppend tag c count rs) = p at hrefused
  intro p' ch run no isLoop nested short
  simp only [appendChecks_failure] at hrefused
  refine ⟨fun hc => hrefused _ (if_pos hc), fun hc hcount => ?_, fun hc hlow hhigh hlength => ?_⟩
  · exact hrefused _ ((if_neg (Nat.not_lt.mpr hc)).trans (if_pos (by tauto)))
  have hcount : ¬(count < 1 ∨ 32 < count ∨ count ≠ rs.length) := by omega
  simp only [if_neg (Nat.not_lt.mpr hc), if_neg hcount] at hrefused
  refine ⟨fun i r hr hfaulty hfirst => ?_, fun hgood => ?_⟩
  · obtain ⟨hany, hposition⟩ := firstRecord_eq hr ((recordFaulty_eq_true r).mpr hfaulty)
      fun j hj x hx => (recordFaulty_eq_false x).mpr (hfirst j hj x hx)
    refine hrefused _ ((if_pos hany).trans ?_)
    rw [hposition]
    rfl
  simp only [any_faulty_eq_false hgood, Bool.false_eq_true, if_false] at hrefused
  refine ⟨fun hbusy => hrefused _ (if_pos hbusy), fun hopen => ?_⟩
  simp only [if_neg (not_busy_of_open (st := (p.channel c).state) hopen)] at hrefused
  refine ⟨fun hwheel => hrefused _ (if_pos hwheel), fun i r hspeed hr hangle hfirst => ?_, fun hwheel hspeed => ?_⟩
  · have hkind : (p.channel c).kind = some .speed := hspeed
    obtain ⟨hany, hposition⟩ := firstRecord_eq (bad := recordIsAngle) hr (decide_eq_true hangle) fun j hj x hx => by
      cases x with
      | segment x => exact decide_eq_false (by rw [hfirst j hj x hx]; exact Basis.noConfusion)
      | loop k n => rfl
      | unknown b => rfl
    refine hrefused _ ((if_neg (by rw [hkind]; decide)).trans ((if_pos ⟨hany, hkind⟩).trans ?_))
    rw [hposition]
    rfl
  have hangles : ¬(rs.any recordIsAngle = true ∧ (p.channel c).kind = some .speed) := fun ⟨hany, hkind⟩ =>
    Bool.false_ne_true ((any_angle_eq_false (hspeed hkind)).symm.trans hany)
  simp only [show ¬(p.channel c).kind = some .wheel from hwheel, if_false, if_neg hangles] at hrefused
  have hbefore {i : Nat} (hok : ∀ j < i, ¬nested j ∧ ¬short j) (j : Nat) (hj : j < i) (x : RawRecord) (hx : rs[j]? = some x) :
      loopFault (aheadOf ((p.channel c).queue.reverse.map QRec.isLoop) rs j) x = none :=
    loopFault_of_sound (hok j hj).1 (hok j hj).2 hx
  refine ⟨fun i hok => ⟨fun hn => ?_, fun hn hs => ?_⟩, fun hok => ?_⟩
  · obtain ⟨r, hr, hfault⟩ := loopFault_of_nested (queue := (p.channel c).queue) hn
    refine hrefused _ ?_
    rw [loopCheck_eq_some hr hfault (hbefore hok), Option.some_or, Nat.add_comm]
    rfl
  · obtain ⟨r, hr, hfault⟩ := loopFault_of_short (queue := (p.channel c).queue) hn hs
    refine hrefused _ ?_
    rw [loopCheck_eq_some hr hfault (hbefore hok), Option.some_or, Nat.add_comm]
    rfl
  · have hloops : loopCheck 1 ((p.channel c).queue.reverse.map QRec.isLoop) rs = none :=
      loopCheck_eq_none fun j x hx => loopFault_of_sound (hok j).1 (hok j).2 hx
    simp only [hloops, Option.none_or] at hrefused
    have hfree : p.freeSlots < rs.length ↔ 16384 < p.heldRecords + rs.length := by
      show 16384 - p.heldRecords < rs.length ↔ _
      omega
    refine ⟨fun hfull => hrefused _ (if_pos (hfree.mpr hfull)), fun hroom hfull => hrefused _ ?_⟩
    exact (if_neg (mt hfree.mp (Nat.not_lt.mpr hroom))).trans (if_pos hfull)

end Sys2Proof.Machine
end

section
/-! SUPPORT. SEG_APPEND's effect, and the form a record is stored in (R47, R49, R50, R52, R54). -/

namespace Sys2Proof.Machine

open Sys2Proof

/-! ### The effect (R52, R54) -/

section
variable {c : Nat} {rs : List RawRecord} {k : Kind} {p : Part}

theorem appendedRecords_eq (k : Kind) (slots : List Nat) (rs : List RawRecord) : appendedRecords k slots rs =
    slots.zipWith (fun n r => ({ slot := n, content := (storedRecord k r).1 } : QRec)) rs := by
  rw [appendedRecords, storedRecords, List.map_zip_eq_zipWith, List.zipWith_map_right]
  rfl

theorem append_eq (hk : (p.channel c).kind = some k) : p.append c rs =
    { p.setChannel c { p.channel c with
        queue := (p.channel c).queue ++ appendedRecords k (p.appendSlots rs) rs
        resumeAt := if (p.channel c).state = .starved ∧ (p.channel c).resumeAt = none then some (p.clock.ticks + 1)
          else (p.channel c).resumeAt } with
      damage := p.damage.filter fun d => d.1 ∉ p.appendSlots rs } := by
  have hresume : (if (p.channel c).state = .starved then (p.channel c).resumeAt.orElse fun _ => some (p.now + 1)
      else (p.channel c).resumeAt) =
      if (p.channel c).state = .starved ∧ (p.channel c).resumeAt = none then some (p.clock.ticks + 1)
      else (p.channel c).resumeAt := by
    by_cases hs : (p.channel c).state = .starved
    · cases hr : (p.channel c).resumeAt <;> simp [hs, Part.now]
    · simp [hs]
  have hdamage : (p.damage.filter fun d => !(p.appendSlots rs).contains d.1) =
      p.damage.filter fun d => d.1 ∉ p.appendSlots rs := List.filter_congr fun d _ => by simp
  rw [← hresume, ← hdamage]
  unfold Part.append
  simp only [hk, Option.getD_some]
  rfl

theorem clampedFields_eq (k : Kind) (rs : List RawRecord) : clampedFields k rs = (rs.map fun r => (storedRecord k r).2).sum := by
  rw [clampedFields, storedRecords, List.map_map]
  rfl

/-- The queue and the free slots after an append, and what is pending (R48, R52). -/
theorem append_counts (hc : c < p.channels.length) :
    ((p.append c rs).channel c).queue.length = (p.channel c).queue.length + rs.length ∧
    ((p.append c rs).channel c).play = (p.channel c).play ∧
    (p.append c rs).freeSlots = 16384 - (p.heldSlots.length + rs.length) := by
  refine ⟨?_, ?_, ?_⟩
  · have hlength := congrArg List.length (append_slots (rs := rs) hc)
    rwa [Channel.slots, Channel.slots, List.length_append, List.length_map, List.length_map, appendSlots_length] at hlength
  · have hread : (p.append c rs).channel c = _ := channel_setChannel c _ p hc
    rw [hread]
  · rw [Part.freeSlots, heldRecords_eq, (append_heldSlots hc).length_eq, List.length_append, appendSlots_length]
    rfl

end

/-- SEG_APPEND's effect in O30. -/
theorem recordsAppended : Claims.RecordsAppended := by
  intro tag c count rs k s ht htag
  have haccepted := segAppend_accepted ht htag
  generalize s.part.taken (.segAppend tag c count rs) = p at haccepted
  intro p' ch used isLoop hlen hc hcount hlow hhigh hgood hstate hkind hwheel hspeed hloops hstore hqueue
  have hlt : c < p.channels.length := by
    show c < p'.channels.length
    omega
  have hk : (p.channel c).kind = some k := hkind
  have hpass : firstFailure (p.appendChecks c count rs) = none := by
    have hangles : ¬(rs.any recordIsAngle = true ∧ some k = some Kind.speed) := fun ⟨hany, hsp⟩ =>
      Bool.false_ne_true ((any_angle_eq_false (hspeed (Option.some.inj hsp))).symm.trans hany)
    have hbodies : loopCheck 1 ((p.channel c).queue.reverse.map QRec.isLoop) rs = none := by
      refine loopCheck_eq_none fun i r hr => loopFault_of_sound ?_ ?_ hr
      · rintro ⟨a, b, j, hloop, hlo, hhi, hat⟩
        exact (hloops i a b hloop).2 j hlo hhi hat
      · rintro ⟨a, b, hloop, hshort⟩
        exact absurd (hloops i a b hloop).1 (Nat.not_le.mpr hshort)
    have hroom : ¬p.freeSlots < rs.length := by
      have hused : p.heldSlots.length + rs.length ≤ 16384 := hstore
      rw [Part.freeSlots, heldRecords_eq]
      show ¬16384 - p.heldSlots.length < rs.length
      omega
    rw [appendChecks_failure, if_neg (Nat.not_lt.mpr hc), if_neg (by omega), any_faulty_eq_false hgood,
      if_neg Bool.false_ne_true, if_neg (not_busy_of_open (st := (p.channel c).state) hstate), hk, if_neg fun h =>
        hwheel (Option.some.inj h), if_neg hangles, hbodies, Option.none_or, if_neg hroom, if_neg (Nat.not_lt.mpr hqueue)]
  obtain ⟨hlength, hplay, hfree⟩ := append_counts (rs := rs) hlt
  refine ⟨p.appendSlots rs, _, appendSlots_length, fun i n hn => takeSlots_lowest hn, rfl, ?_⟩
  rw [haccepted hpass, Channel.pending, hlength, hplay, hfree, hk, Option.getD_some, clampedFields_eq, append_eq hk,
    appendedRecords_eq]
  rfl

/-! ### The stored form (R49, R50, R52) -/

theorem clampValue_fst (top : Nat) (v : Int) : ((clampValue top v).1 : Int) = max 0 (min v top) := by
  unfold clampValue
  split
  · show ((0 : Nat) : Int) = _
    omega
  · split
    · show (top : Int) = _
      omega
    · show (v.toNat : Int) = _
      omega

theorem clampValue_snd (top : Nat) (v : Int) : (clampValue top v).2 = if ((clampValue top v).1 : Int) = v then 0 else 1 := by
  rw [clampValue_fst]
  unfold clampValue
  split
  · rw [if_neg (by omega)]
  · split
    · rw [if_neg (by omega)]
    · rw [if_pos (by omega)]

theorem clampSecondary_fst (v : Nat) : (clampSecondary v).1 = max 10 (min v 200000) := by
  unfold clampSecondary
  split
  · show 10 = _
    omega
  · split
    · show 200000 = _
      omega
    · show v = _
      omega

theorem clampSecondary_snd (v : Nat) : (clampSecondary v).2 = if (clampSecondary v).1 = v then 0 else 1 := by
  rw [clampSecondary_fst]
  unfold clampSecondary
  split
  · rw [if_neg (by omega)]
  · split
    · rw [if_neg (by omega)]
    · rw [if_pos (by omega)]

/-- The stored form of records in O30. -/
theorem recordsStored : Claims.RecordsStored := by
  intro k r a b top
  have htop : top = (k.top : Int) := by cases k <;> rfl
  refine ⟨rfl, _, _, rfl, rfl, rfl, rfl, rfl, rfl, ?_, ?_, ?_, ?_, ?_, ?_⟩
  · rw [htop]
    exact clampValue_fst ..
  · intro hhold
    simp [hhold]
  · intro v hramp hv
    rw [htop]
    exact ⟨_, by simp [hramp, hv], clampValue_fst ..⟩
  · intro hk
    simp [hk]
  · intro v hk hv
    simp [hk, hv, clampSecondary_fst]
  · rw [clampValue_snd]
    congr 1
    · congr 1
      cases hs : r.shape with
      | hold => simp
      | ramp => cases r.endValue <;> simp [clampValue_snd]
    · by_cases hk : k = .pwm
      · cases r.secondary <;> simp [hk, clampSecondary_snd]
      · simp [hk]

/-- Settles O30: SEG_APPEND's effect, its refusals, and the form its records are stored in. -/
theorem recordsAppendedAndStored : Obligations.RecordsAppendedAndStored := ⟨recordsAppended, appendRefused, recordsStored⟩

end Sys2Proof.Machine
end

section
/-! SUPPORT. SEGMENT_END and ANGLE_SEGMENT_END: a record that ends, and what play meets behind it (R53, R56 to R58, R60, R62 to R65). -/

namespace Sys2Proof.Machine

open Sys2Proof

/-! ### A record that ends (R53, R56 to R58) -/

theorem retainedAt_iff (queue : List QRec) (place : Nat) : retainedAt queue place = true ↔ Retained queue place := by
  unfold retainedAt Retained
  rw [List.any_eq_true]
  constructor
  · rintro ⟨⟨q, j⟩, hmem, hloop⟩
    have hq : queue[j]? = some q := (List.mem_zipIdx_iff_getElem? (x := (q, j))).mp hmem
    obtain ⟨slot, content⟩ := q
    cases content with
    | segment r => cases hloop
    | loop k r left broken =>
      have hin : (decide (place < j) && decide (j ≤ place + k)) = true := hloop
      rw [Bool.and_eq_true, decide_eq_true_eq, decide_eq_true_eq] at hin
      exact ⟨j, slot, k, r, left, broken, hq, hin⟩
  · rintro ⟨j, slot, k, r, left, broken, hq, hlo, hhi⟩
    refine ⟨(_, j), (List.mem_zipIdx_iff_getElem? (x := (_, j))).mpr hq, ?_⟩
    show (decide (place < j) && decide (j ≤ place + k)) = true
    rw [decide_eq_true hlo, decide_eq_true hhi]
    rfl

/-- A channel whose record in play has ended: the record's slot kept for a loop, or freed (R53, R58). -/
def Channel.passed (pl : Play) (ch : Channel) : Channel :=
  { ch with
    queue := if retainedAt ch.queue pl.place then ch.queue else ch.queue.eraseIdx pl.place
    play := none
    held := ch.base }

/-- The place of the record behind the one that has ended. -/
def Channel.nextPlace (pl : Play) (ch : Channel) : Nat := if retainedAt ch.queue pl.place then pl.place + 1 else pl.place

/-- The travel beyond its length that an ANGLE record hands on (R57). -/
def Segment.carry (pl : Play) (r : Segment) : Option Nat :=
  if r.basis = .angle then some (pl.travel - r.length * 65536) else none

theorem passed_next (pl : Play) (ch : Channel) : (ch.passed pl).queue[ch.nextPlace pl]? = ch.queue[pl.place + 1]? := by
  unfold Channel.passed Channel.nextPlace
  dsimp only
  split
  · rfl
  · rw [List.getElem?_eraseIdx, if_neg (Nat.lt_irrefl _)]

theorem passed_length {pl : Play} {ch : Channel} (h : pl.place < ch.queue.length) :
    (ch.passed pl).queue.length - ch.nextPlace pl = ch.queue.length - (pl.place + 1) := by
  unfold Channel.passed Channel.nextPlace
  dsimp only
  split
  · rfl
  · rw [List.length_eraseIdx_of_lt h]
    omega

theorem carry_startTravel (pl : Play) (r y : Segment) : y.startTravel (r.carry pl) =
    if y.basis = .angle then (if r.basis = .time then 0 else pl.travel - r.length * 65536) else 0 := by
  unfold Segment.startTravel Segment.carry
  cases r.basis <;> rfl

section
variable {c slot : Nat} {pl : Play} {r : Segment} {p : Part} (hstate : (p.channel c).state = .running)
  (hpl : (p.channel c).play = some pl) (hq : (p.channel c).queue[pl.place]? = some { slot := slot, content := .segment r })
include hpl hq

/-- A segment end is taken by the event of its record's basis alone (R56, R57). -/
theorem endOfBasis_eq (b : Basis) : p.endOfBasis b c = if r.basis = b then settleAll (p.endSegment c) else p := by
  unfold Part.endOfBasis
  rw [playing_eq_some.mpr ⟨hpl, slot, hq⟩]
  simp only [Option.any_some, decide_eq_true_eq]

theorem exec_segmentEnd (hc : c < 32) {s : State} (hs : s.part = p) :
    exec (if r.basis = .time then .segmentEnd c else .angleSegmentEnd c) s = .next (s.withPart (settleAll (p.endSegment c))) ∧
    exec (if r.basis = .time then .angleSegmentEnd c else .segmentEnd c) s = .next s := by
  subst hs
  have htime : exec (.segmentEnd c) s = .next (s.withPart (s.part.endOfBasis .time c)) :=
    onUnit_of_lt hc (fun q => q.endOfBasis .time c) s
  have hangle : exec (.angleSegmentEnd c) s = .next (s.withPart (s.part.endOfBasis .angle c)) :=
    onUnit_of_lt hc (fun q => q.endOfBasis .angle c) s
  rw [endOfBasis_eq hpl hq] at htime hangle
  cases hb : r.basis with
  | time =>
    rw [hb] at htime hangle
    exact ⟨htime, hangle⟩
  | angle =>
    rw [hb] at htime hangle
    exact ⟨hangle, htime⟩

include hstate

theorem endSegment_of_short (h : reachedLength p.now pl r = false) : p.endSegment c = (p, []) := by
  unfold Part.endSegment
  simp only [hstate, playing_eq_some.mpr ⟨hpl, slot, hq⟩, h]
  rfl

/-- An END record leaves its channel DONE at its end value, its queue freed (R58). -/
theorem endSegment_of_end (h : reachedLength p.now pl r = true) (hend : r.endFlag = true) : p.endSegment c =
    (p.enterState c .done { (p.channel c).emptied with held := r.endValue }, [.renderAgain c]) := by
  unfold Part.endSegment
  simp only [hstate, playing_eq_some.mpr ⟨hpl, slot, hq⟩, h, hend, if_true]

/-- Any other record that ends leaves play to the record behind it (R56, R57). -/
theorem endSegment_of_over (h : reachedLength p.now pl r = true) (hend : r.endFlag = false) : p.endSegment c =
    (p.setChannel c ((p.channel c).passed pl),
      [.arrive c ((p.channel c).nextPlace pl) (r.carry pl) (p.channel c).pending (r.marker.getD 0), .renderAgain c]) := by
  unfold Part.endSegment Channel.passed
  simp only [hstate, playing_eq_some.mpr ⟨hpl, slot, hq⟩, h, hend, if_true, if_false, Bool.false_eq_true]
  rfl

end

theorem endValue_eq (r : Segment) : r.endValue = if r.shape = .ramp then r.stop.getD r.start else r.start := by
  unfold Segment.endValue
  cases r.shape <;> cases r.stop <;> rfl

/-- Settles O33: a record that ends, by what stands behind it. -/
theorem segmentsEnd : Obligations.SegmentsEnd := by
  intro c slot pl r s hc hlen p now ch run isOver carry hstate hpl hq
  have hlt : c < p.channels.length := hlen ▸ hc
  obtain ⟨hrun, hother⟩ := exec_segmentEnd hpl hq hc (s := s) rfl
  have hover : reachedLength p.now pl r = true ↔ isOver := by
    refine (reachedLength_iff ..).trans ?_
    show _ ↔ if r.basis = .time then _ else _
    cases r.basis <;> rfl
  obtain ⟨hplace, -⟩ := List.getElem?_eq_some_iff.mp hq
  let w := p.setChannel c (ch.passed pl)
  have hw : w.channel c = ch.passed pl := channel_setChannel _ _ _ hlt
  have hwlt : c < w.channels.length := by simpa [w] using hlt
  have hwstate {st : ChState} (h : st ≠ .running) : (w.channel c).state ≠ st := by
    rw [hw]
    exact fun hst => h (hst.symm.trans hstate)
  have hpending : ch.pending = ch.queue.length - (pl.place + 1) := by
    rw [Channel.pending, hpl]
  have hplays (h : isOver) (hend : r.endFlag = false) : run = .next (s.withPart (settleAll (w,
      [.arrive c (ch.nextPlace pl) (r.carry pl) (ch.queue.length - (pl.place + 1)) (r.marker.getD 0), .renderAgain c]))) := by
    rw [← hpending]
    exact hrun.trans (by rw [endSegment_of_over hstate hpl hq (hover.mpr h) hend])
  refine ⟨hother, fun hshort => ?_, fun h hend => ?_, fun h hend hlast => ?_, fun slot' r' h hend hnext => ?_⟩
  · refine hrun.trans ?_
    rw [endSegment_of_short hstate hpl hq (Bool.eq_false_iff.mpr (mt hover.mp hshort)), settleAll_nil]
    rfl
  · refine hrun.trans ?_
    rw [endSegment_of_end hstate hpl hq (hover.mpr h) hend, enterState_of_ne (fun hst => by cases hst.symm.trans hstate),
      settleAll_of_leads (leads_renderAgain c _) (by unfold taskLimit; omega), endValue_eq]
    rfl
  · have hfree : retainedAt ch.queue pl.place = false := by
      rw [Bool.eq_false_iff, Ne, retainedAt_iff]
      rintro ⟨j, _, _, _, _, _, hj, hlo, -⟩
      obtain ⟨hjlt, -⟩ := List.getElem?_eq_some_iff.mp hj
      omega
    have hpassed : ch.passed pl = { ch with queue := ch.queue.take pl.place, play := none, held := ch.base } := by
      unfold Channel.passed
      rw [hfree, List.eraseIdx_eq_take_drop_succ, List.drop_of_length_le hlast.le, List.append_nil]
      rfl
    have hstarve : w.arrive c (ch.nextPlace pl) (r.carry pl) (ch.queue.length - (pl.place + 1)) (r.marker.getD 0) =
        (w.starve c (r.marker.getD 0), []) :=
      arrive_of_none (by rw [hw, passed_next]; exact List.getElem?_eq_none hlast.le)
    rw [hplays h hend, settleAll_of_arrival hstarve, starve_eq (hwstate (by decide)), hw, logError_setChannel,
      putChannel_setChannel, hpassed]
    rfl
  · intro travel before mark x hfreed hkept
    have hbehind : (w.channel c).queue[ch.nextPlace pl]? = some { slot := slot', content := .segment r' } := by
      rw [hw, passed_next, hnext]
    have hx : x = (ch.passed pl).startedAt now (ch.nextPlace pl) (r'.startTravel (r.carry pl)) r' := by
      rw [carry_startTravel]
      by_cases hret : Retained ch.queue pl.place
      · have hat : retainedAt ch.queue pl.place = true := (retainedAt_iff ..).mpr hret
        rw [hkept hret, Channel.passed, Channel.nextPlace, hat]
        rfl
      · have hat : retainedAt ch.queue pl.place = false := Bool.eq_false_iff.mpr (mt (retainedAt_iff ..).mp hret)
        rw [hfreed hret, Channel.passed, Channel.nextPlace, hat]
        rfl
    have htravel : r'.startTravel (r.carry pl) = travel := carry_startTravel pl r r'
    have hafter : (w.channel c).queue.length = before - 1 + (ch.nextPlace pl + 1) := by
      obtain ⟨hin, -⟩ := List.getElem?_eq_some_iff.mp hbehind
      have hlength := passed_length (pl := pl) (ch := ch) hplace
      rw [hw] at hin ⊢
      show _ = ch.queue.length - (pl.place + 1) - 1 + _
      omega
    have hmark : (w.channel c).lowMark = mark := by
      rw [hw]
      exact lowMark_eq ch
    refine ⟨fun hsound => ⟨_, hplays h hend, ?_⟩, fun hmend => ⟨_, hplays h hend, ?_⟩, fun hlost => ?_⟩
    · have hstarted := started_of_arrival (before := before) (marker := r.marker.getD 0) (carry := r.carry pl) hwlt hbehind
        (readSlot_of_sound hsound) hafter hmark
      rw [hw, setChannel_setChannel, htravel] at hstarted
      rw [hx, htravel]
      exact hstarted
    · have hstarted := started_of_arrival (before := before) (marker := r.marker.getD 0) (carry := r.carry pl)
        (p' := w.mended c slot') (by simpa [Part.mended] using hwlt) hbehind (readSlot_of_correctable hmend)
        (by rw [mended_channel, hafter]) (by rw [mended_channel, hmark])
      have hnow : (w.mended c slot').now = now := mended_now
      rw [hnow, mended_channel, hw, mended_setChannel, setChannel_setChannel, ← mended_setChannel, htravel] at hstarted
      rw [hx, htravel]
      exact hstarted
    · have hfault : w.arrive c (ch.nextPlace pl) (r.carry pl) before (r.marker.getD 0) = (w.faultChannel c slot', []) :=
        arrive_of_lost hbehind (readSlot_of_lost hlost)
      rw [hplays h hend, settleAll_of_arrival hfault, faultChannel_eq (hwstate (by decide)), hw, logError_setChannel,
        putChannel_setChannel]
      rfl

end Sys2Proof.Machine
end

section
/-! SUPPORT. LOOP_BREAK, and how play meets a loop record (R58 to R63). -/

namespace Sys2Proof.Machine

open Sys2Proof

/-! ### LOOP_BREAK (R61) -/

theorem firstLoop_of_none {queue : List QRec} (h : ∀ q ∈ queue, q.isLoop = false) : firstLoop queue = none := by
  have hfind : queue.findIdx? QRec.isLoop = none := List.findIdx?_eq_none_iff.mpr h
  rw [firstLoop, hfind]
  rfl

theorem firstLoop_of_front {front back : List QRec} (h : ∀ q ∈ front, q.isLoop = false) (slot k r left : Nat) (broken : Bool) :
    firstLoop (front ++ { slot := slot, content := .loop k r left broken } :: back) = some (front.length, k, r, left) := by
  have hfind : (front ++ ({ slot := slot, content := .loop k r left broken } : QRec) :: back).findIdx? QRec.isLoop =
      some front.length := by
    rw [List.findIdx?_append, List.findIdx?_eq_none_iff.mpr h, List.findIdx?_cons]
    simp [QRec.isLoop]
  rw [firstLoop, hfind]
  simp

/-- LOOP_BREAK's part of O31. -/
theorem loopBroken : Claims.LoopBroken := by
  intro tag c s ht htag p ch no
  have hrefused {r : Refused} := request_refused (r := r) ht htag (act := fun p =>
    if outside 0 31 c then .refuse (badField 1)
    else if (p.channel c).state = .off then .refuse (refusal .notConfigured)
    else
      match firstLoop (p.channel c).queue with
      | some (i, _, r, remaining) => .ack (.loopBreak c (i + 1) r remaining) (p.breakLoop c)
      | none => .refuse (refusal .noLoop))
  have hinside (hc : c ≤ 31) : ¬outside 0 31 c = true := by
    rw [outside_eq_true]
    omega
  refine ⟨fun hc => hrefused (if_pos ((outside_eq_true ..).mpr (.inr hc))), fun hc hoff => hrefused ?_,
    fun hc hon hnone => hrefused ?_, fun front back slot k r left broken hc hon hqueue hfront => ?_⟩
  · exact (if_neg (hinside hc)).trans (if_pos hoff)
  · refine (if_neg (hinside hc)).trans ((if_neg hon).trans ?_)
    rw [firstLoop_of_none hnone]
    rfl
  · have hfirst : firstLoop (p.channel c).queue = some (front.length, k, r, left) := by
      rw [show (p.channel c).queue = _ from hqueue, firstLoop_of_front hfront]
    have hat : (p.channel c).queue[front.length]? = some { slot := slot, content := .loop k r left broken } := by
      rw [show (p.channel c).queue = _ from hqueue]
      simp
    have hbroken : p.breakLoop c =
        p.setChannel c { ch with queue := front ++ { slot := slot, content := .loop k r 0 true } :: back } := by
      unfold Part.breakLoop
      simp only [hfirst, hat]
      rw [show (p.channel c).queue = _ from hqueue, List.set_append_right _ _ le_rfl, Nat.sub_self, List.set_cons_zero]
    rw [← hbroken]
    refine request_acked ht htag ((if_neg (hinside hc)).trans ((if_neg hon).trans ?_))
    rw [hfirst]

/-! ### Play that reaches a loop record (R59) -/

section
variable {c place k r left slot : Nat} {broken : Bool} {carry : Option Nat} {before marker : Nat} {p p' : Part}
  (hq : (p.channel c).queue[place]? = some { slot := slot, content := .loop k r left broken })
  (hread : p.readSlot c slot = (true, p'))
include hq hread

/-- An unbroken loop with passes left returns to its body. -/
theorem arrive_of_loop_again (hb : broken = false) (hleft : r = 0 ∨ 0 < left) : p.arrive c place carry before marker =
    (p'.setChannel c { p'.channel c with
        queue := (p'.channel c).queue.set place ⟨slot, .loop k r (if r = 0 then left else left - 1) broken⟩ },
      [.arrive c (place - k) carry before marker]) := by
  have hagain : (!broken && (decide (r = 0) || decide (0 < left))) = true := by
    rw [hb]
    simpa using hleft
  unfold Part.arrive
  simp only [hq, hread, hagain, if_true]

/-- A broken loop, or one with no pass left, is freed with its body. -/
theorem arrive_of_loop_over (hover : broken = true ∨ r ≠ 0 ∧ left = 0) : p.arrive c place carry before marker =
    (p'.setChannel c { p'.channel c with
        queue := (p'.channel c).queue.take (place - k) ++ (p'.channel c).queue.drop (place + 1) },
      [.arrive c (place - k) carry before 0]) := by
  have hover : ¬(!broken && (decide (r = 0) || decide (0 < left))) = true := by
    rcases hover with rfl | ⟨hr, rfl⟩
    · simp
    · simp [hr]
  unfold Part.arrive
  simp only [hq, hread, if_neg hover]

end

section
variable {c place next detail before marker : Nat} {w p : Part} {x : Channel} (hlt : c < p.channels.length)
  (harrive : w.arrive c place none before marker = (p.setChannel c x, [.arrive c next none before detail]))
include hlt harrive

/-- A loop record passed with a segment met behind it: the segment starts. -/
theorem started_of_loop {slot after mark : Nat} {y : Segment} (hq : x.queue[next]? = some { slot := slot, content := .segment y })
    (hdamage : p.damage = []) (hafter : x.queue.length = after + (next + 1)) (hmark : x.lowMark = mark) :
    (p.setChannel c (x.startedAt p.now next 0 y)).Started c 0 before after mark y
      (settleAll (w, [.arrive c place none before marker, .renderAgain c])) := by
  let u := p.setChannel c x
  have hu : u.channel c = x := channel_setChannel _ _ _ hlt
  let v := p.setChannel c (x.startedAt p.now next 0 y)
  have hv : v.channel c = x.startedAt p.now next 0 y := channel_setChannel _ _ _ hlt
  have hsegment : u.arrive c next none before detail = (v, startWork c 0 before y) := by
    rw [arrive_of_segment (by rw [hu]; exact hq) (readSlot_of_sound (by simp [u, hdamage])), startTravel_none, hu,
      setChannel_setChannel]
    rfl
  have hrun : settleAll (w, [.arrive c place none before marker, .renderAgain c]) =
      runTasks 18446744073709551614 (startWork c 0 before y ++ [.renderAgain c]) v := by
    refine (runTasks_cons rfl 18446744073709551615 _ _).trans ?_
    show runTasks _ ((w.arrive c place none before marker).2 ++ _) (w.arrive c place none before marker).1 = _
    rw [harrive]
    refine (runTasks_cons rfl 18446744073709551614 _ _).trans ?_
    show runTasks _ ((u.arrive c next none before detail).2 ++ _) (u.arrive c next none before detail).1 = _
    rw [hsegment]
    rfl
  rw [hrun]
  refine started_of_runTasks (by decide) ?_ ?_
  · rw [hv]
    show x.queue.length - (next + 1) = after
    omega
  · rw [hv]
    exact hmark

/-- A loop record passed with no record behind it: the channel starves. -/
theorem starve_of_loop (hq : x.queue[next]? = none) (hstate : x.state ≠ .starved) :
    settleAll (w, [.arrive c place none before marker, .renderAgain c]) =
      (((p.logError .channelUnderrun (.channel c) detail).putChannel c { x with
        state := .starved, play := none, starvedAt := some p.clock.ticks, startAt := none, resumeAt := none }).raise
        (.channel c)).renderAgain c := by
  let u := p.setChannel c x
  have hu : u.channel c = x := channel_setChannel _ _ _ hlt
  have hstarve : u.arrive c next none before detail = (u.starve c detail, []) := arrive_of_none (by rw [hu]; exact hq)
  have hend : Leads 1 [.arrive c next none before detail] u (u.starve c detail) := .task rfl (by
    show Leads 0 (u.arrive c next none before detail).2 (u.arrive c next none before detail).1 _
    rw [hstarve]
    exact .nil _)
  have hpass : Leads 2 [.arrive c place none before marker] w (u.starve c detail) := .task rfl (by
    show Leads 1 (w.arrive c place none before marker).2 (w.arrive c place none before marker).1 _
    rw [harrive]
    exact hend)
  refine (settleAll_of_leads (hpass.append (leads_renderAgain c _)) (by unfold taskLimit; omega)).trans ?_
  rw [starve_eq (by rw [hu]; exact hstate), hu, logError_setChannel, putChannel_setChannel]
  rfl

end

/-- Play's part of O31. -/
theorem loopsSettled : Claims.LoopsSettled := by
  intro c slot slot' lslot k r left broken pl x front body back s hc hlen p now ch mark before hstate hpl hplace hqueue hk hbasis
    hend hdue _ _ hdamage
  have hlt : c < p.channels.length := hlen ▸ hc
  have hlast : ch.queue[pl.place]? = some { slot := slot, content := .segment x } := by
    rw [hqueue, hplace, ← List.length_append, List.getElem?_append_right le_rfl, Nat.sub_self]
    rfl
  have hloop : ch.queue[pl.place + 1]? = some { slot := lslot, content := .loop k r left broken } := by
    rw [hqueue, hplace, ← List.length_append, List.getElem?_append_right (Nat.le_succ _), Nat.succ_sub le_rfl,
      Nat.sub_self]
    rfl
  have hkept : retainedAt ch.queue pl.place = true :=
    (retainedAt_iff ..).mpr ⟨_, _, _, _, _, _, hloop, Nat.lt_succ_self _, by omega⟩
  let y : Channel := { ch with play := none, held := ch.base }
  have hpassed : ch.passed pl = y := by
    rw [Channel.passed, hkept]
    rfl
  let w := p.setChannel c y
  have hw : w.channel c = y := channel_setChannel _ _ _ hlt
  have hpending : ch.pending = before := by
    rw [Channel.pending, hpl, hqueue]
    show (front ++ body ++ _ :: _ :: back).length - (pl.place + 1) = 1 + back.length
    simp only [List.length_append, List.length_cons]
    omega
  have hrun : exec (.segmentEnd c) s = .next (s.withPart (settleAll (w,
      [.arrive c (pl.place + 1) none before (x.marker.getD 0), .renderAgain c]))) := by
    have hexec := (exec_segmentEnd hpl hlast hc (s := s) rfl).1
    have hreached : reachedLength p.now pl x = true := (reachedLength_iff ..).mpr (by rw [hbasis]; exact hdue)
    rw [endSegment_of_over hstate hpl hlast hreached hend, hbasis] at hexec
    rw [show (p.channel c).pending = before from hpending, show (p.channel c).passed pl = y from hpassed, Channel.nextPlace,
      hkept, Segment.carry, hbasis] at hexec
    exact hexec
  have hnext : pl.place + 1 - k = front.length := by omega
  have hread : w.readSlot c lslot = (true, w) := readSlot_of_sound (by simp [w, hdamage])
  have hloop' : (w.channel c).queue[pl.place + 1]? = some { slot := lslot, content := .loop k r left broken } := by
    rw [hw]
    exact hloop
  have hmark (queue : List QRec) : ({ y with queue := queue } : Channel).lowMark = mark := lowMark_eq ch
  have htake : ch.queue.take front.length = front := by
    rw [hqueue, List.append_assoc, List.take_left]
  have hdrop : ch.queue.drop (pl.place + 1 + 1) = back := by
    rw [hqueue, hplace, Nat.add_assoc, ← List.length_append, List.drop_length_add_append]
    rfl
  have hover (h : broken = true ∨ r ≠ 0 ∧ left = 0) : w.arrive c (pl.place + 1) none before (x.marker.getD 0) =
      (p.setChannel c { y with queue := front ++ back }, [.arrive c front.length none before 0]) := by
    have hqueue' : y.queue.take front.length ++ y.queue.drop (pl.place + 1 + 1) = front ++ back := by
      rw [htake, hdrop]
    rw [arrive_of_loop_over hloop' hread h, hw, setChannel_setChannel, hnext, hqueue']
  refine ⟨fun hb hleft z hz => ⟨_, hrun, ?_⟩, fun hdone => ⟨fun hnil => ?_, fun z rest hback => ⟨_, hrun, ?_⟩⟩⟩
  · let queue := front ++ body ++ (⟨slot, .segment x⟩ : QRec) ::
      ⟨lslot, .loop k r (if r = 0 then left else left - 1) broken⟩ :: back
    have hset : y.queue.set (pl.place + 1) ⟨lslot, .loop k r (if r = 0 then left else left - 1) broken⟩ = queue := by
      show ch.queue.set _ _ = _
      rw [hqueue, hplace, ← List.length_append, List.set_append_right _ _ (Nat.le_succ _), Nat.succ_sub le_rfl, Nat.sub_self]
      rfl
    have hagain : w.arrive c (pl.place + 1) none before (x.marker.getD 0) =
        (p.setChannel c { y with queue := queue }, [.arrive c front.length none before (x.marker.getD 0)]) := by
      rw [arrive_of_loop_again hloop' hread hb hleft, hw, setChannel_setChannel, hnext, hset]
    have hfirst : queue[front.length]? = some { slot := slot', content := .segment z } := by
      show (front ++ body ++ (_ :: _))[_]? = _
      rw [List.append_assoc, List.getElem?_append_right le_rfl, Nat.sub_self, ← hz]
      cases body <;> rfl
    have hafter : queue.length = body.length + 1 + back.length + (front.length + 1) := by
      simp [queue]
      omega
    exact started_of_loop hlt hagain hfirst hdamage hafter (hmark queue)
  · have hnone : ({ y with queue := front ++ back } : Channel).queue[front.length]? = none := by
      simp [hnil]
    rw [hrun, starve_of_loop hlt (hover hdone) hnone (fun h => by cases hstate.symm.trans h), hnil, List.append_nil]
    rfl
  · have hnext' : (front ++ back)[front.length]? = some { slot := slot', content := .segment z } := by
      simp [hback]
    have hafter : (front ++ back).length = rest.length + (front.length + 1) := by
      simp [hback]
      omega
    exact started_of_loop hlt (hover hdone) hnext' hdamage hafter (hmark (front ++ back))

/-- Settles O31: LOOP_BREAK by the loop record nearest the head, and play that reaches a loop record by its broken mark and
the passes left. -/
theorem loopsBrokenAndSettled : Obligations.LoopsBrokenAndSettled := ⟨loopBroken, loopsSettled⟩

end Sys2Proof.Machine
end

section
/-! SUPPORT. Times reached, the slots' waiters, and the requests and events of conditions, slots, triggers and groups (R69, R70,
R75, R77 to R83). -/

namespace Sys2Proof.Machine

open Sys2Proof

/-! ### Times reached (R70) -/

theorem timeReached_iff (t : Nat) (p : Part) : p.timeReached t = true ↔ min t 281474976710655 ≤ p.clock.rigTime :=
  decide_eq_true_iff

theorem timeReached_eq_false_iff (t : Nat) (p : Part) :
    p.timeReached t = false ↔ p.clock.rigTime < min t 281474976710655 := by
  rw [Bool.eq_false_iff, ne_eq, timeReached_iff, not_le]

theorem metAtArming_of_reached {t : Nat} {p : Part} (h : min t 281474976710655 ≤ p.clock.rigTime) :
    p.metAtArming (.time t) = some t := if_pos ((timeReached_iff t p).mpr h)

/-- A form that waits for no time, or for one to come, is not met as it is armed. -/
theorem metAtArming_of_unreached {w : Waiting} {p : Part} (h : ∀ t, w = .time t → p.clock.rigTime < min t 281474976710655) :
    p.metAtArming w = none := by
  cases w with
  | time t => simp [Part.metAtArming, (timeReached_eq_false_iff t p).mpr (h t rfl)]
  | _ => rfl

theorem entryTimeMet_of_armed {e t : Nat} {p : Part} (hs : (p.entry e).state = .armed)
    (hw : (p.entry e).waiting = some (.time t)) : p.entryTimeMet e = p.metAtArming (.time t) := by
  unfold Part.entryTimeMet
  simp only [hs, hw]
  rfl

/-- Settles O39: CONDITION_AT_TIME finds the time of an entry's or a group's form reached, or changes nothing. -/
theorem timesMet : Obligations.TimesMet := by
  refine ⟨fun e t s he => ?_, fun g t c s hg => ?_⟩
  · intro p hs hw
    have hexec : exec (.conditionAtTime (.entry e)) s = .next (s.withPart (p.timeMet (.entry e))) := onUnit_of_lt he _ s
    rw [hexec]
    unfold Part.timeMet
    simp only [entryTimeMet_of_armed hs hw]
    refine ⟨fun h => ?_, fun h => ?_⟩
    · rw [metAtArming_of_unreached fun u hu => by cases hu; exact h]
      rfl
    · rw [metAtArming_of_reached h]
  · intro p harmed
    have hexec : exec (.conditionAtTime (.group g)) s = .next (s.withPart (p.timeMet (.group g))) := onUnit_of_lt hg _ s
    have hreached : p.reachedTime ((p.group g).armed.map Prod.snd) = p.metAtArming (.time t) := by rw [harmed]; rfl
    rw [hexec]
    unfold Part.timeMet
    simp only [hreached]
    refine ⟨fun h => ?_, fun h => ?_⟩
    · rw [metAtArming_of_unreached fun u hu => by cases hu; exact h]
      rfl
    · rw [metAtArming_of_reached h]

/-! ### Trigger inputs (R79, R80) -/

/-- TRIGGER_CFG's part of O36. -/
theorem triggerConfigured : Claims.TriggerConfigured := by
  intro tag i width s ht htag p x w
  refine (request_verdict ht htag _).trans (congrArg Host.Outcome.next ?_)
  simp only [after_checked_cons, checked_nil, after_ack, outside_eq_true, outsideIf_iff, Nat.not_lt_zero, false_or]
  rfl

/-- The filter's part of O36: a sample, and a change accepted with all that its occurrence brings about. -/
theorem triggerFiltered : Claims.TriggerFiltered := by
  refine ⟨fun now level x => ?_, fun i s hi _ hslots => ?_⟩
  · unfold TriggerInput.sample
    cases x.change <;> rfl
  · intro p x turned
    have hexec : exec (.triggerAccept i) s = .next (s.withPart (if p.triggerDue i then p.acceptTrigger i else p)) :=
      onUnit_of_lt hi _ s
    refine ⟨fun t hchange ht => ?_, fun h => ?_⟩
    · have hdue : p.triggerDue i = true := Option.any_eq_true _ _ |>.mpr ⟨t, hchange, decide_eq_true ht⟩
      rw [hexec, if_pos hdue]
      refine ⟨rfl, fun hu => ?_⟩
      have hturned : turned.Unwaited (.trigger i (!x.filtered)) := hu
      exact congrArg (Host.Outcome.next ∘ s.withPart)
        (settleAll_of_leads (leads_occur hturned hslots fun _ => by simp) (by decide))
    · have hnot : ¬p.triggerDue i = true := fun hdue => by
        obtain ⟨t, hchange, ht⟩ := Option.any_eq_true _ _ |>.mp hdue
        exact absurd (of_decide_eq_true ht) (not_le.mpr (h t hchange))
      rw [hexec, if_neg hnot]
      rfl

/-- Settles O36: TRIGGER_CFG, the trigger filter and TRIGGER_ACCEPT. -/
theorem triggerConfiguredAndFiltered : Obligations.TriggerConfiguredAndFiltered := ⟨triggerConfigured, triggerFiltered⟩

/-! ### Slots (R75, R77, R78) -/

/-- The fields of a source selection as R75 lets them pass, by its kind. -/
def SelectionGood (kind b2 b3 : Nat) : Prop :=
  match kind with
  | 0 => True
  | 1 => b2 ≤ 7 ∧ b3 ≤ 2
  | 2 => b2 ≤ 15 ∧ b3 ≤ 1
  | 3 => b2 * 256 + b3 ≤ 46079
  | 4 => 1 ≤ b2 ∧ b2 ≤ 15 ∧ (b3 ≤ 31 ∨ b3 = 255)
  | 5 => b2 ≤ 127 ∧ b3 ≤ 1
  | _ => b2 ≤ 7

/-- The source that a good selection spells. -/
def selected (kind b2 b3 : Nat) : Source :=
  match kind with
  | 0 => .none
  | 1 => .trigger b2 (if b3 = 0 then .rise else if b3 = 1 then .fall else .both)
  | 2 => .monitor b2 (decide (b3 = 0))
  | 3 => .angleMark (b2 * 256 + b3)
  | 4 => .segmentMark b2 (if b3 = 255 then none else some b3)
  | 5 => .entry b2 (if b3 = 0 then .active else .released)
  | _ => .group b2

theorem parseSource_isNone (kind b2 b3 : Nat) : (parseSource kind b2 b3).isNone = true ↔ 6 < kind := by
  match kind with
  | 0 | 1 | 2 | 3 | 4 | 5 | 6 => simp [parseSource]
  | n + 7 => simp [parseSource]

/-- A selection of a known kind parses to its source, or to none where a field is out of range. -/
theorem parseSource_of_known {kind : Nat} (hk : kind ≤ 6) (b2 b3 : Nat) :
    (SelectionGood kind b2 b3 → parseSource kind b2 b3 = some (some (selected kind b2 b3))) ∧
    (¬SelectionGood kind b2 b3 → parseSource kind b2 b3 = some none) := by
  match kind with
  | 0 => simp [SelectionGood, parseSource, selected]
  | 1 =>
    match b3 with
    | 0 | 1 | 2 => simp +contextual [SelectionGood, parseSource, selected, outside]
    | n + 3 => simp [SelectionGood, parseSource]
  | 2 =>
    match b3 with
    | 0 | 1 => simp +contextual [SelectionGood, parseSource, selected, outside]
    | n + 2 => simp [SelectionGood, parseSource]
  | 3 => simp +contextual [SelectionGood, parseSource, selected, outside]
  | 4 =>
    simp only [SelectionGood, parseSource, selected, outside_eq_true]
    split_ifs <;> simp <;> omega
  | 5 =>
    match b3 with
    | 0 | 1 => simp +contextual [SelectionGood, parseSource, selected, outside]
    | n + 2 => simp [SelectionGood, parseSource]
  | 6 => simp +contextual [SelectionGood, parseSource, selected, outside]
  | n + 7 => omega

/-- An entry waits on a slot by its form or by its duration (R77). -/
theorem entry_waitsOn_iff (x : Entry) (n : Nat) : x.waitsOn n = true ↔
    ((∃ t, x.waiting = some (.event n t)) ∧ (x.state = .armed ∨ x.state = .blocked)) ∨
    (x.definition.map EntryDef.duration = some (.untilEvent n) ∧ (x.state = .inserting ∨ x.state = .active)) := by
  unfold Entry.waitsOn
  simp only [Bool.or_eq_true]
  refine or_congr ?_ ?_
  · split
    · simp_all
    · simp_all
  · split
    · simp_all
    · simp_all

theorem group_waitsOn_iff (x : Group) (n : Nat) : x.waitsOn n = true ↔ ∃ c t, x.armed = some (c, .event n t) := by
  unfold Group.waitsOn
  split
  · simp_all
  · simp_all

theorem slotWaiters_ne_zero_iff (n : Nat) (p : Part) :
    p.slotWaiters n ≠ 0 ↔ (∃ x ∈ p.entries, x.waitsOn n = true) ∨ ∃ x ∈ p.groups, x.waitsOn n = true := by
  simp only [Part.slotWaiters, ne_eq, Nat.add_eq_zero_iff, List.length_eq_zero_iff, List.filter_eq_nil_iff, not_and_or,
    not_forall, not_not, exists_prop]

/-- SLOT_CONFIG's part of O35. -/
theorem slotConfigured : Claims.SlotConfigured := by
  intro tag n kind b2 b3 s ht htag p run no good src waits
  have hrun : run = .next (if 15 < n then s.replied p tag (no .badField 1)
      else if 6 < kind then s.replied p tag (no .badField 2)
      else if (parseSource kind b2 b3).any Option.isNone = true then s.replied p tag (no .badField 3)
      else if p.slotWaiters n ≠ 0 then s.replied p tag (no .busy 0)
      else s.replied (p.setSlot n { source := ((parseSource kind b2 b3).getD none).getD .none, count := 0, last := none }) tag
        (.ack (.slotConfig n (((parseSource kind b2 b3).getD none).getD .none)))) := by
    refine (request_verdict ht htag _).trans (congrArg Host.Outcome.next ?_)
    simp only [after_checked_cons, checked_nil, after_ack, outside_eq_true, Nat.not_lt_zero, false_or, parseSource_isNone,
      decide_eq_true_eq]
    rfl
  have hwaits : p.slotWaiters n ≠ 0 ↔ waits := by
    simp only [slotWaiters_ne_zero_iff, entry_waitsOn_iff, group_waitsOn_iff, and_or_left, exists_or, or_assoc, waits]
  rw [hrun]
  refine ⟨fun hn => by rw [if_pos hn], fun hn hk => by rw [if_neg (by omega), if_pos hk], fun hn hk hbad => ?_,
    fun hn hk hgood => ?_⟩
  · rw [if_neg (by omega), if_neg (by omega), (parseSource_of_known hk b2 b3).2 hbad]
    rfl
  · rw [if_neg (by omega), if_neg (by omega), (parseSource_of_known hk b2 b3).1 hgood]
    exact ⟨fun hw => by rw [if_neg (by simp), if_pos (hwaits.mpr hw)], fun hw => by
      rw [if_neg (by simp), if_neg (mt hwaits.mp hw)]; rfl⟩

/-- SLOT_GET's part of O35. -/
theorem slotRead : Claims.SlotRead := by
  intro tag n s ht htag p shown
  have hshown (k : Nat) : p.slotSnapshot k = shown k := by
    simp only [Part.slotSnapshot, Part.slotWaiters, ← List.countP_eq_length_filter]
    rfl
  refine (request_verdict ht htag _).trans (congrArg Host.Outcome.next ?_)
  by_cases hall : n = 255
  · simp only [if_pos hall, after_ack]
    rw [List.map_congr_left fun k _ => hshown k]
    rfl
  · simp only [if_neg hall, after_checked_cons, checked_nil, after_ack, outside_eq_true, Nat.not_lt_zero, false_or]
    rw [apply_ite (s.replied p tag)]
    exact ite_congr rfl (fun _ => rfl) fun _ => by rw [← hshown]

/-- Settles O35: SLOT_CONFIG and SLOT_GET. -/
theorem slotConfiguredAndRead : Obligations.SlotConfiguredAndRead := ⟨slotConfigured, slotRead⟩

/-! ### Groups with no member (R82) -/

/-- The start of a group that no channel is PRIMED for, and whose occurrence nothing waits for (R82). -/
theorem leads_startGroup_of_none {g : Nat} {c : Condition} {w : Waiting} {p : Part} (hg : g < p.groups.length)
    (harmed : (p.group g).armed = some (c, w)) (hprimed : p.primedFor g = []) (hslots : p.slots.length = 16)
    (hunwaited : (p.setGroup g { p.group g with armed := none }).Unwaited (.group g)) :
    Leads 4 [.startGroup g w] p
      (((p.setGroup g ((p.group g).started p.stamp 0)).counted (.group g)).raise (.group g)) := by
  have hstart : p.startGroup g w = (p.setGroup g { p.group g with armed := none }, [.groupDone g 0]) := by
    unfold Part.startGroup
    simp only [harmed, hprimed]
    exact if_pos rfl
  have hdone := leads_groupDone (g := g) (n := 0) (u := p.setGroup g { p.group g with armed := none }) hslots hunwaited
    (x := p.group g) (group_setGroup g _ p hg)
  rw [setGroup_setGroup] at hdone
  refine .task rfl ?_
  show Leads 3 (p.startGroup g w).2 (p.startGroup g w).1 _
  rw [hstart]
  exact hdone

theorem primedFor_of_none {p : Part} (h : ∀ k < 32, (p.channel k).state ≠ .primed) (g : Nat) : p.primedFor g = [] := by
  refine List.eq_nil_iff_forall_not_mem.mpr fun k hk => ?_
  obtain ⟨hlt, hstate, -⟩ := mem_primedFor.mp hk
  exact h k hlt hstate

/-! ### GROUP_ARM and GROUP_CANCEL (R81, R83) -/

theorem conditionFault_isSome_iff (c : RawCondition) : (conditionFault c).isSome = true ↔
    match c with
    | .now => False
    | .atTime t => 281474976710655 < t
    | .atAngle a f => 46079 < a ∨ ∃ n ∈ f, 4294967295 < n
    | .onEvent n k => 15 < n ∨ k < 1 ∨ 65535 < k
    | .unknown _ => True := by
  cases c with
  | now => simp [conditionFault]
  | atTime t =>
    simp only [conditionFault, Config.lastRigTime]
    by_cases h : 281474976710655 < t <;> simp [h]
  | atAngle a f =>
    simp only [conditionFault, outside_eq_true, Option.any_eq_true, decide_eq_true_eq]
    split_ifs <;> simp_all [Config.max32]
  | onEvent n k =>
    simp only [conditionFault, outside_eq_true]
    split_ifs
    all_goals simp
    all_goals omega
  | unknown _ => simp [conditionFault]

theorem unsetSlot_eq_some_iff (c : Condition) (p : Part) (n : Nat) :
    p.unsetSlot c = some n ↔ ∃ k, c = .onEvent n k ∧ (p.slot n).source = .none := by
  cases c with
  | onEvent m k =>
    simp only [Part.unsetSlot]
    split_ifs with h
    · refine Iff.intro (fun hm => ?_) fun ⟨_, hm, _⟩ => ?_
      · cases hm
        exact ⟨k, rfl, h⟩
      · cases hm
        rfl
    · refine Iff.intro (fun hm => by cases hm) fun ⟨_, hm, hn⟩ => ?_
      cases hm
      exact absurd hn h
  | _ => simp [Part.unsetSlot]

theorem unsetSlot_eq_none_iff (c : Condition) (p : Part) :
    p.unsetSlot c = none ↔ ∀ n k, c = .onEvent n k → (p.slot n).source ≠ .none := by
  simp only [Option.eq_none_iff_forall_ne_some, ne_eq, unsetSlot_eq_some_iff, not_exists, not_and]

theorem conditionStored_onEvent {c : RawCondition} {n k : Nat} (h : conditionStored c = .onEvent n k) : c = .onEvent n k := by
  cases c <;> cases h
  rfl

/-- The waiting form of a condition record that has passed its form check (R69). -/
theorem waitingForm_conditionStored (c : RawCondition) (p : Part) : p.waitingForm (conditionStored c) =
    match c with
    | .atTime t => .time t
    | .atAngle a f => .angle a f
    | .onEvent n k => .event n (((p.slot n).count + k) % 4294967296)
    | _ => .time p.clock.ticks := by
  cases c <;> rfl

/-- A group given a condition with its waiting form, its notice raised (R81). -/
def Part.groupArmed (g : Nat) (c : Condition) (w : Waiting) (p : Part) : Part :=
  (p.setGroup g { p.group g with armed := some (c, w) }).raise (.group g)

theorem armGroup_of_unmet {g : Nat} {c : Condition} {p : Part} (h : p.metAtArming (p.waitingForm c) = none) :
    p.armGroup g c = p.groupArmed g c (p.waitingForm c) := by
  simp only [Part.armGroup, h]
  rfl

theorem armGroup_of_met {g t : Nat} {c : Condition} {p : Part} (h : p.metAtArming (p.waitingForm c) = some t) :
    p.armGroup g c = settleAll (p.groupArmed g c (p.waitingForm c), [.startGroup g (p.waitingForm c)]) := by
  simp only [Part.armGroup, h]
  rfl

theorem groupArmed_groups (g : Nat) (c : Condition) (w : Waiting) (p : Part) :
    (p.groupArmed g c w).groups = p.groups.set g { p.group g with armed := some (c, w) } := raise_groups ..

/-- A group armed on a time that has come, with no member and nothing that waits for it, starts on the tick (R70, R82). -/
theorem settleAll_groupArmed {g t : Nat} {c : Condition} {p : Part} (hg : g < p.groups.length)
    (hprimed : ∀ k < 32, (p.channel k).state ≠ .primed) (hslots : p.slots.length = 16) (hu : p.Unwaited (.group g)) :
    settleAll (p.groupArmed g c (.time t), [.startGroup g (.time t)]) =
      (((p.groupArmed g c (.time t)).setGroup g ((p.group g).started p.stamp 0)).counted (.group g)).raise (.group g) := by
  let a := p.groupArmed g c (.time t)
  have hgroup : a.group g = { p.group g with armed := some (c, .time t) } := by
    rw [Part.group, groupArmed_groups, getD_set_of_lt hg, if_pos rfl]
  have hother {k : Nat} (hk : k ≠ g) : a.group k = p.group k := by
    rw [Part.group, groupArmed_groups, getD_set_of_lt hg, if_neg hk]
    rfl
  have hlen : g < a.groups.length := by
    rw [groupArmed_groups, List.length_set]
    exact hg
  have hchannel (k : Nat) : a.channel k = p.channel k := congrArg (List.getD · k Channel.atReset) (raise_channels ..)
  have hslot (n : Nat) : a.slot n = p.slot n := congrArg (List.getD · n EventSlot.atReset) (raise_slots ..)
  have hstamp : a.stamp = p.stamp := by simp [a, Part.groupArmed, Part.stamp]
  have hunwaited : (a.setGroup g { a.group g with armed := none }).Unwaited (.group g) :=
    hu.of_eq (raise_entries ..) (fun k c' w' hk => by
      rcases eq_or_ne k g with rfl | hne
      · rw [group_setGroup _ _ _ hlen] at hk
        cases hk
      · rwa [group_setGroup_ne hne, hother hne] at hk) fun n => congrArg EventSlot.source (hslot n)
  have hstart := leads_startGroup_of_none hlen (w := .time t) (congrArg Group.armed hgroup)
    (primedFor_of_none (fun k hk => by rw [hchannel]; exact hprimed k hk) g) ((congrArg List.length (raise_slots ..)).trans hslots)
    hunwaited
  rw [hstamp, hgroup] at hstart
  exact settleAll_of_leads hstart (by decide)

/-- GROUP_ARM's part of O37. -/
theorem groupArmed : Claims.GroupArmed := by
  intro tag g c s ht htag p run no badForm w armed unset
  have hw : p.waitingForm (conditionStored c) = w := waitingForm_conditionStored c p
  have hbad : (conditionFault c).isSome = true ↔ badForm := conditionFault_isSome_iff c
  have hrun : run = .next (if 7 < g then s.replied p tag (no .badField 1)
      else if (conditionFault c).isSome = true then s.replied p tag (no .badField 2)
      else if p.safe.isSome = true then s.replied p tag (no .safeHold 0)
      else if (p.group g).armed.isSome = true then s.replied p tag (no .busy 0)
      else if (p.unsetSlot (conditionStored c)).isSome = true then s.replied p tag
        (.refuse { code := .notConfigured, field := 2, position := 0, named := p.unsetSlot (conditionStored c) })
      else s.replied (p.armGroup g (conditionStored c)) tag
        (.ack (.group ((p.armGroup g (conditionStored c)).groupShown g)))) := by
    refine (request_verdict ht htag _).trans (congrArg Host.Outcome.next ?_)
    simp only [Part.armGroupChecks, after_checked_cons, checked_nil, after_ack, outside_eq_true, Nat.not_lt_zero, false_or,
      groupSnapshot_eq]
    rfl
  rw [hrun]
  refine ⟨fun hg => by rw [if_pos hg], fun hg hb => by rw [if_neg (by omega), if_pos (hbad.mpr hb)], fun hg hb => ?_⟩
  rw [if_neg (by omega), if_neg (mt hbad.mp hb)]
  refine ⟨fun hs => by rw [if_pos hs], fun hs ha => ?_, fun hs ha => ?_⟩
  · rw [if_neg (by simp [hs]), if_pos ha]
  rw [if_neg (by simp [hs]), if_neg (by simp [ha])]
  refine ⟨fun n k hc hn => ?_, fun hset hnot => ?_, fun t htime hmet hgroups hprimed hslots hu => ?_⟩
  · have hsome : p.unsetSlot (conditionStored c) = some n := (unsetSlot_eq_some_iff _ p n).mpr ⟨k, by rw [hc]; rfl, hn⟩
    rw [hsome]
    rfl
  · have hnone : p.unsetSlot (conditionStored c) = none := (unsetSlot_eq_none_iff _ p).mpr fun n k hc hn =>
      hset ⟨n, k, conditionStored_onEvent hc, hn⟩
    rw [hnone, armGroup_of_unmet (by rw [hw]; exact metAtArming_of_unreached hnot), hw]
    rfl
  · have hnone : p.unsetSlot (conditionStored c) = none := (unsetSlot_eq_none_iff _ p).mpr fun n k hc => by
      have hevent := hw.symm.trans (congrArg (Part.waitingForm · p) hc)
      rw [htime] at hevent
      cases hevent
    have harm := armGroup_of_met (g := g) (c := conditionStored c) (p := p) (by rw [hw, htime]; exact metAtArming_of_reached hmet)
    rw [hw, htime, settleAll_groupArmed (by omega) hprimed hslots hu, ← htime] at harm
    rw [hnone, harm]
    rfl

/-- GROUP_CANCEL's part of O37. -/
theorem groupCancelled : Claims.GroupCancelled := by
  intro tag g s ht htag p q shown
  have hcancel : p.cancelGroup g = if (p.group g).armed.isSome then q else p := rfl
  refine (request_verdict ht htag _).trans (congrArg Host.Outcome.next ?_)
  simp only [after_checked_cons, checked_nil, after_ack, outside_eq_true, Nat.not_lt_zero, false_or, groupSnapshot_eq]
  refine ite_congr rfl (fun _ => rfl) fun _ => ?_
  rw [show Part.cancelGroup g _ = _ from hcancel]
  split <;> rfl

/-- Settles O37: GROUP_ARM and GROUP_CANCEL. -/
theorem groupArmedAndCancelled : Obligations.GroupArmedAndCancelled := ⟨groupArmed, groupCancelled⟩

end Sys2Proof.Machine
end

section
/-! SUPPORT. What an occurrence brings about once its slots have counted it: the entries due, the groups met and the durations that
end (R72, R74, R75, R82, R137, R140). -/

namespace Sys2Proof.Machine

open Sys2Proof

/-! ### Lists picked from in order -/

theorem filterMap_eq_of_single {α β : Type} {f : α → Option β} {xs : List α} (hxs : xs.Nodup) {a : α} (ha : a ∈ xs)
    (h : ∀ x ∈ xs, x ≠ a → f x = none) : xs.filterMap f = (f a).toList := by
  induction xs with
  | nil => cases ha
  | cons x xs ih =>
    obtain ⟨hx, hrest⟩ := List.nodup_cons.mp hxs
    rw [List.filterMap_cons]
    rcases eq_or_ne x a with rfl | hne
    · have hnone : xs.filterMap f = [] := List.filterMap_eq_nil_iff.mpr fun y hy =>
        h y (List.mem_cons_of_mem _ hy) fun heq => hx (heq ▸ hy)
      rw [hnone]
      cases f x <;> rfl
    · rw [h x List.mem_cons_self hne]
      exact ih hrest ((List.mem_cons.mp ha).resolve_left hne.symm) fun y hy => h y (List.mem_cons_of_mem _ hy)

theorem filterMap_eq_of_pair {β : Type} {f : Nat → Option β} {xs : List Nat} (hxs : xs.Pairwise (· < ·)) {a b : Nat}
    (hab : a < b) (ha : a ∈ xs) (hb : b ∈ xs) (h : ∀ x ∈ xs, x ≠ a → x ≠ b → f x = none) :
    xs.filterMap f = (f a).toList ++ (f b).toList := by
  induction xs with
  | nil => cases ha
  | cons x xs ih =>
    obtain ⟨hx, hrest⟩ := List.pairwise_cons.mp hxs
    rw [List.filterMap_cons]
    rcases eq_or_ne x a with rfl | hne
    · have hone : xs.filterMap f = (f b).toList := filterMap_eq_of_single (hrest.imp fun h => Nat.ne_of_lt h)
        ((List.mem_cons.mp hb).resolve_left hab.ne') fun y hy hyb => h y (List.mem_cons_of_mem _ hy) (hx y hy).ne' hyb
      rw [hone]
      cases f x <;> rfl
    · have ha' : a ∈ xs := (List.mem_cons.mp ha).resolve_left hne.symm
      have hneb : x ≠ b := fun heq => absurd (hx a ha') (by omega)
      rw [h x List.mem_cons_self hne hneb]
      exact ih hrest ha' ((List.mem_cons.mp hb).resolve_left hneb.symm) fun y hy => h y (List.mem_cons_of_mem _ hy)

section
variable {o : Occurrence} {p : Part}

/-! ### An occurrence counted (R74, R75) -/

theorem mem_matching {n : Nat} : n ∈ p.matching o ↔ n < 16 ∧ (p.slot n).source.matchesOcc o = true := by
  simp [Part.matching, Config.eventSlots]

theorem countAll_eq_counted (h : p.slots.length = 16) : (p.matching o).foldl (fun v s => v.countOn o s) p = p.counted o :=
  foldl_slots (f := fun st x => { x with count := (x.count + 1) % 4294967296, last := some (st, o.origin) })
    (fun _ _ => rfl) (fun x => x.source.matchesOcc o) h

/-- An occurrence in two parts: counted, with its own entry's watch begun, and what the counts meet. -/
theorem occur_of_slots (h : p.slots.length = 16) :
    p.occur o = ((p.counted o).watchFrom o, (p.counted o).metTasks (p.matching o) none) := by
  unfold Part.occur
  simp only [countAll_eq_counted h]

theorem counted_slot {n : Nat} (h : n < p.slots.length) : (p.counted o).slot n = (p.slot n).seen o p.stamp := by
  simp [Part.counted, Part.slot, List.getD_eq_getElem?_getD, h]

theorem counted_count {n : Nat} (h : n < p.slots.length) (hm : (p.slot n).source.matchesOcc o = true) :
    ((p.counted o).slot n).count = ((p.slot n).count + 1) % 4294967296 := by
  rw [counted_slot h, EventSlot.seen, if_pos hm]

theorem counted_of_no_match (hlen : p.slots.length = 16) (h : ∀ n < 16, (p.slot n).source.matchesOcc o = false) :
    p.counted o = p := by
  have hslots : p.slots.map (EventSlot.seen o p.stamp) = p.slots := by
    refine (List.map_congr_left fun x hx => ?_).trans p.slots.map_id
    obtain ⟨n, hn, rfl⟩ := List.mem_iff_getElem.mp hx
    have hslot : p.slot n = p.slots[n] := by simp [Part.slot, List.getD_eq_getElem?_getD, hn]
    have hno := h n (hlen ▸ hn)
    rw [hslot] at hno
    exact if_neg (by simp [hno])
  unfold Part.counted
  rw [hslots]

theorem Part.Unwaited.counted (h : p.Unwaited o) : (p.counted o).Unwaited o :=
  h.of_eq rfl (fun _ _ _ hw => hw) (counted_source o p)

theorem counted_matching : (p.counted o).matching o = p.matching o := by
  unfold Part.matching
  simp only [counted_source]

theorem watchFrom_of_idle (h : ∀ e, o = .entry e .active → (p.entry e).state ≠ .active ∨ (p.entry e).endCause.isSome = true) :
    p.watchFrom o = p := by
  unfold Part.watchFrom
  split
  · rename_i e
    refine if_neg fun hboth => ?_
    rw [Bool.and_eq_true, decide_eq_true_eq, Option.isNone_iff_eq_none] at hboth
    obtain ⟨hs, hend⟩ := hboth
    rcases h e rfl with hidle | hended
    · exact hidle hs
    · rw [hend] at hended
      cases hended
  · rfl

theorem watchFrom_of_active {e : Nat} (hs : (p.entry e).state = .active) (hc : (p.entry e).endCause = none) :
    p.watchFrom (.entry e .active) = p.setEntry e { p.entry e with untilWatch := true } :=
  if_pos (by simp [hs, hc])

/-- The whole of an occurrence that nothing waits for, its own entry's included. -/
theorem leads_occur_watched (hlen : p.slots.length = 16) (h : p.Unwaited o) :
    Leads 1 [.occur o] p ((p.counted o).watchFrom o) := by
  refine .task rfl ?_
  show Leads 0 (p.occur o).2 (p.occur o).1 _
  rw [occur_of_unwaited h, occur_of_slots hlen]
  exact .nil _

/-- OccurrenceCounted of O34. -/
theorem occurrenceCounted : Claims.OccurrenceCounted := by
  intro o p hlen hu
  have hsettle := settleAll_of_leads (leads_occur_watched hlen hu) (by decide)
  refine ⟨fun h => ?_, fun e ho hs hc => ?_⟩
  · exact hsettle.trans (watchFrom_of_idle h)
  · subst ho
    exact hsettle.trans (watchFrom_of_active hs hc)

/-! ### What the counts meet (R72, R137, R140) -/

/-- An occurrence brings the slot of a waiting form to its target. -/
def Part.Brings (o : Occurrence) (w : Waiting) (t : Nat) (p : Part) : Prop :=
  ∃ n < 16, w = .event n t ∧ (p.slot n).source.matchesOcc o = true ∧ t = ((p.slot n).count + 1) % 4294967296

theorem met_counted_iff (hlen : p.slots.length = 16) {w : Waiting} {t : Nat} :
    (p.counted o).met (p.matching o) none w = some t ↔ p.Brings o w t := by
  unfold Part.Brings
  cases w with
  | event n u =>
    have hcond : ((p.matching o).contains n && decide (((p.counted o).slot n).count = u)) = true ↔
        n < 16 ∧ (p.slot n).source.matchesOcc o = true ∧ ((p.slot n).count + 1) % 4294967296 = u := by
      rw [Bool.and_eq_true, List.contains_iff_mem, mem_matching, decide_eq_true_iff, and_assoc]
      refine and_congr_right fun hn => and_congr_right fun hm => ?_
      rw [counted_count (hlen ▸ hn) hm]
    have hmet : (p.counted o).met (p.matching o) none (.event n u) = some t ↔
        ((p.matching o).contains n && decide (((p.counted o).slot n).count = u)) = true ∧ u = t := by
      unfold Part.met
      simp
    rw [hmet, hcond]
    constructor
    · rintro ⟨⟨hn, hm, hu⟩, rfl⟩
      exact ⟨n, hn, rfl, hm, hu.symm⟩
    · rintro ⟨_, hn, hw, hm, ht⟩
      cases hw
      exact ⟨⟨hn, hm, ht.symm⟩, rfl⟩
  | _ => simp [Part.met]

theorem met_counted_eq_none (hlen : p.slots.length = 16) {w : Waiting} (h : ∀ t, ¬p.Brings o w t) :
    (p.counted o).met (p.matching o) none w = none :=
  Option.eq_none_iff_forall_ne_some.mpr fun t ht => h t ((met_counted_iff hlen).mp ht)

/-- The due of an entry, if an occurrence brings its form's slot to its target (R72). -/
def Part.dueBy (o : Occurrence) (p : Part) (e : Nat) : Option Task :=
  ((p.counted o).entryMet (p.matching o) none e).bind fun t => (p.entry e).waiting.map fun w => .due e w t

theorem dueBy_of_brings (hlen : p.slots.length = 16) {e t : Nat} {w : Waiting} (hs : (p.entry e).state = .armed)
    (hw : (p.entry e).waiting = some w) (h : p.Brings o w t) : p.dueBy o e = some (.due e w t) := by
  have hmet : (p.counted o).entryMet (p.matching o) none e = some t := by
    refine (if_pos hs).trans ?_
    show (p.entry e).waiting.bind _ = _
    rw [hw]
    exact (met_counted_iff hlen).mpr h
  rw [Part.dueBy, hmet, hw]
  rfl

theorem dueBy_of_quiet (hlen : p.slots.length = 16) {e : Nat}
    (h : (p.entry e).state = .armed → ∀ w t, (p.entry e).waiting = some w → ¬p.Brings o w t) : p.dueBy o e = none := by
  have hnone : (p.counted o).entryMet (p.matching o) none e = none := by
    unfold Part.entryMet
    split
    · rename_i hs
      show (p.entry e).waiting.bind _ = _
      cases hw : (p.entry e).waiting with
      | none => rfl
      | some w => exact met_counted_eq_none hlen fun t => h hs w t hw
    · rfl
  rw [Part.dueBy, hnone]
  rfl

/-- The start of a group, if an occurrence brings its form's slot to its target (R72, R82). -/
def Part.startBy (o : Occurrence) (p : Part) (g : Nat) : Option Task :=
  (p.group g).armed.bind fun a => ((p.counted o).met (p.matching o) none a.2).map fun _ => .startGroup g a.2

theorem startBy_of_quiet (hlen : p.slots.length = 16) {g : Nat} (h : ∀ c w t, (p.group g).armed = some (c, w) → ¬p.Brings o w t) :
    p.startBy o g = none := by
  unfold Part.startBy
  cases ha : (p.group g).armed with
  | none => rfl
  | some a => simp only [Option.bind_some, met_counted_eq_none hlen fun t => h a.1 a.2 t ha, Option.map_none]

/-- The entries whose duration an occurrence ends: ACTIVE, watching, and on a slot that counted it (R140). -/
def Part.watchedBy (o : Occurrence) (p : Part) (e : Nat) : Bool :=
  decide ((p.entry e).state = .active) && (p.entry e).untilWatch &&
    match (p.entry e).definition.map EntryDef.duration with
    | some (.untilEvent n) => (p.matching o).contains n
    | _ => false

theorem watchedBy_of_unwatched {e : Nat} (h : (p.entry e).untilWatch = false) : p.watchedBy o e = false := by
  simp [Part.watchedBy, h]

/-- All that a counted occurrence meets: the entries due, the groups started, the durations ended. -/
theorem metTasks_counted : (p.counted o).metTasks (p.matching o) none =
    (List.range 128).filterMap (p.dueBy o) ++ (List.range 8).filterMap (p.startBy o) ++
      ((List.range 128).filter (p.watchedBy o)).map fun e => .endUntil e (p.entry e).occurrences := by
  unfold Part.metTasks Part.dueTasks
  rfl

theorem startBy_of_brings (hlen : p.slots.length = 16) {g t : Nat} {c : Condition} {w : Waiting}
    (ha : (p.group g).armed = some (c, w)) (h : p.Brings o w t) : p.startBy o g = some (.startGroup g w) := by
  unfold Part.startBy
  rw [ha]
  simp only [Option.bind_some, (met_counted_iff hlen).mpr h, Option.map_some]

theorem filter_watchedBy_of_none (h : ∀ e < 128, (p.entry e).untilWatch = false) :
    (List.range 128).filter (p.watchedBy o) = [] :=
  List.filter_eq_nil_iff.mpr fun e he => by simp [watchedBy_of_unwatched (h e (List.mem_range.mp he))]

end

/-- EventMeetsGroup of O34: the one slot that counts the occurrence brings the one group to its target. -/
theorem eventMeetsGroup : Claims.EventMeetsGroup := by
  intro o n g c p target hlen hgroups hn hg hone hno hwatch harmed hentries hothers hprimed
  have hhit : p.Brings o (.event n target) target := ⟨n, hn, rfl, (hone n hn).mpr rfl, rfl⟩
  have hbrings {w : Waiting} {t : Nat} (h : p.Brings o w t) : w = .event n target := by
    obtain ⟨k, hk, rfl, hm, ht⟩ := h
    obtain rfl := (hone k hk).mp hm
    rw [ht]
  have hdue : (List.range 128).filterMap (p.dueBy o) = [] := List.filterMap_eq_nil_iff.mpr fun e he =>
    dueBy_of_quiet hlen fun _ w t hw h => (hentries e (List.mem_range.mp he)).1 (hw.trans (congrArg some (hbrings h)))
  have hstart : (List.range 8).filterMap (p.startBy o) = [.startGroup g (.event n target)] := by
    rw [filterMap_eq_of_single List.nodup_range (List.mem_range.mpr hg), startBy_of_brings hlen harmed hhit]
    · rfl
    · exact fun h hh hne => startBy_of_quiet hlen fun c' w t ha hw =>
        hothers h (List.mem_range.mp hh) hne c' (hbrings hw ▸ ha)
  have hoccur : p.occur o = (p.counted o, [.startGroup g (.event n target)]) := by
    rw [occur_of_slots hlen, watchFrom_of_idle (p := p.counted o) fun e he => .inl (hwatch e he), metTasks_counted, hdue, hstart,
      filter_watchedBy_of_none fun e he => (hentries e he).2]
    rfl
  have hlen' : (p.counted o).slots.length = 16 := by simp [Part.counted, hlen]
  have hno' (k : Nat) (hk : k < 16) : ((p.counted o).slot k).source.matchesOcc (.group g) = false := by
    rw [counted_source]
    exact hno k hk
  have hstarted := leads_startGroup_of_none (p := p.counted o) (hgroups ▸ hg) harmed (primedFor_of_none hprimed g) hlen'
    fun k hk hm => absurd ((hno' k hk).symm.trans hm) (by decide)
  have hstill (x : Group) : ((p.counted o).setGroup g x).counted (.group g) = (p.counted o).setGroup g x :=
    counted_of_no_match hlen' hno'
  rw [hstill] at hstarted
  refine settleAll_of_leads (n := 4 + 1) (.task rfl ?_) (by decide)
  show Leads 4 (p.occur o).2 (p.occur o).1 _
  rw [hoccur]
  exact hstarted

/-- EventMeetsEntries of O34: the entries whose targets the counts bring, and the duration that a count ends. -/
theorem eventMeetsEntries : Claims.EventMeetsEntries := by
  intro o p hlen hwatch hgroups hit due quiet
  have hoccur : p.occur o = (p.counted o, (List.range 128).filterMap (p.dueBy o) ++
      ((List.range 128).filter (p.watchedBy o)).map fun e => .endUntil e (p.entry e).occurrences) := by
    have hstart : (List.range 8).filterMap (p.startBy o) = [] := List.filterMap_eq_nil_iff.mpr fun g hg =>
      startBy_of_quiet hlen fun c w t ha h => by
        obtain ⟨n, hn, rfl, hm, -⟩ := h
        exact hgroups g (List.mem_range.mp hg) n hn c t hm ha
    rw [occur_of_slots hlen, watchFrom_of_idle (p := p.counted o) fun e he => absurd he (hwatch e), metTasks_counted, hstart, List.append_nil]
  have hdue {e n t : Nat} (h : due e n t) : p.dueBy o e = some (.due e (.event n t) t) := by
    obtain ⟨-, hs, hw, ⟨hn, hm⟩, ht⟩ := h
    exact dueBy_of_brings hlen hs hw ⟨n, hn, rfl, hm, ht⟩
  have hquiet {k : Nat} (h : quiet k) : p.dueBy o k = none := dueBy_of_quiet hlen fun hs w t hw hb => by
    obtain ⟨n, hn, rfl, hm, ht⟩ := hb
    exact h hs n t hw ⟨hn, hm⟩ ht
  refine ⟨fun e n t he hq hnone => ?_, fun e f n m t u hlt he hf hq hnone => ?_, fun e d n he hn hs hu hd hdur hq hnone => ?_⟩
  · rw [hoccur, filter_watchedBy_of_none hnone, filterMap_eq_of_single List.nodup_range (List.mem_range.mpr he.1), hdue he]
    · rfl
    · exact fun k hk hne => hquiet (hq k (List.mem_range.mp hk) hne)
  · rw [hoccur, filter_watchedBy_of_none hnone, filterMap_eq_of_pair List.pairwise_lt_range hlt (List.mem_range.mpr he.1)
      (List.mem_range.mpr hf.1), hdue he, hdue hf]
    · rfl
    · exact fun k hk hke hkf => hquiet (hq k (List.mem_range.mp hk) hke hkf)
  · have hdues : (List.range 128).filterMap (p.dueBy o) = [] := List.filterMap_eq_nil_iff.mpr fun k hk =>
      hquiet (hq k (List.mem_range.mp hk))
    have hhit : p.watchedBy o e = true := by
      simp only [Part.watchedBy, hs, hu, hd, Option.map_some, hdur, decide_true, Bool.true_and]
      exact List.contains_iff_mem.mpr (mem_matching.mpr hn)
    have hends : (List.range 128).filter (p.watchedBy o) = [e] := by
      rw [← List.filterMap_eq_filter, filterMap_eq_of_single List.nodup_range (List.mem_range.mpr he)]
      · simp [hhit]
      · exact fun k hk hne => by simp [watchedBy_of_unwatched (hnone k (List.mem_range.mp hk) hne)]
    refine ⟨by rw [hoccur, hdues, hends]; rfl, if_pos ?_⟩
    show ((p.entry e).untilWatch && decide ((p.entry e).occurrences = (p.entry e).occurrences)) = true
    simp [hu]

/-- Settles O34: an occurrence counted on its slots, and the group and the entries it meets. -/
theorem occurrenceCountedAndMet : Obligations.OccurrenceCountedAndMet := ⟨occurrenceCounted, eventMeetsGroup, eventMeetsEntries⟩

end Sys2Proof.Machine
end

section
/-! SUPPORT. ENTRY_ARM: its checks in order, and its effect (R69, R70, R131). -/

namespace Sys2Proof.Machine

open Sys2Proof

/-! ### Checks -/

theorem checked_append (as bs : List (Bool × Refused)) (v : Verdict) : checked (as ++ bs) v = checked as (checked bs v) := by
  induction as with
  | nil => rfl
  | cons a as ih =>
    obtain ⟨b, r⟩ := a
    rw [List.cons_append, checked_cons, checked_cons, ih]

theorem lowest_filter {f : Nat → Bool} {xs : List Nat} {n : Nat} (hn : n ∈ xs) (hf : f n = true)
    (h : ∀ k ∈ xs, k < n → f k = false) : lowest (xs.filter f) = some n :=
  List.min?_eq_some_iff.mpr ⟨List.mem_filter.mpr ⟨hn, hf⟩, fun k hk => by
    obtain ⟨hmem, hfk⟩ := List.mem_filter.mp hk
    by_contra hlt
    rw [h k hmem (by omega)] at hfk
    cases hfk⟩

theorem isUnfit_iff (st : LineState) : st.isUnfit = true ↔ st = .broken ∨ ∃ b, st = .isolated b := by
  cases st <;> simp [LineState.isUnfit]

section
variable {d : Electrical} {p : Part} {v : Verdict}

/-! ### The matrix's checks (R131) -/

theorem checked_armMatrix_readying (h : p.matrix.state = .readying) :
    checked (p.armMatrixChecks d) v = .refuse (refusal .notReady) := by
  simp [Part.armMatrixChecks, h]

theorem checked_armMatrix_lockout (h : p.matrix.state = .lockout) :
    checked (p.armMatrixChecks d) v = .refuse (refusal .locked) := by
  simp [Part.armMatrixChecks, h]

/-- The lowest BROKEN or ISOLATED line is named. -/
theorem checked_armMatrix_unusable (h : p.matrix.state = .ready) {l : Nat} (hl : l ∈ d.lines)
    (hu : (p.line l).state.isUnfit = true) (hlow : ∀ k ∈ d.lines, k < l → (p.line k).state.isUnfit = false) :
    checked (p.armMatrixChecks d) v = .refuse (naming .lineUnusable (some l)) := by
  have hlowest : lowest (p.unusableLines d) = some l := lowest_filter hl hu hlow
  have hsome : (p.unusableLines d).isEmpty = false := by
    rw [List.isEmpty_eq_false_iff_exists_mem]
    exact ⟨l, List.mem_filter.mpr ⟨hl, hu⟩⟩
  simp [Part.armMatrixChecks, h, hlowest, hsome]

/-- With every line usable, the lowest with a WORN cell that the entry needs is named. -/
theorem checked_armMatrix_worn (h : p.matrix.state = .ready) (hu : ∀ k ∈ d.lines, (p.line k).state.isUnfit = false) {l : Nat}
    (hl : l ∈ d.lines) (hw : (d.neededCells.any fun c => (p.cell l c).worn) = true)
    (hlow : ∀ k ∈ d.lines, k < l → (d.neededCells.any fun c => (p.cell k c).worn) = false) :
    checked (p.armMatrixChecks d) v = .refuse (naming .cellWorn (some l)) := by
  have husable : p.unusableLines d = [] := List.filter_eq_nil_iff.mpr fun k hk => by simp [hu k hk]
  have hlowest : lowest (p.wornLines d) = some l := lowest_filter hl hw hlow
  have hsome : (p.wornLines d).isEmpty = false := by
    rw [List.isEmpty_eq_false_iff_exists_mem]
    exact ⟨l, List.mem_filter.mpr ⟨hl, hw⟩⟩
  simp [Part.armMatrixChecks, h, husable, hlowest, hsome]

theorem checked_armMatrix_pass (h : p.matrix.state = .ready) (hu : ∀ k ∈ d.lines, (p.line k).state.isUnfit = false)
    (hw : ∀ k ∈ d.lines, (d.neededCells.any fun c => (p.cell k c).worn) = false) :
    checked (p.armMatrixChecks d) v = v := by
  have husable : p.unusableLines d = [] := List.filter_eq_nil_iff.mpr fun k hk => by simp [hu k hk]
  have hsound : p.wornLines d = [] := List.filter_eq_nil_iff.mpr fun k hk => by simp [hw k hk]
  simp [Part.armMatrixChecks, h, husable, hsound]

end

/-! ### The slots an entry waits on (R131) -/

section
variable {d : EntryDef} {p : Part} {n : Nat}

theorem unsetEntrySlot_of_condition (h : p.unsetSlot d.condition = some n) : p.unsetEntrySlot d = some n := by
  simp only [Part.unsetEntrySlot, h]

theorem unsetEntrySlot_of_duration (h : p.unsetSlot d.condition = none) (hd : d.duration = .untilEvent n)
    (hn : (p.slot n).source = .none) : p.unsetEntrySlot d = some n := by
  simp only [Part.unsetEntrySlot, h, hd, if_pos hn]

theorem unsetEntrySlot_eq_none (h : p.unsetSlot d.condition = none)
    (hd : ∀ n, d.duration = .untilEvent n → (p.slot n).source ≠ .none) : p.unsetEntrySlot d = none := by
  simp only [Part.unsetEntrySlot, h]
  cases hdur : d.duration with
  | untilEvent n => exact if_neg (hd n hdur)
  | _ => rfl

end

/-! ### ENTRY_ARM's effect (R69, R70, R131) -/

theorem enterEntry_of_ne {e : Nat} {st : EntryState} {p : Part} (h : (p.entry e).state ≠ st) (x : Entry) :
    p.enterEntry e st x = (p.setEntry e { x with state := st }).raise (.entry e) := if_neg h

theorem enterEntry_of_eq {e : Nat} {st : EntryState} {p : Part} (h : (p.entry e).state = st) (x : Entry) :
    p.enterEntry e st x = p.setEntry e { x with state := st } := if_pos h

/-- An entry ARMED on a waiting form with its repeats (R131). -/
def Entry.armedOn (w : Waiting) (d : EntryDef) (x : Entry) : Entry :=
  { x with
    state := .armed, waiting := some w, occurrences := 0, repeatsRemaining := d.repeatCount.getD 0
    endCause := none, duePoint := none, deadline := none }

/-- A part with an entry so ARMED, its notice raised. -/
def Part.entryArmed (e : Nat) (w : Waiting) (d : EntryDef) (p : Part) : Part :=
  (p.setEntry e ((p.entry e).armedOn w d)).raise (.entry e)

section
variable {e : Nat} {d : EntryDef} {p : Part}

theorem armEntry_of_unmet (hd : (p.entry e).definition = some d) (hs : (p.entry e).state ≠ .armed)
    (h : p.metAtArming (p.waitingForm d.condition) = none) : p.armEntry e = p.entryArmed e (p.waitingForm d.condition) d := by
  simp only [Part.armEntry, Part.entryArmed, Entry.armedOn, hd, h, enterEntry_of_ne hs]

theorem armEntry_of_met (hd : (p.entry e).definition = some d) (hs : (p.entry e).state ≠ .armed) {t : Nat}
    (h : p.metAtArming (p.waitingForm d.condition) = some t) :
    p.armEntry e = settleAll (p.entryArmed e (p.waitingForm d.condition) d, [.due e (p.waitingForm d.condition) t]) := by
  simp only [Part.armEntry, Part.entryArmed, Entry.armedOn, hd, h, enterEntry_of_ne hs]

end

theorem waitingForm_eq (c : Condition) (p : Part) : p.waitingForm c =
    match c with
    | .now => .time p.clock.ticks
    | .atTime t => .time t
    | .atAngle a f => .angle a f
    | .onEvent n k => .event n (((p.slot n).count + k) % 4294967296) := by
  cases c <;> rfl

/-- ENTRY_ARM's part of O52. -/
theorem entryArmed : Claims.EntryArmed := by
  intro tag e s ht htag p x run no busy
  let rest : Verdict := checked
    ((match x.electrical? with
      | some d => p.armMatrixChecks d
      | none => []) ++
    (match x.definition with
      | some d => [((p.unsetEntrySlot d).isSome, naming .notConfigured (p.unsetEntrySlot d))]
      | none => []))
    (.ack (.entry ((p.armEntry e).entrySnapshot e)) (p.armEntry e))
  have hrun : run = .next (if 127 < e then no .badField 1 none else if x.state = .empty then no .notConfigured 0 none
      else if busy then no .busy 0 none else if p.safe.isSome = true then no .safeHold 0 none else rest.after s p tag) := by
    refine (request_verdict ht htag _).trans (congrArg Host.Outcome.next ?_)
    simp only [Part.armChecks, List.cons_append, List.nil_append, after_checked_cons, outside_eq_true,
      Nat.not_lt_zero, false_or, decide_eq_true_eq]
    rfl
  rw [hrun]
  refine ⟨fun he => by rw [if_pos he], fun he hx => by rw [if_neg (by omega), if_pos hx], fun he hb => ?_,
    fun he hx hb hs => by rw [if_neg (by omega), if_neg hx, if_neg hb, if_pos hs], fun he hx hb hs => ?_⟩
  · have hx : x.state ≠ .empty := by
      intro h
      simp [busy, h] at hb
    rw [if_neg (by omega), if_neg hx, if_pos hb]
  rw [if_neg (by omega), if_neg hx, if_neg hb, if_neg (by simp [hs])]
  have hstate : x.state ≠ .armed := fun h => hb (.inl h)
  refine ⟨fun d hd => ?_, fun d hd hmatrix => ?_⟩
  · have hrest {r : Refused} (h : ∀ v, checked (p.armMatrixChecks d) v = .refuse r) : rest = .refuse r := by
      simp only [rest, hd, checked_append]
      exact h _
    refine ⟨fun h => by rw [hrest fun _ => checked_armMatrix_readying h]; rfl,
      fun h => by rw [hrest fun _ => checked_armMatrix_lockout h]; rfl, fun h l hl => ?_⟩
    intro unusable worn
    have hunusable (k : Nat) : (p.line k).state.isUnfit = true ↔ unusable k := isUnfit_iff _
    have hworn (k : Nat) : (d.neededCells.any fun c => (p.cell k c).worn) = true ↔ worn k := List.any_eq_true
    refine ⟨fun hu hlow => ?_, fun hu hw hlow => ?_⟩
    · rw [hrest fun _ => checked_armMatrix_unusable h hl ((hunusable l).mpr hu) fun k hk hlt =>
        Bool.eq_false_iff.mpr (mt (hunusable k).mp (hlow k hk hlt))]
      rfl
    · rw [hrest fun _ => checked_armMatrix_worn h (fun k hk => Bool.eq_false_iff.mpr (mt (hunusable k).mp (hu k hk))) hl
        ((hworn l).mpr hw) fun k hk hlt => Bool.eq_false_iff.mpr (mt (hworn k).mp (hlow k hk hlt))]
      rfl
  · have hpass (v : Verdict) : checked (match x.electrical? with
        | some d => p.armMatrixChecks d
        | none => []) v = v := by
      cases hx : x.electrical? with
      | none => rfl
      | some k =>
        obtain ⟨hready, hlines⟩ := hmatrix k hx
        refine checked_armMatrix_pass hready (fun l hl => Bool.eq_false_iff.mpr fun hu => ?_) fun l hl => ?_
        · obtain ⟨hbroken, hisolated, -⟩ := hlines l hl
          exact ((isUnfit_iff _).mp hu).elim hbroken fun ⟨b, h⟩ => hisolated b h
        · obtain ⟨-, -, hunworn⟩ := hlines l hl
          exact List.any_eq_false.mpr fun c hc => by simp [hunworn c hc]
    have hrest : rest = if (p.unsetEntrySlot d).isSome = true then .refuse (naming .notConfigured (p.unsetEntrySlot d))
        else .ack (.entry ((p.armEntry e).entryShown e)) (p.armEntry e) := by
      simp only [rest, checked_append, hpass, hd, checked_cons, checked_nil, entrySnapshot_eq]
    have hslot {n : Nat} (h : p.unsetEntrySlot d = some n) : rest.after s p tag = no .notConfigured 0 (some n) := by
      rw [hrest, h]
      rfl
    refine ⟨fun n k hc hn => ?_, fun hset => ?_⟩
    · rw [hslot (unsetEntrySlot_of_condition ((unsetSlot_eq_some_iff _ p n).mpr ⟨k, hc, hn⟩))]
    have hcond : p.unsetSlot d.condition = none := (unsetSlot_eq_none_iff _ p).mpr hset
    refine ⟨fun n hdur hn => by rw [hslot (unsetEntrySlot_of_duration hcond hdur hn)], fun hdur => ?_⟩
    intro w q answered
    have hw : p.waitingForm d.condition = w := waitingForm_eq d.condition p
    have haccept : rest.after s p tag = s.replied (p.armEntry e) tag (.ack (.entry ((p.armEntry e).entryShown e))) := by
      rw [hrest, unsetEntrySlot_eq_none hcond hdur]
      rfl
    have hanswered {v : Part} (h : p.armEntry e = v) : answered v := by
      show Host.Outcome.next (rest.after s p tag) = _
      rw [haccept, h]
    refine ⟨fun h => hanswered ?_, fun t htime hmet => hanswered ?_⟩
    · rw [armEntry_of_unmet hd hstate (by rw [hw]; exact metAtArming_of_unreached h), hw]
      rfl
    · rw [armEntry_of_met hd hstate (by rw [hw, htime]; exact metAtArming_of_reached hmet), hw]
      rfl

end Sys2Proof.Machine
end

section
/-! SUPPORT. ENTRY_DISARM, by the entry's state (R114, R132, R143, R144). -/

namespace Sys2Proof.Machine

open Sys2Proof

section
variable {e : Nat} {p q : Part}

/-! ### Reading after a write -/

theorem eq_of_bare (h : q.bare = p.bare) :
    q = { p with entries := q.entries, matrix := { p.matrix with lines := q.matrix.lines } } :=
  congrArg (fun v : Part => { v with entries := q.entries, matrix := { v.matrix with lines := q.matrix.lines } }) h

/-- An entry read after one is written: the one written, or one that stands as it was. -/
theorem entry_setEntry_cases (e k : Nat) (x : Entry) (p : Part) :
    k = e ∧ (p.setEntry e x).entry k = x ∨ (p.setEntry e x).entry k = p.entry k := by
  rcases eq_or_ne k e with rfl | hne
  · rcases Nat.lt_or_ge k p.entries.length with hlt | hge
    · exact .inl ⟨rfl, entry_setEntry k x p hlt⟩
    · right
      rw [Part.setEntry, List.set_eq_of_length_le hge]
  · exact .inr (entry_setEntry_ne hne x p)

/-- An entry written without a new wait leaves an occurrence unwaited for. -/
theorem Part.Unwaited.setEntry {o : Occurrence} (h : p.Unwaited o) {x : Entry}
    (hw : x.waiting = none ∨ x.waiting = (p.entry e).waiting) (hu : x.untilWatch = (p.entry e).untilWatch) :
    (p.setEntry e x).Unwaited o := by
  intro n hn hmatch
  refine ⟨fun k hk t => ?_, (h n hn hmatch).2⟩
  obtain ⟨hform, hwatch⟩ := (h n hn hmatch).1 k hk t
  rcases entry_setEntry_cases e k x p with ⟨rfl, heq⟩ | heq
  · rw [heq, hu]
    refine ⟨?_, hwatch⟩
    rcases hw with hw | hw
    · simp [hw]
    · rwa [hw]
  · rw [heq]
    exact ⟨hform, hwatch⟩

theorem recordCause_of_none (h : (p.entry e).endCause = none) (cause : EndCause) :
    p.recordCause e cause = p.setEntry e { p.entry e with endCause := some cause } := by
  rw [recordCause_eq, h]
  rfl

/-! ### A piece of work done ahead (log entry 11) -/

/-- Work done ahead of the cascade comes to what it comes to within it, where it ends within the bound. -/
theorem settleAll_doTask {n : Nat} {t : Task} (ht : t.dueEntry = none) (h : Leads n (p.doTask t).2 (p.doTask t).1 q)
    (hn : n + 1 ≤ taskLimit) : settleAll (p.doTask t) = settleAll (p, [t]) :=
  (settleAll_of_leads h (by omega)).trans (settleAll_of_leads (.task ht h) hn).symm

/-! ### A release begun by the end of an ACTIVE entry (R110, R143) -/

section
variable {d : Electrical} {cause : EndCause}

theorem recordCause_heldLines (k : Nat) (d' : Electrical) : (p.recordCause e cause).heldLines k d' = p.heldLines k d' := by
  rw [recordCause_eq]
  rfl

/-- A release read with its cause recorded before it. -/
theorem releasing_of_recordCause {fast : Bool} {c : EndCause} (he : e < p.entries.length)
    (h : (p.recordCause e cause).Releasing fast e d c q) : p.Releasing fast e d c q := by
  obtain ⟨hopens, hcloses⟩ := h
  rw [recordCause_eq] at hopens hcloses
  rw [entry_setEntry e _ p he] at hopens hcloses
  exact ⟨hopens, hcloses⟩

theorem endActive_of_electrical (hd : (p.entry e).electrical? = some d) (hs : (p.entry e).state = .active)
    (hc : (p.entry e).endCause = none) : p.endActive e cause = (p.recordCause e cause).beginRelease e false := by
  unfold Part.endActive
  simp only [hs, hc, electrical_iff.mp hd]

/-- An ACTIVE ELECTRICAL entry that ends with something to command begins its verified release. -/
theorem endActive_releaseBegun (hd : (p.entry e).electrical? = some d) (hs : (p.entry e).state = .active)
    (hc : (p.entry e).endCause = none) (hyes : p.HasToRelease e d) :
    p.ReleaseBegun e d cause (settleAll (p.endActive e cause)) := by
  have he : e < p.entries.length := lt_of_electrical hd
  let r := p.recordCause e cause
  have hset : r = p.setEntry e { p.entry e with endCause := some cause } := recordCause_of_none hc cause
  have hentry : r.entry e = { p.entry e with endCause := some cause } := by rw [hset, entry_setEntry e _ p he]
  have hdr : (r.entry e).electrical? = some d := by rw [hentry]; exact hd
  have hyesr : r.HasToRelease e d := by rw [hset]; exact hyes
  have hsettle : settleAll (p.endActive e cause) = (r.beginRelease e false).1 := by
    rw [endActive_of_electrical hd hs hc, ← Prod.mk.eta (p := r.beginRelease e false),
      beginRelease_of_something hdr false hyesr, settleAll_nil]
  have htouch := touches_beginRelease hdr (by rw [hentry]; simp [hs]) false
  have hlines := rewires_beginRelease hdr false
  rw [hsettle]
  refine ⟨releasing_of_recordCause he (beginRelease_releasing hdr (by rw [hset]; simpa using he) false (by rw [hentry])),
    fun _ => ⟨fun k hk => ?_, fun l hl => ?_, ?_⟩⟩
  · rw [htouch.entry k hk, hset, entry_setEntry_ne hk]
  · rw [hlines.line l (by rwa [recordCause_heldLines]), hset]
    rfl
  · have hbare : (r.beginRelease e false).1.bare = (p.raise (.entry e)).bare := by
      rw [beginRelease_bare (by rw [hentry]; simp [hs]), recordCause_bare, raise_bare]
    have hraised := eq_of_bare hbare
    rw [raise_eq_link] at hraised
    exact hraised

end

/-! ### A signal ended (R139, R143, R144) -/

/-- An ACTIVE signal ended ahead of the cascade, as `SignalEnded` describes it. -/
theorem settleAll_endActive_signalEnded {c : Nat} {f : SigFault} {cause : EndCause} (hsig : (p.entry e).signal? = some (c, f))
    (hs : (p.entry e).state = .active) (hc : (p.entry e).endCause = none) :
    p.SignalEnded e c cause (settleAll (p.endActive e cause)) := by
  intro hlast hm hlen hslots hblocked hu
  have he : e < p.entries.length := entry_lt (defined_of_signal hsig)
  let r := p.setEntry e { p.entry e with endCause := some cause }
  have hend : p.endActive e cause = r.endSignal e c f := by
    unfold Part.endActive
    simp only [hs, hc, signal_iff.mp hsig, recordCause_of_none hc cause, r]
  have hentry : r.entry e = { p.entry e with endCause := some cause } := entry_setEntry e _ p he
  have hunblocked (k : Nat) : (r.entry k).state ≠ .blocked := by
    rcases entry_setEntry_cases e k { p.entry e with endCause := some cause } p with ⟨rfl, hk⟩ | hk
    · rw [show r.entry k = _ from hk, hs]
      decide
    · rw [show r.entry k = _ from hk]
      rcases Nat.lt_or_ge k 128 with hlt | hge
      · exact hblocked k hlt
      · rw [entry_of_le (hlen ▸ hge)]
        decide
  have hleads : Leads 2 (p.endActive e cause).2 (p.endActive e cause).1 (r.signalSettled e c f cause) := by
    rw [hend]
    exact leads_endSignal (by rw [hentry]) (by rw [hentry]; exact defined_of_signal hsig) (by rw [hentry]; exact hlast) hm hslots
      hunblocked (hu.setEntry (.inr rfl) rfl)
  have hahead : settleAll (p.endActive e cause) = settleAll (p, [.endActive e cause]) :=
    settleAll_doTask (t := .endActive e cause) rfl hleads (by decide)
  rw [hahead]
  exact endActive_signalEnded hsig hs hc hlast hm hlen hslots hblocked hu

/-! ### ENTRY_DISARM by the entry's state (R132) -/

theorem entry_lt_of_state (h : (p.entry e).state ≠ .empty) : e < p.entries.length := by
  by_contra hge
  exact h (by rw [entry_of_le (by omega)]; rfl)

theorem disarmEntry_of_idle
    (h : (p.entry e).state = .loaded ∨ (p.entry e).state = .releasing ∨ (p.entry e).state = .done ∨ (p.entry e).state = .aborted) :
    p.disarmEntry e = p := by
  unfold Part.disarmEntry
  rcases h with h | h | h | h <;> simp only [h]

theorem disarmEntry_of_armed (h : (p.entry e).state = .armed) :
    p.disarmEntry e = (p.setEntry e { p.entry e with state := .loaded, waiting := none }).raise (.entry e) := by
  unfold Part.disarmEntry
  simp only [h]
  exact enterEntry_of_ne (by rw [h]; decide) _

theorem disarmEntry_of_inserting (h : (p.entry e).state = .inserting) :
    p.disarmEntry e = p.setEntry e { p.entry e with
      endCause := some ((p.entry e).endCause.getD .disarmed)
      seq := (p.entry e).seq.map fun y => { y with disarmed := true } } := by
  have he : e < p.entries.length := entry_lt_of_state (by rw [h]; decide)
  unfold Part.disarmEntry
  simp only [h, recordCause_eq, entry_setEntry e _ p he, setEntry_setEntry]

theorem disarmEntry_of_blocked (h : (p.entry e).state = .blocked) (hc : (p.entry e).endCause = none)
    (hd : (p.entry e).definition ≠ none) :
    p.disarmEntry e =
      (p.setEntry e ((p.entry e).ended .loaded none (p.entry e).repeatsRemaining p.clock.rigTime .disarmed)).raise (.entry e) := by
  have he : e < p.entries.length := entry_lt hd
  unfold Part.disarmEntry
  simp only [h, recordCause_of_none hc]
  rw [finish_of_last (cause := .disarmed) (by rw [entry_setEntry e _ p he]) (by rw [entry_setEntry e _ p he]; exact hd) (by simp)
    (by decide), settleAll_nil, enterEntry_of_ne (by rw [entry_setEntry e _ p he]; exact nofun), entry_setEntry e _ p he,
    setEntry_setEntry]
  rfl

theorem disarmEntry_of_active (h : (p.entry e).state = .active) : p.disarmEntry e = settleAll (p.endActive e .disarmed) := by
  unfold Part.disarmEntry
  simp only [h]

end

/-- ENTRY_DISARM's part of O52. -/
theorem entryDisarmed : Claims.EntryDisarmed := by
  intro tag e s ht htag p x run no ok
  have hrun : run = .next (if 127 < e then no .badField 1 else if x.state = .empty then no .notConfigured 0
      else s.replied (p.disarmEntry e) tag (.ack (.entry ((p.disarmEntry e).entryShown e)))) := by
    refine (request_verdict ht htag _).trans (congrArg Host.Outcome.next ?_)
    simp only [after_checked_cons, checked_nil, after_ack, outside_eq_true, Nat.not_lt_zero, false_or, decide_eq_true_eq,
      entrySnapshot_eq]
    rfl
  refine ⟨fun he => by rw [hrun, if_pos he], fun he => ?_⟩
  have hok {q : Part} (hx : x.state ≠ .empty) (h : p.disarmEntry e = q) : run = ok q := by
    rw [hrun, if_neg (by omega), if_neg hx, h]
  refine ⟨fun hx => by rw [hrun, if_neg (by omega), if_pos hx], fun hx => ?_, fun hx => ?_, fun hx => ?_, fun hx hc hd => ?_,
    fun d hx hd hc hyes => ?_, fun c f hx hf hc => ?_⟩
  · exact hok (by rcases hx with h | h | h | h <;> rw [h] <;> decide) (disarmEntry_of_idle hx)
  · exact hok (by rw [hx]; decide) (disarmEntry_of_armed hx)
  · exact hok (by rw [hx]; decide) (disarmEntry_of_inserting hx)
  · have hended : (p.setEntry e (x.ended .loaded none x.repeatsRemaining p.clock.rigTime .disarmed)).raise (.entry e) = _ :=
      congrArg (fun c => (p.setEntry e { x.ended .loaded none x.repeatsRemaining p.clock.rigTime .disarmed with
        endCause := c }).raise (.entry e)) hc.symm
    exact hok (by rw [hx]; decide) ((disarmEntry_of_blocked hx hc (Option.isSome_iff_ne_none.mp hd)).trans hended)
  · refine ⟨_, hok (by rw [hx]; decide) (disarmEntry_of_active hx), endActive_releaseBegun hd hx hc ?_⟩
    obtain ⟨l, hl, hheld, hcells⟩ := hyes
    have hmem : l ∈ p.heldLines e d := List.mem_filter.mpr ⟨hl, decide_eq_true hheld⟩
    rcases hcells with hopen | ⟨c, hc', hclosed⟩
    · obtain ⟨ls, hls, -, hiff⟩ := releaseCloses_eq_map e d p
      exact .inr fun hnil => List.not_mem_nil (List.map_eq_nil_iff.mp (hls.symm.trans hnil) ▸ (hiff l).mpr ⟨hmem, hopen⟩)
    · obtain ⟨ls, hls, -, hiff⟩ := releaseOpens_eq_map (e := e) (p := p) (Option.mem_def.mp hc')
      exact .inl fun hnil => List.not_mem_nil (List.map_eq_nil_iff.mp (hls.symm.trans hnil) ▸ (hiff l).mpr ⟨hmem, hclosed⟩)
  · exact ⟨_, hok (by rw [hx]; decide) (disarmEntry_of_active hx), settleAll_endActive_signalEnded hf hx hc⟩

/-- Settles O52: ENTRY_ARM and ENTRY_DISARM. -/
theorem entryArmedAndDisarmed : Obligations.EntryArmedAndDisarmed := ⟨entryArmed, entryDisarmed⟩

end Sys2Proof.Machine
end

section
/-! SUPPORT. The order in which the work of a tick is taken: all other work before the dues, and the dues by entry number (R70, R137). -/

namespace Sys2Proof.Machine

open Sys2Proof

/-! ### The work taken next -/

theorem runTasks_of_next {ts rest : List Task} {t : Task} {p : Part} (h : p.nextTask ts = some (t, rest)) (n : Nat) :
    runTasks (n + 1) ts p = runTasks n ((p.doTask t).2 ++ rest) (p.doTask t).1 := by
  simp only [runTasks, h]

theorem dueEntry_eq_none_iff (t : Task) : t.dueEntry = none ↔ ¬∃ e w point, t = .due e w point := by
  cases t <;> simp [Task.dueEntry]

/-- Dues stand back for the first piece of work that is none. -/
theorem firstWork_behind_dues {front : List Task} {t : Task} (hfront : ∀ x ∈ front, ∃ e w point, x = .due e w point)
    (ht : t.dueEntry = none) (back : List Task) : firstWork (front ++ t :: back) = some (t, front ++ back) := by
  induction front with
  | nil => simp [firstWork, ht]
  | cons x front ih =>
    obtain ⟨e, w, point, rfl⟩ := hfront x List.mem_cons_self
    simp [firstWork, Task.dueEntry, ih fun y hy => hfront y (List.mem_cons_of_mem _ hy)]

theorem firstWork_of_dues {ts : List Task} (h : ∀ x ∈ ts, ∃ e w point, x = .due e w point) : firstWork ts = none := by
  induction ts with
  | nil => rfl
  | cons x ts ih =>
    obtain ⟨e, w, point, rfl⟩ := h x List.mem_cons_self
    simp [firstWork, Task.dueEntry, ih fun y hy => h y (List.mem_cons_of_mem _ hy)]

theorem lowestDue_cons_of_none {ts : List Task} (h : lowestDue ts = none) (t : Task) : lowestDue (t :: ts) = some (t, ts) := by
  simp only [lowestDue, h]

theorem lowestDue_cons_of_some {ts : List Task} {r : Task × List Task} (h : lowestDue ts = some r) (t : Task) :
    lowestDue (t :: ts) = if t.dueEntry.getD 0 ≤ r.1.dueEntry.getD 0 then some (t, ts) else some (r.1, t :: r.2) := by
  simp only [lowestDue, h]

/-- Of several dues the lowest entry's is taken, the first of them where two are of one entry. -/
theorem lowestDue_of_least {front back : List Task} {e point : Nat} {w : Waiting}
    (hdues : ∀ x ∈ front ++ back, ∃ k v b, x = .due k v b) (hfront : ∀ k v b, Task.due k v b ∈ front → e < k)
    (hback : ∀ k v b, Task.due k v b ∈ back → e ≤ k) :
    lowestDue (front ++ .due e w point :: back) = some (.due e w point, front ++ back) := by
  induction front with
  | nil =>
    cases hlow : lowestDue back with
    | none => exact lowestDue_cons_of_none hlow _
    | some r =>
      obtain ⟨k, v, b, hr⟩ := hdues r.1 (lowestDue_mem hlow).1
      refine (lowestDue_cons_of_some hlow _).trans (if_pos ?_)
      rw [hr]
      exact hback k v b (hr ▸ (lowestDue_mem hlow).1)
  | cons x front ih =>
    obtain ⟨k, v, b, rfl⟩ := hdues x List.mem_cons_self
    have hrest := ih (fun y hy => hdues y (List.mem_cons_of_mem _ hy)) fun k v b h => hfront k v b (List.mem_cons_of_mem _ h)
    exact (lowestDue_cons_of_some hrest _).trans (if_neg (Nat.not_le.mpr (hfront k v b List.mem_cons_self)))

/-! ### Entries below whose time has come (R70, R137) -/

theorem entryTimeMet_of_noneBefore {e : Nat} {p : Part} (h : p.NoneBefore e) {k : Nat} (hk : k < e) : p.entryTimeMet k = none := by
  unfold Part.entryTimeMet
  split
  · rename_i t hs hw
    rw [if_neg]
    rw [Bool.not_eq_true, timeReached_eq_false_iff]
    exact h k hk hs t hw
  · rfl

theorem lowerDue_of_noneBefore {e : Nat} {p : Part} (h : p.NoneBefore e) : p.lowerDue e = none :=
  lowerDue_of_none fun _ hk => entryTimeMet_of_noneBefore h hk

theorem lowerDue_of_lowest {e k t : Nat} {p : Part} (hk : k < e) (h : p.NoneBefore k) (hs : (p.entry k).state = .armed)
    (hw : (p.entry k).waiting = some (.time t)) (ht : min t 281474976710655 ≤ p.clock.rigTime) :
    p.lowerDue e = some (.due k (.time t) t) := by
  obtain ⟨m, rfl⟩ : ∃ m, e = k + (m + 1) := ⟨e - k - 1, by omega⟩
  have hbefore : (List.range k).findSome? (fun j => (p.entryTimeMet j).map fun u => Task.due j (.time u) u) = none := lowerDue_of_noneBefore h
  have hmet : p.entryTimeMet k = some t := (entryTimeMet_of_armed hs hw).trans (metAtArming_of_reached ht)
  unfold Part.lowerDue
  rw [List.range_add, List.findSome?_append, hbefore, List.range_succ_eq_map, List.map_cons, List.findSome?_cons]
  simp [hmet]

/-- DuesInEntryOrder of O55. -/
theorem duesInEntryOrder : Claims.DuesInEntryOrder := by
  intro n ts p next isDue
  refine ⟨fun front t back hts hfront ht => ?_, fun front e w point back hts hdues hfront hback => ?_⟩
  · subst hts
    refine runTasks_of_next ?_ n
    unfold Part.nextTask
    rw [firstWork_behind_dues hfront ((dueEntry_eq_none_iff t).mpr ht)]
  · subst hts
    have hwork : firstWork (front ++ .due e w point :: back) = none := firstWork_of_dues hdues
    have hlow : lowestDue (front ++ .due e w point :: back) = some (.due e w point, front ++ back) :=
      lowestDue_of_least (fun x hx => hdues x (by
        rcases List.mem_append.mp hx with h | h
        · exact List.mem_append_left _ h
        · exact List.mem_append_right _ (List.mem_cons_of_mem _ h))) hfront hback
    refine ⟨fun h => runTasks_of_next ?_ n, fun k t hk h hs hw ht => runTasks_of_next ?_ n⟩
    · unfold Part.nextTask
      simp only [hwork, hlow, Option.map_some, Task.dueEntry, Option.getD_some, lowerDue_of_noneBefore h]
    · unfold Part.nextTask
      simp only [hwork, hlow, Option.map_some, Task.dueEntry, Option.getD_some, lowerDue_of_lowest hk h hs hw ht]

/-- A due that no entry of lower number comes before, run to the end of its work. -/
theorem settleAll_due {e point n : Nat} {w : Waiting} {p q : Part} (h : p.NoneBefore e)
    (hl : Leads n (p.due e w point).2 (p.due e w point).1 q) (hn : n + 1 ≤ taskLimit) :
    settleAll (p, [.due e w point]) = q := by
  obtain ⟨m, hm, hrun⟩ := hl
  obtain ⟨k, hk⟩ : ∃ k, taskLimit = k + m + 1 := ⟨taskLimit - m - 1, by omega⟩
  have hlast := hrun k []
  rw [List.append_nil, runTasks_nil] at hlast
  unfold settleAll
  rw [hk, runTasks_due (lowerDue_of_noneBefore h)]
  exact hlast

end Sys2Proof.Machine
end

section
/-! SUPPORT. A due entry MISSED or turned away, and a SIGNAL entry that asks for its channel (R134 to R137, R139, R144, R149). -/

namespace Sys2Proof.Machine

open Sys2Proof

section
variable {e : Nat} {p q r : Part}

/-! ### Causes, loggings and the entries -/

/-- A cause does not look at the entries. -/
theorem raise_setEntry (src : NoticeSource) (x : Entry) (p : Part) : (p.setEntry e x).raise src = (p.raise src).setEntry e x := by
  have hqueued : (p.setEntry e x).queued src = p.queued src := rfl
  unfold Part.raise
  rw [hqueued, setEntry_link]
  split_ifs <;> rfl

theorem logError_setEntry (code : ErrCode) (sub : Subject) (n : Int) (x : Entry) (p : Part) :
    (p.setEntry e x).logError code sub n = (p.logError code sub n).setEntry e x :=
  raise_setEntry _ x { p with log := p.log.write ((p.log.of code.cls).add ⟨code, sub, n, p.stamp⟩) code.cls }

/-! ### An entry become due (R134, R135) -/

variable {d : EntryDef} {w : Waiting} {point : Nat}

/-- A part with an ARMED entry as its becoming due leaves it. -/
def Part.dueBegun (e point : Nat) (d : EntryDef) (p : Part) : Part := p.setEntry e (p.dueEntry e point d)

theorem due_of_armed (hs : (p.entry e).state = .armed) (hw : (p.entry e).waiting = some w) (hd : (p.entry e).definition = some d) :
    p.due e w point =
      if ((p.dueEntry e point d).deadline.any fun t => t < p.clock.ticks) = true then (p.dueBegun e point d).endUnclaimed e .missed
      else (p.dueBegun e point d).askClaims e [] := by
  have hreference : dueReference d.condition point p.clock.ticks =
      (match d.condition with | .now => point | .atTime _ => point | _ => p.clock.ticks) := by
    cases d.condition <;> rfl
  unfold Part.due Part.dueBegun Part.dueEntry
  simp only [hs, hd, hw, if_true, Part.now, hreference]
  rfl

theorem due_of_late (hs : (p.entry e).state = .armed) (hw : (p.entry e).waiting = some w) (hd : (p.entry e).definition = some d)
    {t : Nat} (ht : (p.dueEntry e point d).deadline = some t) (hlate : t < p.clock.ticks) :
    p.due e w point = (p.dueBegun e point d).endUnclaimed e .missed := by
  exact (due_of_armed hs hw hd).trans (if_pos (by rw [ht]; exact decide_eq_true hlate))

theorem due_of_timely (hs : (p.entry e).state = .armed) (hw : (p.entry e).waiting = some w) (hd : (p.entry e).definition = some d)
    (h : ∀ t, (p.dueEntry e point d).deadline = some t → p.clock.ticks ≤ t) :
    p.due e w point = (p.dueBegun e point d).askClaims e [] := by
  refine (due_of_armed hs hw hd).trans (if_neg fun hany => ?_)
  obtain ⟨t, ht, hlt⟩ := Option.any_eq_true _ _ |>.mp hany
  exact absurd (of_decide_eq_true hlt) (Nat.not_lt.mpr (h t ht))

theorem dueBegun_entry (he : e < p.entries.length) : (p.dueBegun e point d).entry e = p.dueEntry e point d :=
  entry_setEntry e _ p he

/-! ### An occurrence that took no claims ended (R134, R135, R144) -/

theorem bump_max16_cast (n : Nat) : ((bump Config.max16 n : Nat) : Int) = min ((n : Int) + 1) 65535 := by
  unfold bump Config.max16
  push_cast
  rfl

/-- A MISSED occurrence with no repeat left is logged and settled (R135, R144). -/
theorem finish_of_missed (hc : (p.entry e).endCause = some .missed) (hd : (p.entry e).definition ≠ none)
    (h0 : (p.entry e).repeatsRemaining = 0) :
    p.finish e =
      ((p.logError .entryMissed (.entry e) (min ((p.entry e).occurrences + 1) 65535)).enterEntry e .done
        ((p.entry e).ended .done none 0 p.clock.rigTime .missed), []) := by
  obtain ⟨d, hd⟩ := Option.ne_none_iff_exists'.mp hd
  have hsettled (safe : Bool) : settledState .missed 0 safe = (.done, 0) := rfl
  unfold Part.finish
  simp only [hc, hd, h0, hsettled, bump_max16_cast, if_neg (show EntryState.done ≠ .armed by decide)]
  simp only [Entry.ended, hd]
  rfl

/-- An occurrence ended without claims, for a cause that leaves no repeat: settled, its notice raised. -/
theorem leads_endUnclaimed {cause : EndCause} (he : e < p.entries.length) (hd : (p.entry e).definition ≠ none)
    (hc : (p.entry e).endCause = none) (hcompleted : cause ≠ .completed) (hm : cause ≠ .missed)
    (hs : (p.entry e).state ≠ cause.settles) :
    Leads 1 (p.endUnclaimed e cause).2 (p.endUnclaimed e cause).1
      ((p.setEntry e ((p.entry e).lastEnded p.clock.rigTime cause)).raise (.entry e)) := by
  let v := p.setEntry e { p.entry e with endCause := some cause }
  have hv : v.entry e = { p.entry e with endCause := some cause } := entry_setEntry e _ p he
  have hend : p.endUnclaimed e cause = (v, [.finish e]) := by
    unfold Part.endUnclaimed
    rw [recordCause_of_none hc]
  have hfinish : v.finish e = ((p.setEntry e ((p.entry e).lastEnded p.clock.rigTime cause)).raise (.entry e), []) := by
    rw [finish_of_last (by rw [hv]) (by rw [hv]; exact hd) (fun h => absurd h hcompleted) hm,
      enterEntry_of_ne (by rw [hv]; exact hs), hv]
    exact congrArg (fun u : Part => (u.raise (.entry e), [])) (setEntry_setEntry ..)
  rw [hend]
  refine .task rfl ?_
  show Leads 0 (v.finish e).2 (v.finish e).1 _
  rw [hfinish]
  exact .nil _

end

/-- MissedWhenDue of O55. -/
theorem missedWhenDue : Claims.MissedWhenDue := by
  intro e point w d p he hlen hbefore x hs hw hd h0 t ht hlate
  have hlt : e < p.entries.length := hlen ▸ he
  let y := p.dueEntry e point d
  have hentry : (p.dueBegun e point d).entry e = y := dueBegun_entry hlt
  let v := p.setEntry e { y with endCause := some .missed }
  have hv : v.entry e = { y with endCause := some .missed } := entry_setEntry e _ p hlt
  have hend : (p.dueBegun e point d).endUnclaimed e .missed = (v, [.finish e]) := by
    unfold Part.endUnclaimed
    rw [recordCause_of_none (by rw [hentry]; rfl), hentry]
    exact congrArg (·, [Task.finish e]) (setEntry_setEntry ..)
  have hfinish : v.finish e = (((p.logError .entryMissed (.entry e) (min (x.occurrences + 1) 65535)).setEntry e
      (y.ended .done none 0 p.clock.rigTime .missed)).raise (.entry e), []) := by
    rw [finish_of_missed (by rw [hv]) (by rw [hv]; exact fun h => by cases hd.symm.trans h) (by rw [hv]; exact h0), hv,
      logError_setEntry, enterEntry_of_ne, setEntry_setEntry]
    · rfl
    · rw [entry_setEntry e _ _ (by rwa [logError_entries])]
      exact fun h => by cases hs.symm.trans h
  refine settleAll_due (n := 1) hbefore ?_ (by decide)
  rw [due_of_late hs hw hd ht hlate, hend]
  refine .task rfl ?_
  show Leads 0 (v.finish e).2 (v.finish e).1 _
  rw [hfinish]
  exact .nil _

end Sys2Proof.Machine
end

section
/-! SUPPORT. A SIGNAL entry that asks for its channel: turned away, BLOCKED or granted (R134, R136, R137, R139, R149). -/

namespace Sys2Proof.Machine

open Sys2Proof

theorem freeFor_iff (e : Nat) (holder : Option Nat) : freeFor e holder = true ↔ holder = none ∨ holder = some e := by
  cases holder <;> simp [freeFor]

section
variable {e c : Nat} {f : SigFault} {back : List Nat} {p q : Part}

/-! ### Asking for a channel (R134, R136) -/

/-- A channel can take a fault: neither OFF nor HELD, and of a kind that accepts it (R134). -/
def Part.TakesFault (c : Nat) (f : SigFault) (p : Part) : Prop :=
  (p.channel c).state ≠ .off ∧ (p.channel c).state ≠ .held ∧ ∃ k, (p.channel c).kind = some k ∧ k.accepts f = true

theorem targetValid_iff : p.targetValid c f = true ↔ p.TakesFault c f := by
  simp only [Part.targetValid, Part.TakesFault, Bool.and_eq_true, decide_eq_true_eq, Option.any_eq_true, and_assoc]

theorem askClaims_of_noTarget (hsig : (p.entry e).signal? = some (c, f)) (h : ¬p.TakesFault c f) :
    p.askClaims e back = p.endUnclaimed e .noTarget := by
  have hno : p.targetValid c f = false := Bool.eq_false_iff.mpr (mt targetValid_iff.mp h)
  simp [Part.askClaims, signal_iff.mp hsig, hno]

theorem askClaims_of_channelTaken (hsig : (p.entry e).signal? = some (c, f)) (h : p.TakesFault c f) {k : Nat} (hk : k ≠ e)
    (hheld : p.claims.channels.getD c none = some k) : p.askClaims e back = (p.block e, []) := by
  have hnot : p.claims.freeOf e (.signal c f) = false := by
    simp only [Claims.freeOf, hheld]
    exact decide_eq_false hk
  simp [Part.askClaims, signal_iff.mp hsig, targetValid_iff.mpr h, hnot]

theorem askClaims_of_channelFree (hsig : (p.entry e).signal? = some (c, f)) (h : p.TakesFault c f)
    (hfree : p.claims.channels.getD c none = none ∨ p.claims.channels.getD c none = some e) :
    p.askClaims e back = p.grantSignal e c f := by
  have hfreeOf : p.claims.freeOf e (.signal c f) = true := (freeFor_iff e _).mpr hfree
  simp [Part.askClaims, signal_iff.mp hsig, targetValid_iff.mpr h, hfreeOf]

theorem block_of_blocked (h : (p.entry e).state = .blocked) : p.block e = p := if_pos h

theorem block_of_unblocked (h : (p.entry e).state ≠ .blocked) :
    p.block e = (p.setEntry e { p.entry e with state := .blocked, blockedSince := some p.clock.ticks }).raise (.entry e) :=
  (if_neg h).trans (enterEntry_of_ne h _)

/-! ### The grant (R139) -/

/-- A SIGNAL entry granted: ACTIVE with the tick's stamp (R139). -/
def Entry.signalGranted (p : Part) (x : Entry) : Entry :=
  { x with
    state := .active, waiting := none, blockedSince := none, activeTick := p.clock.ticks, travel := 0
    last := x.last.map fun r => { r with grantedTime := some p.clock.rigTime, start := some p.stamp } }

/-- A part with a SIGNAL entry granted its channel, before its ACTIVE occurrence. -/
def Part.signalOn (e c : Nat) (f : SigFault) (p : Part) : Part :=
  { p with
    entries := p.entries.set e ((p.entry e).signalGranted p)
    channels := p.channels.set c { p.channel c with modifier := some { entry := e, fault := f, stuck := none } }
    claims := { p.claims with channels := p.claims.channels.set c (some e) }
    link := ((p.setEntry e ((p.entry e).signalGranted p)).raise (.entry e)).link }

theorem grantSignal_eq (hs : (p.entry e).state ≠ .active) :
    p.grantSignal e c f = (p.signalOn e c f, [.occur (.entry e .active)]) := by
  unfold Part.grantSignal
  simp only [enterEntry_of_ne hs]
  rw [raise_eq_link]
  rfl

/-- The grant run to its end, as `SignalGranted` describes it. -/
theorem leads_grantSignal (he : e < p.entries.length) (hc : c < p.channels.length) (hslots : p.slots.length = 16)
    (hs : (p.entry e).state ≠ .active) (hend : (p.entry e).endCause = none) (hu : p.Unwaited (.entry e .active)) :
    ∃ q, Leads 1 (p.grantSignal e c f).2 (p.grantSignal e c f).1 q ∧ p.SignalGranted e c f (p.entry e) q := by
  let u := p.signalOn e c f
  have hentry : (u.counted (.entry e .active)).entry e = (p.entry e).signalGranted p :=
    entry_of_set (p := p) (q := u.counted (.entry e .active)) rfl he
  have hunwaited : u.Unwaited (.entry e .active) :=
    (hu.setEntry (e := e) (x := (p.entry e).signalGranted p) (.inl rfl) rfl).of_eq rfl (fun _ _ _ h => h) fun _ => rfl
  have hwatch : (u.counted (.entry e .active)).watchFrom (.entry e .active) =
      (u.counted (.entry e .active)).setEntry e { (p.entry e).signalGranted p with untilWatch := true } := by
    rw [watchFrom_of_active (by rw [hentry]; rfl) (by rw [hentry]; exact hend), hentry]
  have hleads := leads_occur_watched (p := u) hslots hunwaited
  rw [hwatch] at hleads
  rw [grantSignal_eq hs]
  have hentries : ((u.counted (.entry e .active)).setEntry e { (p.entry e).signalGranted p with untilWatch := true }).entries =
      p.entries.set e { (p.entry e).signalGranted p with untilWatch := true } := List.set_set ..
  exact ⟨_, hleads, entry_of_set hentries he, fun k hk => entry_of_set_ne hentries hk, channel_setChannel c _ p hc,
    fun k hk => channel_setChannel_ne hk _ p, rfl, rfl, rfl, rfl⟩

/-- A grant of an entry written before it, told of the part as it was. -/
theorem Part.SignalGranted.of_setEntry {x y : Entry} (h : (p.setEntry e x).SignalGranted e c f y q) :
    p.SignalGranted e c f y q := by
  obtain ⟨hentry, hothers, hrest⟩ := h
  exact ⟨hentry, fun k hk => (hothers k hk).trans (entry_setEntry_ne hk x p), hrest⟩

end

theorem signal_of_definition {x : Entry} {d : EntryDef} {c : Nat} {f : SigFault} (hd : x.definition = some d)
    (hcls : d.cls = .signal c f) : x.signal? = some (c, f) := by
  rw [signal_iff, hd, Option.map_some, hcls]

/-- SignalDue of O55. -/
theorem signalDue : Claims.SignalDue := by
  intro e c point w f d p he hc hlen hchannels hslots _ hbefore x ch began hs hw hd hcls htimely target q
  have hlt : e < p.entries.length := hlen ▸ he
  let r := p.dueBegun e point d
  have hentry : r.entry e = began := dueBegun_entry hlt
  have hsig : (r.entry e).signal? = some (c, f) := by
    rw [hentry]
    exact signal_of_definition (x := began) hd hcls
  have hstate : (r.entry e).state = .armed := by rw [hentry]; exact hs
  have hdue : p.due e w point = r.askClaims e [] := due_of_timely hs hw hd htimely
  have hsettle {n : Nat} {v : Part} (h : Leads n (r.askClaims e []).2 (r.askClaims e []).1 v) (hn : n + 1 ≤ taskLimit) : q = v :=
    settleAll_due hbefore (by rw [hdue]; exact h) hn
  have hrlt : e < r.entries.length := by
    rw [show r.entries = _ from setEntry_entries ..]
    simpa using hlt
  refine ⟨fun hno => ?_, fun hyes => ⟨fun h hne hheld => ?_, fun hfree hu => ?_⟩⟩
  · refine (hsettle (n := 1) ?_ (by decide)).trans (congrArg (Part.raise (.entry e)) (setEntry_setEntry e began _ p))
    rw [askClaims_of_noTarget hsig hno]
    have hends := leads_endUnclaimed (cause := .noTarget) hrlt (defined_of_signal hsig) (by rw [hentry]; rfl) (by decide) (by decide)
      (by rw [hstate]; decide)
    rw [hentry] at hends
    exact hends
  · refine (hsettle (n := 0) ?_ (by decide)).trans (congrArg (Part.raise (.entry e)) (setEntry_setEntry e began _ p))
    rw [askClaims_of_channelTaken hsig hyes hne hheld, block_of_unblocked (by rw [hstate]; decide), hentry]
    exact .nil _
  · obtain ⟨v, hv, hgranted⟩ := leads_grantSignal (f := f) hrlt (show c < r.channels.length from hchannels ▸ hc) hslots
      (by rw [hstate]; decide) (by rw [hentry]; rfl) (hu.setEntry (x := began) (.inr rfl) rfl)
    rw [hsettle (n := 1) (by rw [askClaims_of_channelFree hsig hyes hfree]; exact hv) (by decide), ← hentry]
    exact hgranted.of_setEntry

end Sys2Proof.Machine
end

section
/-! SUPPORT. An insertion granted and accepted: claims taken, lines HELD, the bus terminated, the first step commanded (R102, R104,
R106, R109 to R111, R136, R138). -/

namespace Sys2Proof.Machine

open Sys2Proof

/-! ### Lines HELD (R104, R111) -/

section
variable {e : Nat} {p : Part}

/-- A line that becomes HELD raises nothing (R124). -/
theorem setLineState_held_eq (l : Nat) : p.setLineState l (.held e) = p.setLine l { p.line l with state := .held e } := by
  unfold Part.setLineState
  cases (p.line l).state <;> rfl

/-- Some lines HELD for an entry. -/
def Part.holdLines (e : Nat) (ls : List Nat) (p : Part) : Part := ls.foldl (fun q l => q.setLineState l (.held e)) p

theorem holdLines_line {ls : List Nat} (hls : ∀ k ∈ ls, k < p.matrix.lines.length) (l : Nat) :
    (p.holdLines e ls).line l = if l ∈ ls then { p.line l with state := .held e } else p.line l :=
  foldl_line (g := fun q k => q.setLineState k (.held e)) (f := fun _ x => { x with state := .held e }) (fun _ _ => rfl)
    (fun q k => setLineState_lines k (.held e) q) (fun q k => setLineState_outer k (.held e) q) hls l

theorem holdLines_lines_length (ls : List Nat) : (p.holdLines e ls).matrix.lines.length = p.matrix.lines.length :=
  foldl_keeps (fun v => v.matrix.lines.length) (fun v k => by rw [setLineState_lines, List.length_set]) ls p

theorem holdLines_eq (ls : List Nat) :
    p.holdLines e ls = { p with matrix := { p.matrix with lines := (p.holdLines e ls).matrix.lines } } := by
  induction ls generalizing p with
  | nil => rfl
  | cons l ls ih =>
    have hstep : p.holdLines e (l :: ls) = (p.setLine l { p.line l with state := .held e }).holdLines e ls := by
      rw [← setLineState_held_eq]
      rfl
    rw [hstep, ih]
    rfl

/-! ### The commands of an insertion's first step (R106, R109) -/

theorem lines_set_self (l : Nat) (p : Part) : p.matrix.lines.set l (p.line l) = p.matrix.lines := by
  rcases Nat.lt_or_ge l p.matrix.lines.length with h | h
  · simp [Part.line, List.getD_eq_getElem?_getD, h]
  · exact List.set_eq_of_length_le h

theorem closing_closing (barred : Bool) (now settle : Nat) (c : CellId) (x : Line) :
    (x.closing barred now settle c).closing barred now settle c = x.closing barred now settle c := by
  unfold Line.closing
  split_ifs with hb hw
  · rfl
  · rfl
  · rename_i hw'
    exact absurd hw' hw
  · exact closed_closed c x

/-- Closing one fault cell on each of some lines, under the laws of R109. -/
theorem giveCommands_fault_line {c : CellId} (hc : c ≠ .series) {ls : List Nat} (hls : ∀ k ∈ ls, k < p.matrix.lines.length)
    (l : Nat) : (p.giveCommands true (ls.map fun k => (k, c))).line l =
      if l ∈ ls then (p.line l).closing p.closesBarred p.clock.ticks p.matrix.settle c else p.line l := by
  unfold Part.giveCommands
  rw [List.foldl_map]
  refine foldl_line (g := fun q k => q.commandClose k c)
    (f := fun v x => x.closing v.closesBarred v.clock.ticks v.matrix.settle c) (fun v => closing_closing _ _ _ c) (fun q k => ?_)
    (fun q k => commandClose_outer k c q) hls l
  have houter : q.outer.closesBarred = q.closesBarred := rfl
  unfold Part.commandClose Line.closing
  rw [if_neg hc, houter]
  split_ifs with hb hw hw'
  · exact (lines_set_self k q).symm
  · rfl
  · exact absurd hw hw'
  · exact absurd ‹_› hw
  · rfl

theorem giveCommands_eq (closing : Bool) (ts : List (Nat × CellId)) (p : Part) :
    p.giveCommands closing ts = { p with matrix := { p.matrix with lines := (p.giveCommands closing ts).matrix.lines } } := by
  refine (eq_of_bare (giveCommands_bare closing ts p)).trans ?_
  rw [giveCommands_entries]

end

/-! ### The insertion of each kind (R102, R110) -/

/-- The insertion opens series cells first: OPEN, and an isolating kind with its isolate-load flag set. -/
abbrev Electrical.Opening (d : Electrical) : Prop := d.kind = .openLine ∨ d.isolate = true ∧ d.kind ≠ .shortPin

/-- The insertion waits one settle interval first: a LEAK kind without isolation. -/
abbrev Electrical.Settling (d : Electrical) : Prop := (d.kind = .leakGnd ∨ d.kind = .leakBat) ∧ d.isolate = false

/-- The cell that the insertion closes on each line, for every kind but OPEN. -/
def Electrical.closes (d : Electrical) : CellId :=
  match d.kind with
  | .shortGnd => .ground
  | .shortBat => .battery
  | _ => busCell (d.bus.getD 0)

def Electrical.firstInsertStep (d : Electrical) : InsertStep :=
  if d.Opening then .openSeries else if d.Settling then .settle else .closeFault d.closes

def Electrical.laterSteps (d : Electrical) : List InsertStep :=
  if d.kind ≠ .openLine ∧ (d.Opening ∨ d.Settling) then [.closeFault d.closes] else []

theorem insertSteps_eq (d : Electrical) : d.insertSteps = d.firstInsertStep :: d.laterSteps := by
  obtain ⟨kind, lines, bus, resistance, isolate, tripLimit, tripTime, chatter⟩ := d
  cases kind <;> cases isolate <;> rfl

/-- The cells that the first step commands. -/
def Electrical.firstTargets (d : Electrical) : List (Nat × CellId) :=
  if d.Opening then d.lines.map fun l => (l, .series) else if d.Settling then [] else d.lines.map fun l => (l, d.closes)

theorem closes_ne_series (d : Electrical) : d.closes ≠ .series := by
  unfold Electrical.closes busCell
  split
  · decide
  · decide
  · split <;> decide

/-- The bus terminations once an insertion has set its bus's (R102). -/
def Electrical.terminated (d : Electrical) (ts : List Termination) : List Termination :=
  match d.kind, d.bus with
  | .shortPin, some b => ts.set b .none
  | .leakGnd, some b => ts.set b (.resistorGnd (d.resistance.getD 0))
  | .leakBat, some b => ts.set b (.resistorBat (d.resistance.getD 0))
  | _, _ => ts

/-- The part as an accepted insertion begins its first step: the lines HELD, the bus terminated. -/
def Part.insertionReady (e : Nat) (d : Electrical) (p : Part) : Part :=
  { p.holdLines e d.lines with
    matrix := { (p.holdLines e d.lines).matrix with terminations := d.terminated (p.holdLines e d.lines).matrix.terminations } }

/-- The part once the first step's commands are given. -/
def Part.insertionBegun (e : Nat) (d : Electrical) (p : Part) : Part :=
  (p.insertionReady e d).giveCommands (!decide (d.Opening ∨ d.Settling)) d.firstTargets

/-- The steps of an insertion with its first under way, read back on a tick. -/
def Electrical.insertSeq (d : Electrical) (readAt : Option Nat) : Seq :=
  { phase := .inserting d.laterSteps, fast := false, disarmed := false, broken := [], followed := none
    step := { closing := !decide (d.Opening ∨ d.Settling), verified := true, targets := d.firstTargets, attempt := 1
              readAt := readAt } }

section
variable {e : Nat} {d : Electrical} {p : Part}

theorem beginInsertStep_first (h : p.linesHeldBy e = d.lines) :
    p.beginInsertStep e none d.firstInsertStep d.laterSteps =
      let v := p.giveCommands (!decide (d.Opening ∨ d.Settling)) d.firstTargets
      v.setEntry e { v.entry e with seq := some (d.insertSeq (v.readTick d.firstTargets)) } := by
  unfold Part.beginInsertStep Electrical.insertSeq Electrical.firstInsertStep Electrical.firstTargets
  by_cases ho : d.Opening
  · simp only [if_pos ho, h, Part.beginAttempt, decide_eq_true (Or.inl ho : d.Opening ∨ d.Settling), Bool.not_true]
  · by_cases hs : d.Settling
    · simp only [if_neg ho, if_pos hs, Part.beginAttempt, decide_eq_true (Or.inr hs : d.Opening ∨ d.Settling), Bool.not_true]
    · simp only [if_neg ho, if_neg hs, h, Part.beginAttempt, decide_eq_false (not_or.mpr ⟨ho, hs⟩), Bool.not_false]

theorem acceptInsertion_eq (hd : (p.entry e).electrical? = some d) (hl : ∀ l ∈ d.lines, l < p.matrix.lines.length) :
    p.acceptInsertion e d =
      (p.insertionBegun e d).setEntry e { p.entry e with
        seq := some (d.insertSeq ((p.insertionBegun e d).readTick d.firstTargets)) } := by
  have hready : (match d.termination with
      | some t => (p.holdLines e d.lines).setTermination d t
      | none => p.holdLines e d.lines) = p.insertionReady e d := by
    obtain ⟨kind, lines, bus, resistance, isolate, tripLimit, tripTime, chatter⟩ := d
    cases kind <;> cases bus <;> rfl
  have hheld : (p.insertionReady e d).linesHeldBy e = d.lines := by
    have hline (l : Nat) : (p.insertionReady e d).line l = (p.holdLines e d.lines).line l := rfl
    have hentry : (p.insertionReady e d).entry e = p.entry e := by
      unfold Part.insertionReady
      rw [holdLines_eq]
      rfl
    rw [linesHeldBy_eq (by rw [hentry]; exact hd)]
    exact List.filter_eq_self.mpr fun l hmem => by rw [hline, holdLines_line hl, if_pos hmem]; exact decide_eq_true rfl
  have hentry : (p.insertionBegun e d).entry e = p.entry e := by
    unfold Part.insertionBegun Part.insertionReady
    rw [giveCommands_eq, holdLines_eq]
    rfl
  unfold Part.acceptInsertion
  simp only [insertSteps_eq]
  rw [← hentry]
  refine Eq.trans ?_ (beginInsertStep_first hheld)
  rw [← hready]
  rfl

/-- A line of an insertion once its first step is commanded (R109, R110). -/
theorem insertionBegun_line (hl : ∀ l ∈ d.lines, l < p.matrix.lines.length) (l : Nat) :
    (p.insertionBegun e d).line l =
      if l ∈ d.lines then
        (if d.Opening then ({ p.line l with state := .held e } : Line).opened p.clock.ticks .series
        else if d.Settling then { p.line l with state := .held e }
        else ({ p.line l with state := .held e } : Line).closing (p.safe.isSome || decide (p.matrix.state = .lockout)) p.clock.ticks
          p.matrix.settle d.closes)
      else p.line l := by
  have houter : (p.insertionReady e d).outer = p.outer := by
    unfold Part.insertionReady
    rw [holdLines_eq]
    rfl
  have hready (k : Nat) : (p.insertionReady e d).line k =
      if k ∈ d.lines then { p.line k with state := .held e } else p.line k := holdLines_line hl k
  have hlt (k : Nat) (hk : k ∈ d.lines) : k < (p.insertionReady e d).matrix.lines.length :=
    (holdLines_lines_length d.lines).symm ▸ hl k hk
  have hclock := clock_of_outer houter
  have hbarred : (p.insertionReady e d).closesBarred = (p.safe.isSome || decide (p.matrix.state = .lockout)) :=
    (congrArg Part.closesBarred houter :)
  unfold Part.insertionBegun Electrical.firstTargets
  by_cases ho : d.Opening
  · rw [decide_eq_true (Or.inl ho : d.Opening ∨ d.Settling), if_pos ho, Bool.not_true, giveCommands_open_line _ hlt, hready,
      hclock]
    split_ifs <;> rfl
  · by_cases hs : d.Settling
    · rw [decide_eq_true (Or.inr hs : d.Opening ∨ d.Settling), if_neg ho, if_pos hs]
      refine (hready l).trans ?_
      rw [if_neg ho, if_pos hs]
    · rw [decide_eq_false (not_or.mpr ⟨ho, hs⟩), if_neg ho, if_neg hs, Bool.not_false,
        giveCommands_fault_line (closes_ne_series d) hlt, hready, hclock, hbarred, settle_of_outer houter, if_neg ho, if_neg hs]
      split_ifs <;> rfl

/-- The tick of the first step's readback: one settle interval on, unless a close is held back (R106, R109). -/
theorem insertionBegun_readTick (hl : ∀ l ∈ d.lines, l < p.matrix.lines.length) :
    (p.insertionBegun e d).readTick d.firstTargets =
      if (d.Opening ∨ d.Settling) ∨ ∀ l ∈ d.lines, ((p.insertionBegun e d).line l).heldClose = none then
        some (p.clock.ticks + p.matrix.settle)
      else none := by
  have houter : (p.insertionBegun e d).outer = p.outer := by
    unfold Part.insertionBegun Part.insertionReady
    rw [giveCommands_eq, holdLines_eq]
    rfl
  have htick : some ((p.insertionBegun e d).clock.ticks + (p.insertionBegun e d).matrix.settle) =
      some (p.clock.ticks + p.matrix.settle) := by
    rw [clock_of_outer houter, settle_of_outer houter]
  by_cases ho : d.Opening
  · rw [if_pos (.inl (.inl ho)), ← htick]
    refine readTick_of_none fun t ht => ?_
    rw [Electrical.firstTargets, if_pos ho] at ht
    obtain ⟨l, hmem, rfl⟩ := List.mem_map.mp ht
    rw [insertionBegun_line hl, if_pos hmem, if_pos ho]
    rfl
  · by_cases hs : d.Settling
    · rw [if_pos (.inl (.inr hs)), ← htick]
      refine readTick_of_none fun t ht => ?_
      rw [Electrical.firstTargets, if_neg ho, if_pos hs] at ht
      cases ht
    · have htargets : d.firstTargets = d.lines.map fun l => (l, d.closes) := by
        rw [Electrical.firstTargets, if_neg ho, if_neg hs]
      by_cases hnone : ∀ l ∈ d.lines, ((p.insertionBegun e d).line l).heldClose = none
      · rw [if_pos (.inr hnone), ← htick]
        refine readTick_of_none fun t ht => ?_
        rw [htargets] at ht
        obtain ⟨l, hmem, rfl⟩ := List.mem_map.mp ht
        exact hnone l hmem
      · rw [if_neg (not_or.mpr ⟨not_or.mpr ⟨ho, hs⟩, hnone⟩)]
        obtain ⟨l, hmem, hheld⟩ : ∃ l ∈ d.lines, ((p.insertionBegun e d).line l).heldClose ≠ none := by simpa using hnone
        refine if_pos (List.any_eq_true.mpr ⟨(l, d.closes), ?_, Option.isSome_iff_ne_none.mpr hheld⟩)
        rw [htargets]
        exact List.mem_map.mpr ⟨l, hmem, rfl⟩

/-- What an accepted insertion writes beside its entry: the lines and the terminations. -/
theorem insertionBegun_eq : p.insertionBegun e d =
    { p with matrix := { p.matrix with
      lines := (p.insertionBegun e d).matrix.lines, terminations := d.terminated p.matrix.terminations } } := by
  have hready : p.insertionReady e d = { p with matrix := { p.matrix with
      lines := (p.insertionReady e d).matrix.lines, terminations := d.terminated p.matrix.terminations } } := by
    unfold Part.insertionReady
    rw [holdLines_eq]
  unfold Part.insertionBegun
  refine (giveCommands_eq _ _ _).trans ?_
  rw [hready]

end

/-! ### Claims taken (R136) -/

theorem foldl_set_getD {α : Type} (x d : α) {ns : List Nat} {xs : List α} (h : ∀ n ∈ ns, n < xs.length) (k : Nat) :
    (ns.foldl (fun ys n => ys.set n x) xs).getD k d = if k ∈ ns then x else xs.getD k d := by
  induction ns generalizing xs with
  | nil => simp
  | cons n ns ih =>
    rw [List.foldl_cons, ih fun m hm => by rw [List.length_set]; exact h m (List.mem_cons_of_mem _ hm),
      getD_set_of_lt (h n List.mem_cons_self)]
    simp only [List.mem_cons]
    split_ifs <;> simp_all

theorem take_electrical_buses {cl : Claims} (h : cl.buses.length = 4) (e : Nat) (d : Electrical) {b : Nat} (hb : b < 4) :
    (cl.take e (.electrical d)).buses.getD b none = if d.bus = some b then some e else cl.buses.getD b none := by
  show (d.bus.toList.foldl (fun bs n => bs.set n (some e)) cl.buses).getD b none = _
  cases d.bus with
  | none => rfl
  | some a =>
    show (cl.buses.set a (some e)).getD b none = _
    rcases Nat.lt_or_ge a cl.buses.length with ha | ha
    · simp only [getD_set_of_lt ha, Option.some.injEq, eq_comm]
    · rw [List.set_eq_of_length_le ha, if_neg]
      simp only [Option.some.injEq]
      omega

/-- An entry as its grant leaves it, before its insertion's steps (R138). -/
def Entry.insertionGranted (time : Nat) (x : Entry) : Entry :=
  { x with
    state := .inserting, waiting := none, blockedSince := none
    last := x.last.map fun r => { r with grantedTime := some time } }

/-- A part with an ELECTRICAL entry granted its claims, before the matrix accepts its insertion. -/
def Part.claimsTaken (e : Nat) (d : Electrical) (p : Part) : Part :=
  { p with
    entries := p.entries.set e ((p.entry e).insertionGranted p.clock.rigTime)
    claims := p.claims.take e (.electrical d)
    link := (p.raise (.entry e)).link }

section
variable {e : Nat} {d : Electrical} {p q : Part}

theorem grantElectrical_eq (hs : (p.entry e).state ≠ .inserting) :
    p.grantElectrical e d = ((p.claimsTaken e d).acceptInsertion e d, []) := by
  unfold Part.grantElectrical
  simp only [enterEntry_of_ne hs]
  rw [raise_setEntry, raise_eq_link]
  rfl

/-- The grant of an ELECTRICAL entry, as `Granted` describes it. -/
theorem grantElectrical_granted (hd : (p.entry e).electrical? = some d) (hs : (p.entry e).state ≠ .inserting)
    (hlines : p.matrix.lines.length = 64) (hclaims : p.claims.lines.length = 64) (hbuses : p.claims.buses.length = 4)
    (hl : ∀ l ∈ d.lines, l < 64) : p.Granted e d (p.entry e) (p.grantElectrical e d).1 := by
  have he : e < p.entries.length := lt_of_electrical hd
  let u := p.claimsTaken e d
  have hentry : u.entry e = (p.entry e).insertionGranted p.clock.rigTime := entry_of_set (p := p) (q := u) rfl he
  have hlt : ∀ l ∈ d.lines, l < u.matrix.lines.length := fun l hmem => hlines.symm ▸ hl l hmem
  have hq : (p.grantElectrical e d).1 = (u.insertionBegun e d).setEntry e { u.entry e with
      seq := some (d.insertSeq ((u.insertionBegun e d).readTick d.firstTargets)) } := by
    rw [grantElectrical_eq hs]
    exact acceptInsertion_eq (by rw [hentry]; exact hd) hlt
  generalize hv : u.insertionBegun e d = v at hq
  have hframe : v = { u with matrix := { u.matrix with
      lines := v.matrix.lines, terminations := d.terminated u.matrix.terminations } } := hv ▸ insertionBegun_eq
  have hentries : (p.grantElectrical e d).1.entries = p.entries.set e { (p.entry e).insertionGranted p.clock.rigTime with
      seq := some (d.insertSeq (v.readTick d.firstTargets)) } := by
    rw [hq, setEntry_entries, hentry, hframe]
    exact List.set_set ..
  have hline (l : Nat) : (p.grantElectrical e d).1.line l = v.line l := by rw [hq]; rfl
  have hread : v.readTick d.firstTargets =
      if (d.Opening ∨ d.Settling) ∨ ∀ l ∈ d.lines, ((p.grantElectrical e d).1.line l).heldClose = none then
        some (p.clock.ticks + p.matrix.settle)
      else none := by
    simp only [hline, ← hv]
    exact insertionBegun_readTick hlt
  have hwhole : (p.grantElectrical e d).1 = { p with
      entries := (p.grantElectrical e d).1.entries
      matrix := { p.matrix with
        lines := (p.grantElectrical e d).1.matrix.lines, terminations := d.terminated p.matrix.terminations }
      claims := p.claims.take e (.electrical d), link := (p.raise (.entry e)).link } := by
    have hset : (p.grantElectrical e d).1 = { v with entries := (p.grantElectrical e d).1.entries } := by
      rw [hq]
      rfl
    have hwritten : (p.grantElectrical e d).1.matrix.lines = v.matrix.lines := by rw [hq]; rfl
    rw [hwritten]
    exact hset.trans (congrArg (fun w : Part => { w with entries := (p.grantElectrical e d).1.entries }) hframe)
  have hmatrix : (p.grantElectrical e d).1.matrix = { p.matrix with
      lines := (p.grantElectrical e d).1.matrix.lines, terminations := d.terminated p.matrix.terminations } := by
    rw [hwhole]
  have htaken : (p.grantElectrical e d).1.claims = p.claims.take e (.electrical d) := by rw [hwhole]
  refine ⟨fun l => ?_, ?_, fun k hk => entry_of_set_ne hentries hk, hmatrix, fun l hl' => ?_, fun b hb => ?_,
    by rw [htaken]; rfl, ?_, ?_⟩
  · rw [hline, ← hv]
    exact insertionBegun_line hlt l
  · rw [entry_of_set hentries he, hread]
    rfl
  · rw [htaken]
    exact foldl_set_getD (some e) none (fun n hn => hclaims.symm ▸ hl n hn) l
  · rw [htaken]
    exact take_electrical_buses hbuses e d hb
  · rw [htaken]
    exact congrArg (p.claims.budget + ·) (budget_eq d)
  · refine hwhole.trans ?_
    rw [htaken, hmatrix]

end

end Sys2Proof.Machine
end

section
/-! SUPPORT. An ELECTRICAL entry that asks for its claims, and the arbiter's pass (R111, R134 to R138, R185). -/

namespace Sys2Proof.Machine

open Sys2Proof

section
variable {e : Nat} {d : Electrical} {back : List Nat} {p q : Part}

/-! ### Claims and admission (R111, R136, R185) -/

theorem freeFor_iff_holder (e : Nat) (holder : Option Nat) : freeFor e holder = true ↔ ∀ h, holder = some h → h = e := by
  cases holder <;> simp [freeFor]

theorem shorts_iff (k : ElecKind) : k.shorts = true ↔ k = .shortGnd ∨ k = .shortBat := by
  cases k <;> simp [ElecKind.shorts]

theorem freeOf_electrical_iff : p.claims.freeOf e (.electrical d) = true ↔ p.ClaimsFree e d := by
  have hbudget : (!d.kind.shorts || decide (p.claims.budget + d.lines.length ≤ Config.shortBudget)) = true ↔
      (d.kind = .shortGnd ∨ d.kind = .shortBat → p.claims.budget + d.lines.length ≤ 8) := by
    rw [← shorts_iff, Bool.or_eq_true, Bool.not_eq_true', decide_eq_true_iff]
    cases d.kind.shorts <;> simp [Config.shortBudget]
  simp only [Claims.freeOf, Bool.and_eq_true, hbudget, List.all_eq_true, Option.all_eq_true, freeFor_iff_holder, and_assoc]
  rfl

/-- A line of the entry that was just given back is BROKEN or ISOLATED (R185). -/
def Part.BackUnfit (back : List Nat) (d : Electrical) (p : Part) : Prop :=
  ∃ l ∈ d.lines, l ∈ back ∧ ((p.line l).state = .broken ∨ ∃ clear, (p.line l).state = .isolated clear)

theorem backUnfit_iff : (d.lines.any fun l => back.contains l && (p.line l).state.isUnfit) = true ↔ p.BackUnfit back d := by
  simp only [List.any_eq_true, Bool.and_eq_true, List.contains_iff_mem, isUnfit_iff]
  rfl

theorem linesReady_iff : (d.lines.any fun l => decide ((p.line l).state ≠ .pass) || d.neededCells.any fun c => (p.cell l c).worn) = true ↔
    ¬p.LinesReady d := by
  simp only [Part.LinesReady, List.any_eq_true, Bool.or_eq_true, decide_eq_true_eq, not_forall, not_and_or, exists_prop,
    Bool.not_eq_false]

theorem admission_of_backUnfit (h : p.BackUnfit back d) : p.admission back d = .unusable := if_pos (backUnfit_iff.mpr h)

theorem admission_of_lockout (h : ¬p.BackUnfit back d) (hm : p.matrix.state = .lockout) : p.admission back d = .locked :=
  (if_neg (mt backUnfit_iff.mp h)).trans (if_pos hm)

theorem admission_of_unready (h : ¬p.BackUnfit back d) (hm : p.matrix.state ≠ .lockout) (hl : ¬p.LinesReady d) :
    p.admission back d = .unusable :=
  (if_neg (mt backUnfit_iff.mp h)).trans ((if_neg hm).trans (if_pos (linesReady_iff.mpr hl)))

theorem admission_of_ready (hm : p.matrix.state ≠ .lockout) (hl : p.LinesReady d) : p.admission back d = .admitted := by
  have hfit : ¬p.BackUnfit back d := fun ⟨l, hmem, _, hunfit⟩ => by
    rw [(hl l hmem).1] at hunfit
    rcases hunfit with h | ⟨_, h⟩ <;> cases h
  exact (if_neg (mt backUnfit_iff.mp hfit)).trans ((if_neg hm).trans (if_neg fun h => linesReady_iff.mp h hl))

theorem askClaims_of_claimsTaken (hd : (p.entry e).electrical? = some d) (h : ¬p.ClaimsFree e d) :
    p.askClaims e back = (p.block e, []) := by
  simp [Part.askClaims, electrical_iff.mp hd, Bool.eq_false_iff.mpr (mt freeOf_electrical_iff.mp h)]

theorem askClaims_of_claimsFree (hd : (p.entry e).electrical? = some d) (h : p.ClaimsFree e d) :
    p.askClaims e back = match p.admission back d with
      | .locked => p.endUnclaimed e .lockout
      | .unusable => p.endUnclaimed e .cellFault
      | .admitted => p.grantElectrical e d := by
  simp only [Part.askClaims, electrical_iff.mp hd, freeOf_electrical_iff.mpr h, if_true] <;> rfl

/-- A grant of an entry written before it, told of the part as it was. -/
theorem Part.Granted.of_setEntry {x y : Entry} (h : (p.setEntry e x).Granted e d y q) : p.Granted e d y q := by
  obtain ⟨hlines, hentry, hothers, hmatrix, hclaimed, hbuses, hchannels, hbudget, hrest⟩ := h
  refine ⟨hlines, hentry, fun k hk => (hothers k hk).trans (entry_setEntry_ne hk x p), hmatrix, hclaimed, hbuses, hchannels, hbudget,
    ?_⟩
  rw [raise_setEntry] at hrest
  exact hrest

/-! ### An ELECTRICAL entry that asks, by the answers (R134, R137) -/

/-- A part with an entry's occurrence ended without claims, ABORTED (R134, R144). -/
def Part.turnedAway (e : Nat) (cause : EndCause) (p : Part) : Part :=
  (p.setEntry e ((p.entry e).ended .aborted none 0 p.clock.rigTime cause)).raise (.entry e)

theorem leads_turnedAway {cause : EndCause} (hd : (p.entry e).electrical? = some d) (hc : (p.entry e).endCause = none)
    (hs : (p.entry e).state ≠ .aborted) (hcause : cause = .lockout ∨ cause = .cellFault) :
    Leads 1 (p.endUnclaimed e cause).2 (p.endUnclaimed e cause).1 (p.turnedAway e cause) := by
  have hends := leads_endUnclaimed (cause := cause) (lt_of_electrical hd) (defined_of_electrical hd) hc
    (by rcases hcause with rfl | rfl <;> decide) (by rcases hcause with rfl | rfl <;> decide)
    (by rcases hcause with rfl | rfl <;> exact hs)
  rcases hcause with rfl | rfl <;> exact hends

/-- What the answers to an ELECTRICAL entry with its claims free come to. -/
theorem leads_askClaims (hd : (p.entry e).electrical? = some d) (hfree : p.ClaimsFree e d) (hc : (p.entry e).endCause = none)
    (hs : (p.entry e).state ≠ .aborted) :
    (p.BackUnfit back d → Leads 1 (p.askClaims e back).2 (p.askClaims e back).1 (p.turnedAway e .cellFault)) ∧
    (¬p.BackUnfit back d → p.matrix.state = .lockout →
      Leads 1 (p.askClaims e back).2 (p.askClaims e back).1 (p.turnedAway e .lockout)) ∧
    (¬p.BackUnfit back d → p.matrix.state ≠ .lockout → ¬p.LinesReady d →
      Leads 1 (p.askClaims e back).2 (p.askClaims e back).1 (p.turnedAway e .cellFault)) ∧
    (p.matrix.state ≠ .lockout → p.LinesReady d → p.askClaims e back = ((p.grantElectrical e d).1, [])) := by
  rw [askClaims_of_claimsFree hd hfree]
  refine ⟨fun h => ?_, fun h hm => ?_, fun h hm hl => ?_, fun hm hl => ?_⟩
  · rw [admission_of_backUnfit h]
    exact leads_turnedAway hd hc hs (.inr rfl)
  · rw [admission_of_lockout h hm]
    exact leads_turnedAway hd hc hs (.inl rfl)
  · rw [admission_of_unready h hm hl]
    exact leads_turnedAway hd hc hs (.inr rfl)
  · rw [admission_of_ready hm hl]
    rfl

end

theorem electrical_of_definition {x : Entry} {def' : EntryDef} {d : Electrical} (hd : x.definition = some def')
    (hcls : def'.cls = .electrical d) : x.electrical? = some d := by
  rw [electrical_iff, hd, Option.map_some, hcls]

/-- ElectricalDue of O55. -/
theorem electricalDue : Claims.ElectricalDue := by
  intro e point w def' d p he hlen hshaped hclaims hbuses hl hbefore x began hs hw hd hcls htimely ends q
  have hlt : e < p.entries.length := hlen ▸ he
  let r := p.dueBegun e point def'
  have hentry : r.entry e = began := dueBegun_entry hlt
  have helec : (r.entry e).electrical? = some d := by
    rw [hentry]
    exact electrical_of_definition (x := began) hd hcls
  have hstate : (r.entry e).state = .armed := by rw [hentry]; exact hs
  have hdue : p.due e w point = r.askClaims e [] := due_of_timely hs hw hd htimely
  have hsettle {n : Nat} {v : Part} (h : Leads n (r.askClaims e []).2 (r.askClaims e []).1 v) (hn : n + 1 ≤ taskLimit) : q = v :=
    settleAll_due hbefore (by rw [hdue]; exact h) hn
  have hends (cause : EndCause) : r.turnedAway e cause = ends cause := by
    unfold Part.turnedAway
    rw [hentry]
    exact congrArg (Part.raise (.entry e)) (setEntry_setEntry e began _ p)
  have hfit : ¬r.BackUnfit [] d := fun ⟨_, _, h, _⟩ => by cases h
  have hask (hfree : r.ClaimsFree e d) := leads_askClaims (back := []) helec hfree (by rw [hentry]; rfl) (by rw [hstate]; decide)
  refine ⟨fun h => ?_, fun hfree hm => ?_, fun hfree hm hready => ?_, fun hfree hm hready => ?_⟩
  · refine (hsettle (n := 0) ?_ (by decide)).trans (congrArg (Part.raise (.entry e)) (setEntry_setEntry e began _ p))
    rw [askClaims_of_claimsTaken helec h, block_of_unblocked (by rw [hstate]; decide), hentry]
    exact .nil _
  · obtain ⟨-, hlockout, -, -⟩ := hask hfree
    exact (hsettle (hlockout hfit hm) (by decide)).trans (hends _)
  · obtain ⟨-, -, hunready, -⟩ := hask hfree
    exact (hsettle (hunready hfit hm hready) (by decide)).trans (hends _)
  · obtain ⟨-, -, -, hgrant⟩ := hask hfree
    rw [hsettle (n := 0) (v := (r.grantElectrical e d).1) (by rw [hgrant hm hready]; exact .nil _) (by decide), ← hentry]
    exact (grantElectrical_granted helec (by rw [hstate]; decide) hshaped.1 hclaims hbuses hl).of_setEntry

/-! ### The blocked set (R137) -/

/-- The arbiter's order: by `blocked_since`, and then by entry number. -/
def JudgedBefore (a b : Nat × Nat) : Prop := a.2 < b.2 ∨ a.2 = b.2 ∧ a.1 < b.1

theorem mem_insertBlocked {x a : Nat × Nat} {xs : List (Nat × Nat)} : a ∈ insertBlocked x xs ↔ a = x ∨ a ∈ xs := by
  induction xs with
  | nil => simp [insertBlocked]
  | cons y ys ih =>
    unfold insertBlocked
    split
    · simp only [List.mem_cons, ih, or_left_comm]
    · simp only [List.mem_cons]

/-- An entry of a higher number than all those placed keeps the order. -/
theorem insertBlocked_pairwise {x : Nat × Nat} {xs : List (Nat × Nat)} (h : xs.Pairwise JudgedBefore) (hx : ∀ a ∈ xs, a.1 < x.1) :
    (insertBlocked x xs).Pairwise JudgedBefore := by
  induction xs with
  | nil => simp [insertBlocked]
  | cons y ys ih =>
    obtain ⟨hy, hys⟩ := List.pairwise_cons.mp h
    unfold insertBlocked
    split
    · rename_i hle
      refine List.pairwise_cons.mpr ⟨fun a ha => ?_, ih hys fun a ha => hx a (List.mem_cons_of_mem _ ha)⟩
      rcases mem_insertBlocked.mp ha with rfl | ha
      · have hlt := hx y List.mem_cons_self
        unfold JudgedBefore
        omega
      · exact hy a ha
    · rename_i hlt
      refine List.pairwise_cons.mpr ⟨fun a ha => .inl ?_, h⟩
      rcases List.mem_cons.mp ha with rfl | ha
      · omega
      · rcases hy a ha with h | h <;> omega

/-- The BLOCKED entries below a number, in the arbiter's order. -/
def Part.blockedBelow (n : Nat) (p : Part) : List (Nat × Nat) :=
  (List.range n).foldl
    (fun acc e =>
      match (p.entry e).state, (p.entry e).blockedSince with
      | .blocked, some t => insertBlocked (e, t) acc
      | _, _ => acc) []

theorem blockedBelow_succ (n : Nat) (p : Part) : p.blockedBelow (n + 1) =
    match (p.entry n).state, (p.entry n).blockedSince with
    | .blocked, some t => insertBlocked (n, t) (p.blockedBelow n)
    | _, _ => p.blockedBelow n := by
  unfold Part.blockedBelow
  rw [List.range_succ, List.foldl_append]
  rfl

theorem blockedBelow_sound (n : Nat) (p : Part) :
    (∀ e t, (e, t) ∈ p.blockedBelow n ↔ e < n ∧ (p.entry e).state = .blocked ∧ (p.entry e).blockedSince = some t) ∧
    (p.blockedBelow n).Pairwise JudgedBefore := by
  induction n with
  | zero => simp [Part.blockedBelow]
  | succ n ih =>
    obtain ⟨hmem, hsorted⟩ := ih
    rw [blockedBelow_succ]
    split
    · rename_i t hs ht
      refine ⟨fun e u => ?_, insertBlocked_pairwise hsorted fun a ha => ((hmem a.1 a.2).mp ha).1⟩
      rw [mem_insertBlocked, hmem]
      constructor
      · rintro (h | ⟨hlt, h⟩)
        · cases h
          exact ⟨by omega, hs, ht⟩
        · exact ⟨by omega, h⟩
      · rintro ⟨hlt, h1, h2⟩
        rcases Nat.lt_succ_iff_lt_or_eq.mp hlt with h | rfl
        · exact .inr ⟨h, h1, h2⟩
        · rw [ht] at h2
          cases h2
          exact .inl rfl
    · rename_i hno
      refine ⟨fun e u => (hmem e u).trans ⟨fun ⟨hlt, h⟩ => ⟨by omega, h⟩, fun ⟨hlt, h1, h2⟩ => ?_⟩, hsorted⟩
      rcases Nat.lt_succ_iff_lt_or_eq.mp hlt with h | rfl
      · exact ⟨h, h1, h2⟩
      · exact absurd h2 (hno u h1)

/-- A give-back (R136): the claims free, and the blocked set judged ahead of the RELEASED occurrence. -/
theorem giveBack_claims (cl : Claims) (e : Nat) (c : EntryClass) :
    cl.giveBack e c =
      { lines := cl.lines.map fun h => if h = some e then none else h
        buses := cl.buses.map fun h => if h = some e then none else h
        channels := cl.channels.map fun h => if h = some e then none else h
        budget := match c with
          | .electrical d => if d.kind = .shortGnd ∨ d.kind = .shortBat then cl.budget - d.lines.length else cl.budget
          | .signal _ _ => cl.budget } := by
  cases c with
  | electrical d =>
    have hbudget : cl.budget - d.budget = if d.kind = .shortGnd ∨ d.kind = .shortBat then cl.budget - d.lines.length
        else cl.budget := by
      rw [budget_eq]
      split <;> rfl
    simp only [← hbudget]
    rfl
  | signal c f => rfl

/-! ### Judging (R137) -/

theorem settleAll_judge {e n : Nat} {back : List Nat} {p v : Part} (hs : (p.entry e).state = .blocked)
    (h : Leads n (p.askClaims e back).2 (p.askClaims e back).1 v) (hn : n + 1 ≤ taskLimit) :
    settleAll (p, [.judge e back]) = v := by
  refine settleAll_of_leads (.task rfl ?_) hn
  show Leads n (p.judge e back).2 (p.judge e back).1 v
  rw [show p.judge e back = p.askClaims e back from if_pos hs]
  exact h

theorem settleAll_judge_of_unblocked {e : Nat} {back : List Nat} {p : Part} (hs : (p.entry e).state ≠ .blocked) :
    settleAll (p, [.judge e back]) = p := by
  refine settleAll_of_leads (n := 0 + 1) (.task rfl ?_) (by decide)
  show Leads 0 (p.judge e back).2 (p.judge e back).1 p
  rw [show p.judge e back = (p, []) from if_neg hs]
  exact .nil p

end Sys2Proof.Machine
end

section
/-! SUPPORT. The arbiter's pass, and the whole of O55 (R111, R134 to R139, R149, R185). -/

namespace Sys2Proof.Machine

open Sys2Proof

section
variable {e c : Nat} {back : List Nat} {p : Part}

/-- A BLOCKED entry whose claims do not come free stays as it is (R136, R137). -/
theorem judge_of_taken (hs : (p.entry e).state = .blocked) (hask : p.askClaims e back = (p.block e, [])) :
    settleAll (p, [.judge e back]) = p :=
  settleAll_judge (n := 0) hs (by rw [hask, block_of_blocked hs]; exact .nil p) (by decide)

theorem judge_of_noTarget {f : SigFault} (hs : (p.entry e).state = .blocked) (hsig : (p.entry e).signal? = some (c, f))
    (hend : (p.entry e).endCause = none) (h : ¬p.TakesFault c f) :
    settleAll (p, [.judge e back]) =
      (p.setEntry e ((p.entry e).ended .aborted none 0 p.clock.rigTime .noTarget)).raise (.entry e) := by
  refine settleAll_judge (n := 1) hs ?_ (by decide)
  rw [askClaims_of_noTarget hsig h]
  exact leads_endUnclaimed (cause := .noTarget) (entry_lt (defined_of_signal hsig)) (defined_of_signal hsig) hend (by decide) (by decide)
    (by rw [hs]; decide)

theorem judge_of_channelFree {f : SigFault} (hc : c < p.channels.length) (hslots : p.slots.length = 16)
    (hs : (p.entry e).state = .blocked) (hsig : (p.entry e).signal? = some (c, f)) (hend : (p.entry e).endCause = none)
    (h : p.TakesFault c f) (hfree : p.claims.channels.getD c none = none ∨ p.claims.channels.getD c none = some e)
    (hu : p.Unwaited (.entry e .active)) : p.SignalGranted e c f (p.entry e) (settleAll (p, [.judge e back])) := by
  obtain ⟨v, hv, hgranted⟩ := leads_grantSignal (f := f) (entry_lt (defined_of_signal hsig)) hc hslots (by rw [hs]; decide) hend hu
  rw [settleAll_judge (n := 1) (v := v) hs (by rw [askClaims_of_channelFree hsig h hfree]; exact hv) (by decide)]
  exact hgranted

end

/-- ArbiterPasses of O55. -/
theorem arbiterPasses : Claims.ArbiterPasses := by
  refine ⟨fun p => blockedBelow_sound 128 p, fun e c p => ?giveBack, ?signal, ?electrical⟩
  case giveBack =>
    have hgive : p.giveBack e c = ({ p with claims := p.claims.giveBack e c },
        (p.blockedSet.map fun b => Task.judge b.1 c.lines) ++ [.occur (.entry e .released), .finish e]) := rfl
    rw [hgive, giveBack_claims]
    cases c <;> rfl
  case signal =>
    intro e c back f p _ hc _ hchannels hslots _ x ch hs hsig hend target q
    refine ⟨judge_of_noTarget hs hsig hend, fun htarget => ⟨fun h hne hheld => ?_, fun hfree hu => ?_⟩⟩
    · exact judge_of_taken hs (askClaims_of_channelTaken hsig htarget hne hheld)
    · exact judge_of_channelFree (hchannels ▸ hc) hslots hs hsig hend htarget hfree hu
  case electrical =>
    intro e back def' d p _ _ hshaped hclaims hbuses hl x hd hcls hend ends unfit q
    have helec : (p.entry e).electrical? = some d := electrical_of_definition hd hcls
    refine ⟨settleAll_judge_of_unblocked, fun hs =>
      ⟨fun htaken => judge_of_taken hs (askClaims_of_claimsTaken helec htaken), fun hfree => ?_⟩⟩
    obtain ⟨hunfit, hlockout, hunready, hready⟩ := leads_askClaims (back := back) helec hfree hend (by rw [hs]; decide)
    refine ⟨fun h => settleAll_judge hs (hunfit h) (by decide), fun h hm => settleAll_judge hs (hlockout h hm) (by decide),
      fun h hm hl => settleAll_judge hs (hunready h hm hl) (by decide), fun hm hfit => ?_⟩
    have hq : q = (p.grantElectrical e d).1 :=
      settleAll_judge (n := 0) hs (by rw [hready hm hfit]; exact .nil _) (by decide)
    rw [hq]
    exact grantElectrical_granted helec (by rw [hs]; decide) hshaped.1 hclaims hbuses hl

/-- Settles O55. -/
theorem signalGranted : Obligations.SignalGranted :=
  ⟨duesInEntryOrder, missedWhenDue, signalDue, electricalDue, arbiterPasses⟩

end Sys2Proof.Machine
end

section
/-! SUPPORT. Records upheld: what raises, loggings and writes of the tables leave of the ring, the short budget, the error log and
the entries, so that what was sound stays so (R93, R126, R127, R136, R164). -/

namespace Sys2Proof.Machine

open Sys2Proof

/-! ### One part's records upheld by another's -/

/-- What the soundness of the records reads of a part. -/
def Part.records (p : Part) : Capture × Claims × ErrorLog × List Entry := (p.capture, p.claims, p.log, p.entries)

/-- An entry that keeps its definition, and its soundness if it had it. -/
structure Entry.Upholds (x y : Entry) : Prop where
  definition : y.definition = x.definition
  sound      : x.Sound → y.Sound

/-- `q` keeps each of the bounds and shapes that `p` has, and the definition of every entry. -/
structure Part.Upholds (p q : Part) : Prop where
  ring   : p.capture.ring.length ≤ 512 → q.capture.ring.length ≤ 512
  budget : p.claims.budget ≤ 8 → q.claims.budget ≤ 8
  log    : p.LogSound → q.LogSound
  entry  : ∀ e, (p.entry e).Upholds (q.entry e)

theorem Part.Upholds.refl (p : Part) : p.Upholds p := ⟨id, id, id, fun _ => ⟨rfl, id⟩⟩

theorem Part.Upholds.trans {p q r : Part} (h : p.Upholds q) (h' : q.Upholds r) : p.Upholds r where
  ring hp := h'.ring (h.ring hp)
  budget hp := h'.budget (h.budget hp)
  log hp := h'.log (h.log hp)
  entry e := ⟨(h'.entry e).definition.trans (h.entry e).definition, fun hp => (h'.entry e).sound ((h.entry e).sound hp)⟩

/-- What leaves the records alone upholds them. -/
theorem upholds_of_records {p q : Part} (h : q.records = p.records) : p.Upholds q := by
  obtain ⟨hcapture, hclaims, hlog, hentries⟩ : q.capture = p.capture ∧ q.claims = p.claims ∧ q.log = p.log ∧
      q.entries = p.entries := by simpa [Part.records] using h
  refine ⟨hcapture ▸ id, hclaims ▸ id, ?_, fun e => ?_⟩
  · rw [Part.LogSound, Part.LogSound, hlog]
    exact id
  · rw [entry_of_entries hentries]
    exact ⟨rfl, id⟩

theorem Part.Upholds.of_records {p q r : Part} (h : p.Upholds q) (hr : r.records = q.records) : p.Upholds r :=
  h.trans (upholds_of_records hr)

theorem Part.Upholds.electrical {p q : Part} (h : p.Upholds q) (e : Nat) : (q.entry e).electrical? = (p.entry e).electrical? := by
  rw [Entry.electrical?, Entry.electrical?, (h.entry e).definition]

theorem upholds_ite {c : Prop} [Decidable c] {p q r : Part} (hq : p.Upholds q) (hr : p.Upholds r) :
    p.Upholds (if c then q else r) := by
  split
  · exact hq
  · exact hr

theorem upholds_foldl {α : Type} {f : Part → α → Part} (h : ∀ v x, Part.Upholds v (f v x)) (xs : List α) (p : Part) :
    p.Upholds (xs.foldl f p) := by
  induction xs generalizing p with
  | nil => exact .refl p
  | cons x xs ih => exact (h p x).trans (ih _)

theorem upholds_forEach {f : Nat → Part → Part × List Task} (h : ∀ n v, Part.Upholds v (f n v).1) (ns : List Nat) (p : Part) :
    p.Upholds (p.forEach f ns).1 := by
  rw [forEach_fst]
  exact upholds_foldl (fun v n => h n v) ns p

/-! ### Soundness, entry by entry -/

/-- The ring, the short budget, the log and the entries sound together. -/
def Part.RecordsSound (p : Part) : Prop := p.RingAndBudgetSound ∧ p.LogSound ∧ p.EntriesSound

theorem empty_sound : Entry.empty.Sound := ⟨fun h => absurd rfl h, fun h => by rcases h with h | h <;> cases h⟩

/-- The entries are sound where the entry of every number is. -/
theorem entriesSound_iff (p : Part) : p.EntriesSound ↔ ∀ e, (p.entry e).Sound := by
  constructor
  · intro h e
    rcases Nat.lt_or_ge e p.entries.length with he | he
    · have hread : p.entry e = p.entries[e] := by simp [Part.entry, List.getD_eq_getElem?_getD, he]
      rw [hread]
      exact h _ (List.getElem_mem he)
    · rw [entry_of_le he]
      exact empty_sound
  · intro h x hx
    obtain ⟨e, he, rfl⟩ := List.getElem_of_mem hx
    have hread : p.entry e = p.entries[e] := by simp [Part.entry, List.getD_eq_getElem?_getD, he]
    exact hread ▸ h e

/-- Records that were sound are sound where they are upheld. -/
theorem Part.Upholds.recordsSound {p q : Part} (h : p.Upholds q) (hp : p.RecordsSound) : q.RecordsSound := by
  obtain ⟨⟨hring, hbudget⟩, hlog, hentries⟩ := hp
  rw [entriesSound_iff] at hentries
  exact ⟨⟨h.ring hring, h.budget hbudget⟩, h.log hlog, (entriesSound_iff q).mpr fun e => (h.entry e).sound (hentries e)⟩

/-- An ELECTRICAL entry may stand in any state. -/
theorem sound_of_electrical {x : Entry} (h : x.electrical?.isSome = true) : x.Sound := by
  refine ⟨fun _ => ?_, fun _ => h⟩
  rw [Entry.electrical?] at h
  exact Option.isSome_of_isSome_bind h

/-- A defined entry may stand in any state but the two of the matrix's steps. -/
theorem sound_of_defined {x : Entry} (h : x.definition.isSome = true) (hi : x.state ≠ .inserting) (hr : x.state ≠ .releasing) :
    x.Sound := ⟨fun _ => h, fun hx => (hx.elim hi hr).elim⟩

/-- Soundness looks at an entry's state and definition alone. -/
theorem Entry.Upholds.of_state {x y : Entry} (hd : y.definition = x.definition) (hs : y.state = x.state) : x.Upholds y := by
  refine ⟨hd, fun hx => ?_⟩
  rw [Entry.Sound, Entry.electrical?, hd, hs]
  exact hx

/-! ### Writes -/

@[simp] theorem raise_records (src : NoticeSource) (p : Part) : (p.raise src).records = p.records := by simp [Part.records]

theorem upholds_raise (src : NoticeSource) (p : Part) : p.Upholds (p.raise src) := upholds_of_records (raise_records src p)

theorem Part.Upholds.raise {p q : Part} (h : p.Upholds q) (src : NoticeSource) : p.Upholds (q.raise src) :=
  h.trans (upholds_raise src q)

theorem upholds_setEntry {e : Nat} {x : Entry} {p : Part} (h : (p.entry e).Upholds x) : p.Upholds (p.setEntry e x) := by
  refine ⟨id, id, id, fun k => ?_⟩
  rcases eq_or_ne k e with rfl | hk
  · rcases Nat.lt_or_ge k p.entries.length with hlt | hge
    · rw [entry_setEntry k x p hlt]
      exact h
    · have hsame : (p.setEntry k x).entries = p.entries := List.set_eq_of_length_le hge
      rw [entry_of_entries hsame]
      exact ⟨rfl, id⟩
  · rw [entry_setEntry_ne hk]
    exact ⟨rfl, id⟩

theorem upholds_enterEntry {e : Nat} {st : EntryState} {x : Entry} {p : Part} (h : (p.entry e).Upholds { x with state := st }) :
    p.Upholds (p.enterEntry e st x) := by
  unfold Part.enterEntry
  simp only
  exact upholds_ite (upholds_setEntry h) ((upholds_setEntry h).raise _)

/-- A logging leaves its class a first error and a count within its bound (R164). -/
theorem add_sound {r : ClassRecord} (h : r.Sound) (g : Logging) : (r.add g).Sound := by
  obtain ⟨hcount, hfirst⟩ := h
  unfold ClassRecord.add
  split
  · exact ⟨Nat.le_add_left 1 65534, by simp⟩
  · have hmax : Config.max16 = 65535 := rfl
    have hpos : 0 < r.count := by omega
    refine ⟨Nat.min_le_right .., ?_⟩
    simp only [hfirst.mpr hpos, true_iff, bump]
    omega

/-- A sound record written to a sound log leaves it sound. -/
theorem upholds_writeLog {p : Part} {r : ClassRecord} {c : ErrClass} (h : p.LogSound → r.Sound) :
    p.Upholds { p with log := p.log.write r c } := by
  refine ⟨id, id, fun hp => ?_, fun _ => ⟨rfl, id⟩⟩
  have hr := h hp
  obtain ⟨hcorrected, hrecoverable, hfatal⟩ := hp
  cases c with
  | corrected => exact ⟨hr, hrecoverable, hfatal⟩
  | recoverable => exact ⟨hcorrected, hr, hfatal⟩
  | fatal => exact ⟨hcorrected, hrecoverable, hr⟩

theorem log_of_sound {p : Part} (h : p.LogSound) (c : ErrClass) : (p.log.of c).Sound := by
  obtain ⟨hcorrected, hrecoverable, hfatal⟩ := h
  cases c with
  | corrected => exact hcorrected
  | recoverable => exact hrecoverable
  | fatal => exact hfatal

theorem upholds_logError (code : ErrCode) (sub : Subject) (d : Int) (p : Part) : p.Upholds (p.logError code sub d) :=
  (upholds_writeLog fun hp => add_sound (log_of_sound hp _) _).raise _

theorem Part.Upholds.logError {p q : Part} (h : p.Upholds q) (code : ErrCode) (sub : Subject) (d : Int) :
    p.Upholds (q.logError code sub d) := h.trans (upholds_logError code sub d q)

theorem upholds_clearClass (c : ErrClass) (p : Part) : p.Upholds (p.clearClass c) :=
  upholds_writeLog fun _ => ⟨Nat.zero_le _, by simp [ClassRecord.none]⟩

/-- A record offered joins the ring only where it holds fewer than 512 (R93). -/
theorem upholds_offer (m : Nat) (up : Bool) (p : Part) : p.Upholds (p.offer m up) := by
  have hlimit : Config.ringLimit = 512 := rfl
  unfold Part.offer
  simp only
  split
  · have hjoined (r : CaptureRecord) :
        p.Upholds { p with capture := { p.capture with ring := p.capture.ring ++ [r], dropMark := false } } := by
      refine ⟨fun _ => ?_, id, id, fun _ => ⟨rfl, id⟩⟩
      rw [List.length_append, List.length_singleton]
      omega
    exact upholds_ite ((hjoined _).raise _) (hjoined _)
  · have hdropped (n : Nat) : p.Upholds { p with capture := { p.capture with dropped := n, dropMark := true } } :=
      ⟨id, id, id, fun _ => ⟨rfl, id⟩⟩
    exact upholds_ite (hdropped _) ((hdropped _).logError _ _ _)

/-- A table of entries each upheld upholds the part's. -/
theorem upholds_mapEntries {f : Entry → Entry} (h : ∀ x : Entry, x.Upholds (f x)) (p : Part) :
    p.Upholds { p with entries := p.entries.map f } := by
  refine ⟨id, id, id, fun e => ?_⟩
  simp only [Part.entry, List.getD_eq_getElem?_getD, List.getElem?_map]
  cases p.entries[e]? with
  | none => exact ⟨rfl, id⟩
  | some x => exact h x

/-! ### Channels and the store -/

theorem upholds_enterState (c : Nat) (st : ChState) (ch : Channel) (p : Part) : p.Upholds (p.enterState c st ch) := by
  unfold Part.enterState
  simp only
  have hput (x : Channel) : p.Upholds (p.putChannel c x) := upholds_of_records rfl
  exact upholds_ite (hput _) ((hput _).raise _)

theorem upholds_renderAgain (c : Nat) (p : Part) : p.Upholds (p.renderAgain c) := upholds_ite (upholds_of_records rfl) (.refl p)

theorem upholds_starve (c marker : Nat) (p : Part) : p.Upholds (p.starve c marker) :=
  (upholds_logError ..).trans (upholds_enterState ..)

theorem upholds_faultChannel (c slot : Nat) (p : Part) : p.Upholds (p.faultChannel c slot) :=
  (upholds_logError ..).trans (upholds_enterState ..)

theorem upholds_readSlot (c slot : Nat) (p : Part) : p.Upholds (p.readSlot c slot).2 := by
  unfold Part.readSlot
  split
  · exact .refl p
  · have hmended (ds : List (Nat × SlotError)) : p.Upholds { p with damage := ds } := upholds_of_records rfl
    exact (hmended _).logError ..
  · exact .refl p

theorem upholds_arrive (c place : Nat) (carry : Option Nat) (before marker : Nat) (p : Part) :
    p.Upholds (p.arrive c place carry before marker).1 := by
  unfold Part.arrive
  split
  · exact upholds_starve ..
  · rename_i q _
    have hread := upholds_readSlot c q.slot p
    split
    · rename_i p' hp
      rw [hp] at hread
      exact hread.trans (upholds_faultChannel ..)
    · rename_i p' hp
      rw [hp] at hread
      split
      · exact hread.of_records rfl
      · simp only
        split <;> exact hread.of_records rfl

theorem upholds_endSegment (c : Nat) (p : Part) : p.Upholds (p.endSegment c).1 := by
  unfold Part.endSegment
  simp only
  split
  · split
    · split
      · exact upholds_enterState ..
      · exact upholds_of_records rfl
    · exact .refl p
  · exact .refl p

theorem upholds_startMember (c : Nat) (p : Part) : p.Upholds (p.startMember c).1 := by
  unfold Part.startMember
  simp only
  split
  · split
    · exact (upholds_enterState ..).of_records rfl
    · exact upholds_enterState ..
  · exact .refl p

theorem upholds_resume (c : Nat) (p : Part) : p.Upholds (p.resume c).1 := by
  unfold Part.resume
  simp only
  split
  · split
    · split
      · exact upholds_faultChannel ..
      · exact upholds_enterState ..
    · exact .refl p
  · exact .refl p

theorem upholds_runStart (c : Nat) (p : Part) : p.Upholds (p.runStart c).1 := by
  unfold Part.runStart
  simp only
  split
  · split
    · split <;> exact upholds_of_records rfl
    · exact .refl p
  · exact .refl p

theorem upholds_playDue (c : Nat) (p : Part) : p.Upholds (p.playDue c).1 := by
  unfold Part.playDue
  split
  · split
    · exact upholds_runStart ..
    · exact upholds_endSegment ..
  · exact upholds_resume ..
  · exact .refl p

end Sys2Proof.Machine
end

section
/-! SUPPORT. Records upheld by the matrix, its releases, lockout and readbacks (R104 to R120, R126). -/

namespace Sys2Proof.Machine

open Sys2Proof

/-! ### Lines and cells -/

theorem upholds_setLine (l : Nat) (x : Line) (p : Part) : p.Upholds (p.setLine l x) := upholds_of_records rfl

theorem upholds_setCell (l : Nat) (c : CellId) (x : Cell) (p : Part) : p.Upholds (p.setCell l c x) := upholds_setLine ..

/-- What is written of the matrix alone upholds the records. -/
theorem upholds_matrix (m : Matrix) (p : Part) : p.Upholds { p with matrix := m } := upholds_of_records rfl

theorem Part.Upholds.matrix {p q : Part} (h : p.Upholds q) (m : Matrix) : p.Upholds { q with matrix := m } :=
  h.trans (upholds_matrix m q)

theorem upholds_setLineState (l : Nat) (st : LineState) (p : Part) : p.Upholds (p.setLineState l st) := by
  have hset : p.Upholds (p.setLine l { p.line l with state := st }) := upholds_setLine ..
  unfold Part.setLineState
  simp only
  split
  · exact hset
  · exact hset
  · exact upholds_ite hset (hset.raise _)

theorem upholds_setMatrixState (st : MatrixState) (p : Part) : p.Upholds (p.setMatrixState st) := by
  have hset : p.Upholds { p with matrix := { p.matrix with state := st } } := upholds_matrix ..
  exact upholds_ite hset (hset.raise _)

theorem upholds_commandClose (l : Nat) (c : CellId) (p : Part) : p.Upholds (p.commandClose l c) :=
  upholds_ite (upholds_setLine ..) (upholds_ite (.refl p) (upholds_ite (upholds_setLine ..) (upholds_setLine ..)))

theorem upholds_giveCommands (closing : Bool) (ts : List (Nat × CellId)) (p : Part) : p.Upholds (p.giveCommands closing ts) :=
  upholds_foldl (fun _ _ => upholds_ite (upholds_commandClose ..) (upholds_setLine ..)) ts p

theorem upholds_beginAttempt (closing verified : Bool) (n : Nat) (ts : List (Nat × CellId)) (p : Part) :
    p.Upholds (p.beginAttempt closing verified n ts).1 := upholds_giveCommands ..

theorem upholds_countNoMake (l : Nat) (c : CellId) (p : Part) : p.Upholds (p.countNoMake l c) := by
  have hworn (x y : Cell) : p.Upholds ((p.setCell l c x).setCell l c y) := (upholds_setCell ..).trans (upholds_setCell ..)
  exact upholds_ite (((hworn _ _).logError _ _ _).raise _) (upholds_setCell ..)

theorem upholds_readBack (closing : Bool) (ts : List (Nat × CellId)) (p : Part) : p.Upholds (p.readBack closing ts) := by
  refine upholds_foldl (fun v t => ?_) ts p
  have hsensed : v.Upholds (v.sense t.1 t.2) := upholds_setCell ..
  exact upholds_ite hsensed (hsensed.trans (upholds_countNoMake ..))

theorem upholds_logRetries (n : Nat) (ts : List (Nat × CellId)) (p : Part) : p.Upholds (p.logRetries n ts) :=
  upholds_ite (.refl p) (upholds_foldl (fun _ _ => upholds_logError ..) ts p)

theorem upholds_logNoMakes (ts : List (Nat × CellId)) (p : Part) : p.Upholds (p.logNoMakes ts) :=
  upholds_foldl (fun _ _ => upholds_logError ..) ts p

theorem upholds_isolate (l : Nat) (c : CellId) (p : Part) : p.Upholds (p.isolate l c) := by
  have hopened : p.Upholds (allCells.foldl (fun q k => q.commandOpen l k) p) :=
    upholds_foldl (fun _ _ => upholds_setLine ..) allCells p
  exact (hopened.trans (upholds_setLine ..)).raise _

theorem upholds_setTermination (d : Electrical) (t : Termination) (p : Part) : p.Upholds (p.setTermination d t) := by
  unfold Part.setTermination
  split
  · exact upholds_matrix ..
  · exact .refl p

/-! ### Releases and lockout -/

/-- The matrix's steps of an entry are no part of its state or its definition. -/
theorem upholds_setSeq (e : Nat) (seq : Option Seq) (p : Part) : p.Upholds (p.setEntry e { p.entry e with seq := seq }) :=
  upholds_setEntry (.of_state rfl rfl)

theorem upholds_recordCause (e : Nat) (cause : EndCause) (p : Part) : p.Upholds (p.recordCause e cause) :=
  upholds_ite (.refl p) (upholds_setEntry (.of_state rfl rfl))

theorem upholds_releaseClosing (e : Nat) (fast : Bool) (broken : List Nat) (p : Part) :
    p.Upholds (p.releaseClosing e fast broken).1 := by
  unfold Part.releaseClosing
  simp only
  split
  · exact upholds_setSeq ..
  · exact (upholds_beginAttempt ..).trans (upholds_setSeq ..)

theorem upholds_releaseOpening (e : Nat) (fast : Bool) (p : Part) : p.Upholds (p.releaseOpening e fast).1 := by
  unfold Part.releaseOpening
  simp only
  split
  · exact upholds_releaseClosing ..
  · exact (upholds_beginAttempt ..).trans (upholds_setSeq ..)

/-- An ELECTRICAL entry's release may begin (R126). -/
theorem upholds_beginRelease {e : Nat} {p : Part} (h : (p.entry e).electrical?.isSome = true) (fast : Bool) :
    p.Upholds (p.beginRelease e fast).1 := by
  unfold Part.beginRelease
  refine Part.Upholds.trans ?_ (upholds_releaseOpening ..)
  refine Part.Upholds.trans ?_ (upholds_foldl (fun _ _ => upholds_setLine ..) _ _)
  exact upholds_enterEntry ⟨rfl, fun _ => sound_of_electrical h⟩

theorem Part.Upholds.beginRelease {e : Nat} {p q : Part} (h : p.Upholds q) (hp : (p.entry e).electrical?.isSome = true)
    (fast : Bool) : p.Upholds (q.beginRelease e fast).1 := h.trans (upholds_beginRelease (by rw [h.electrical]; exact hp) fast)

theorem upholds_holdBackCloses (e : Nat) (p : Part) : p.Upholds (p.holdBackCloses e) := by
  unfold Part.holdBackCloses
  split
  · exact upholds_ite (upholds_foldl (fun _ _ => upholds_setCell ..) _ p) (.refl p)
  · exact .refl p

theorem upholds_lockEntry (e : Nat) (p : Part) : p.Upholds (p.lockEntry e).1 := by
  unfold Part.lockEntry
  simp only
  split
  · rename_i hd _
    exact ((upholds_recordCause ..).trans (upholds_holdBackCloses ..)).beginRelease (Option.isSome_of_mem hd) _
  · rename_i hd _
    exact (upholds_recordCause ..).beginRelease (Option.isSome_of_mem hd) _
  · exact upholds_setSeq ..
  · exact .refl p

theorem upholds_lockOut (welds : List (Nat × CellId)) (p : Part) : p.Upholds (p.lockOut welds).1 := by
  have hisolated : p.Upholds (welds.foldl (fun q w => q.isolate w.1 w.2) (p.setMatrixState .lockout)) :=
    (upholds_setMatrixState ..).trans (upholds_foldl (fun _ _ => upholds_isolate ..) welds _)
  unfold Part.lockOut
  simp only
  split
  · exact hisolated.trans (upholds_forEach upholds_lockEntry _ _)
  · exact hisolated

theorem upholds_weldsFound (place : WeldPlace) (welds : List (Nat × CellId)) (p : Part) :
    p.Upholds (p.weldsFound place welds).1 := by
  unfold Part.weldsFound
  split
  · exact .refl p
  · exact (upholds_foldl (fun _ _ => upholds_logError ..) _ p).trans (upholds_lockOut ..)

/-! ### Insertion and its readbacks -/

theorem upholds_beginInsertStep (e : Nat) (followed : Option Nat) (st : InsertStep) (rest : List InsertStep) (p : Part) :
    p.Upholds (p.beginInsertStep e followed st rest) := by
  cases st <;> exact (upholds_beginAttempt _ true 1 _ p).trans (upholds_setSeq ..)

theorem upholds_acceptInsertion (e : Nat) (d : Electrical) (p : Part) : p.Upholds (p.acceptInsertion e d) := by
  have hheld : p.Upholds (d.lines.foldl (fun q l => q.setLineState l (.held e)) p) :=
    upholds_foldl (fun _ _ => upholds_setLineState ..) _ p
  have hset (t : Option Termination) (v : Part) : v.Upholds (match t with
      | some t => v.setTermination d t
      | none => v) := by
    cases t with
    | none => exact .refl v
    | some t => exact upholds_setTermination ..
  unfold Part.acceptInsertion
  simp only
  split
  · exact (hheld.trans (hset _ _)).trans (upholds_beginInsertStep ..)
  · exact hheld.trans (hset _ _)

/-- An insertion's end leaves an ELECTRICAL entry ACTIVE, RELEASING or at its next step (R106, R112, R114). -/
theorem upholds_insertStepEnded {e : Nat} {p : Part} (h : (p.entry e).electrical?.isSome = true) (d : Electrical) (ok : Bool)
    (rest : List InsertStep) (disarmed : Bool) : p.Upholds (p.insertStepEnded e d ok rest disarmed).1 := by
  unfold Part.insertStepEnded
  split
  · exact upholds_beginRelease h _
  · split
    · exact (upholds_recordCause ..).beginRelease h _
    · split
      · exact upholds_beginInsertStep ..
      · exact upholds_enterEntry ⟨rfl, fun _ => sound_of_electrical h⟩

theorem upholds_retry (e : Nat) (s : Seq) (wrong : List (Nat × CellId)) (p : Part) : p.Upholds (p.retry e s wrong) :=
  (upholds_beginAttempt s.step.closing true (s.step.attempt + 1) wrong p).trans (upholds_setSeq ..)

theorem upholds_stepEnded {e : Nat} {p : Part} (h : (p.entry e).electrical?.isSome = true) (d : Electrical) (s : Seq)
    (wrong : List (Nat × CellId)) (place : WeldPlace) : p.Upholds (p.stepEnded e d s wrong place).1 := by
  have hlogged := upholds_logNoMakes wrong p
  have hwelds := upholds_weldsFound place wrong p
  unfold Part.stepEnded
  split
  · simp only
    split
    · exact hlogged.trans (upholds_insertStepEnded (by rw [hlogged.electrical]; exact h) ..)
    · exact hlogged.trans (upholds_setSeq ..)
  · simp only
    split
    · split
      · exact hwelds.trans (upholds_insertStepEnded (by rw [hwelds.electrical]; exact h) ..)
      · split
        · exact (hwelds.trans (upholds_recordCause ..)).beginRelease h _
        · exact hwelds
    · exact hwelds.trans (upholds_releaseClosing ..)

theorem Part.Upholds.stepEnded {e : Nat} {p q : Part} (hq : p.Upholds q) {d : Electrical}
    (h : (p.entry e).electrical? = some d) (s : Seq) (wrong : List (Nat × CellId)) (place : WeldPlace) :
    p.Upholds (q.stepEnded e d s wrong place).1 :=
  hq.trans (upholds_stepEnded (by rw [hq.electrical, h]; rfl) d s wrong place)

theorem upholds_stepReadback (e : Nat) (p : Part) : p.Upholds (p.stepReadback e).1 := by
  have hread (closing : Bool) (ts right : List (Nat × CellId)) (n : Nat) :
      p.Upholds ((p.readBack closing ts).logRetries n right) := (upholds_readBack ..).trans (upholds_logRetries ..)
  unfold Part.stepReadback
  simp only
  split
  · rename_i d s hd _
    split
    · split
      · exact (hread ..).stepEnded hd ..
      · exact (hread ..).trans (upholds_retry ..)
    · exact .refl p
  · exact .refl p

theorem upholds_fastReadback (e : Nat) (p : Part) : p.Upholds (p.fastReadback e).1 := by
  unfold Part.fastReadback
  simp only
  split
  · rename_i d s hd _
    split
    · exact (upholds_readBack ..).stepEnded hd ..
    · exact .refl p
  · exact .refl p

theorem upholds_giveHeldClose (l : Nat) (p : Part) : p.Upholds (p.giveHeldClose l) := by
  have hgiven (c : CellId) : p.Upholds (p.commandClosed l c) := upholds_setLine ..
  unfold Part.giveHeldClose
  simp only
  split
  · split
    · exact .refl p
    · split
      · split
        · exact upholds_ite ((hgiven _).trans (upholds_setSeq ..)) (hgiven _)
        · exact hgiven _
      · exact hgiven _
  · exact .refl p

/-! ### Isolation readback, patrol, restore and health -/

theorem upholds_readIsolated (l : Nat) (logged : CellId) (p : Part) : p.Upholds (p.readIsolated l logged) := by
  refine upholds_foldl (fun v c => ?_) allCells p
  have hsensed : v.Upholds (v.sense l c) := upholds_setCell ..
  have hcounted := hsensed.trans (upholds_countNoMake l c _)
  exact upholds_ite (upholds_ite hcounted (hcounted.logError ..)) hsensed

theorem upholds_isolationReadback (l : Nat) (p : Part) : p.Upholds (p.isolationReadback l).1 := by
  have hread (c : CellId) : p.Upholds ((p.setLine l { p.line l with isolation := none }).readIsolated l c) :=
    (upholds_setLine ..).trans (upholds_readIsolated ..)
  unfold Part.isolationReadback
  simp only
  split
  · rename_i i _
    have hlogged := hread i.logged
    generalize Part.readIsolated _ _ _ = v at hlogged ⊢
    split
    · split
      · exact upholds_ite (hlogged.trans (upholds_setLineState ..)) hlogged
      · split
        · exact hlogged
        · exact hlogged.trans (upholds_lockOut ..)
    · exact .refl p
  · exact .refl p

theorem upholds_patrolLine (l : Nat) (p : Part) : p.Upholds (p.patrolLine l).1 := by
  have hsensed : p.Upholds (allCells.foldl (fun q c => q.sense l c) p) :=
    upholds_foldl (fun _ _ => upholds_setCell ..) allCells p
  unfold Part.patrolLine
  simp only
  split
  · exact .refl p
  · split
    · split
      · exact hsensed
      · exact (hsensed.trans (upholds_setLine ..)).raise _
    · split
      · exact hsensed.trans (upholds_weldsFound ..)
      · split
        · exact (hsensed.trans (upholds_setLineState ..)).logError ..
        · split
          · exact hsensed.trans (upholds_setLineState ..)
          · exact hsensed

theorem upholds_patrolStep (p : Part) : p.Upholds p.patrolStep.1 := by
  have hmoved (m : Matrix) : p.Upholds { (p.patrolLine p.matrix.patrolPosition).1 with matrix := m } :=
    (upholds_patrolLine ..).matrix m
  unfold Part.patrolStep
  simp only
  split
  · exact upholds_ite ((hmoved _).trans (upholds_setMatrixState ..)) (hmoved _)
  · exact .refl p

theorem upholds_restoreLine (wrong : List (Nat × CellId)) (l : Nat) (p : Part) : p.Upholds (p.restoreLine wrong l) := by
  unfold Part.restoreLine
  split
  · exact upholds_setLineState ..
  · exact upholds_setLine ..
  · exact .refl p

theorem upholds_restoreReadback (p : Part) : p.Upholds p.restoreReadback := by
  have hread (closing : Bool) (ts right : List (Nat × CellId)) (n : Nat) :
      p.Upholds ((p.readBack closing ts).logRetries n right) := (upholds_readBack ..).trans (upholds_logRetries ..)
  have hlines (wrong : List (Nat × CellId)) (ls : List Nat) (v : Part) :
      v.Upholds (ls.foldl (fun q l => q.restoreLine wrong l) (v.logNoMakes wrong)) :=
    (upholds_logNoMakes ..).trans (upholds_foldl (fun _ _ => upholds_restoreLine ..) ls _)
  unfold Part.restoreReadback
  simp only
  split
  · rename_i r _
    split
    · split
      · exact ((hread ..).trans (upholds_beginAttempt ..)).matrix _
      · have hended := (hread true r.step.targets (p.readRight true r.step.targets) r.step.attempt).trans
          (hlines (p.readWrong true r.step.targets) r.lines _)
        generalize List.foldl _ _ _ = v at hended ⊢
        exact (upholds_ite (hended.matrix _) ((hended.matrix _).trans (upholds_setMatrixState ..))).raise _
    · exact .refl p
  · exact .refl p

theorem upholds_wearOut (l : Nat) (c : CellId) (p : Part) : p.Upholds (p.wearOut l c) := by
  exact upholds_ite (((upholds_setCell ..).logError _ _ _).raise _) (.refl p)

theorem upholds_patrolCfg (settle interval wear : Option Nat) (p : Part) : p.Upholds (p.patrolCfg settle interval wear) := by
  have hworn (v : Part) : v.Upholds v.wearOutAll :=
    upholds_foldl (fun w l => upholds_foldl (fun u c => upholds_wearOut l c u) allCells w) _ v
  exact upholds_ite ((upholds_matrix ..).trans (hworn _)) (upholds_matrix ..)

theorem upholds_restoreCells (l : Nat) (cells : List CellId) (p : Part) : p.Upholds (p.restoreCells l cells) := by
  have hcells : p.Upholds (cells.foldl (fun q c => q.setCell l c (q.cell l c).restored) p) :=
    upholds_foldl (fun _ _ => upholds_setCell ..) cells p
  exact upholds_ite (hcells.raise _) hcells

theorem upholds_beginRestore (p : Part) : p.Upholds p.beginRestore := (upholds_beginAttempt ..).matrix _

/-- A reading of the currents writes the overcurrent runs of the entries alone (R141). -/
theorem upholds_readCurrents (p : Part) : p.Upholds p.readCurrents := by
  have hwatch (now : Nat) (m : Matrix) (x : Entry) : x.Upholds (x.watch now m) := by
    unfold Entry.watch
    split
    · exact .of_state rfl rfl
    · exact .of_state rfl rfl
  exact (upholds_mapEntries (hwatch _ _) p).matrix _

end Sys2Proof.Machine
end

section
/-! SUPPORT. Records upheld by the schedule and the whole cascade (R126, R134 to R149). -/

namespace Sys2Proof.Machine

open Sys2Proof

/-! ### Claims (R136) -/

/-- A give-back lowers the short budget or leaves it. -/
theorem giveBack_budget_le (cl : Claims) (e : Nat) (c : EntryClass) : (cl.giveBack e c).budget ≤ cl.budget := by
  cases c with
  | electrical d => exact Nat.sub_le ..
  | signal c f => exact Nat.le_refl _

/-- Claims that are free are taken within the short budget. -/
theorem take_budget_le {cl : Claims} {e : Nat} {c : EntryClass} (h : cl.freeOf e c = true) (hcl : cl.budget ≤ 8) :
    (cl.take e c).budget ≤ 8 := by
  cases c with
  | electrical d =>
    have hshort : Config.shortBudget = 8 := rfl
    simp only [Claims.freeOf, Bool.and_eq_true, Bool.or_eq_true, decide_eq_true_eq] at h
    obtain ⟨_, hroom⟩ := h
    show cl.budget + d.budget ≤ 8
    unfold Electrical.budget
    split
    · simp_all
    · exact hcl
  | signal c f => exact hcl

theorem upholds_claims {cl : Claims} {p : Part} (h : p.claims.budget ≤ 8 → cl.budget ≤ 8) : p.Upholds { p with claims := cl } :=
  ⟨id, h, id, fun _ => ⟨rfl, id⟩⟩

theorem enterEntry_claims (e : Nat) (st : EntryState) (x : Entry) (p : Part) : (p.enterEntry e st x).claims = p.claims := by
  unfold Part.enterEntry
  simp only
  split
  · rfl
  · exact raise_claims ..

/-- An entry put in a state with all that it claims, where that is free (R136). -/
theorem upholds_entered {e : Nat} {st : EntryState} {x : Entry} {c : EntryClass} {p : Part}
    (h : (p.entry e).Upholds { x with state := st }) (hfree : p.claims.freeOf e c = true) :
    p.Upholds { p.enterEntry e st x with claims := (p.enterEntry e st x).claims.take e c } := by
  refine (upholds_enterEntry h).trans (upholds_claims fun hb => take_budget_le ?_ hb)
  rw [enterEntry_claims]
  exact hfree

theorem upholds_giveBack (e : Nat) (c : EntryClass) (p : Part) : p.Upholds (p.giveBack e c).1 :=
  upholds_claims (giveBack_budget_le ..).trans

/-! ### Occurrences ended (R113, R139, R143, R144) -/

theorem upholds_released (e : Nat) (broken : List Nat) (p : Part) : p.Upholds (p.released e broken).1 := by
  unfold Part.released
  split
  · rename_i d _
    have hfreed : p.Upholds (if d.kind.leaks then p.setTermination d .none else p) :=
      upholds_ite (upholds_setTermination ..) (.refl p)
    refine Part.Upholds.trans (Part.Upholds.trans ?_ (upholds_setSeq e none _)) (upholds_giveBack ..)
    exact hfreed.trans (upholds_foldl (fun _ _ => upholds_setLineState ..) _ _)
  · exact .refl p

theorem upholds_setChannel (c : Nat) (x : Channel) (p : Part) : p.Upholds (p.setChannel c x) := upholds_of_records rfl

theorem upholds_endSignal (e c : Nat) (f : SigFault) (p : Part) : p.Upholds (p.endSignal e c f).1 :=
  Part.Upholds.trans (upholds_ite (upholds_setChannel ..) (.refl p)) (upholds_giveBack ..)

theorem upholds_endActive (e : Nat) (cause : EndCause) (p : Part) : p.Upholds (p.endActive e cause).1 := by
  unfold Part.endActive
  simp only
  split
  · rename_i d _ _ hcls
    refine (upholds_recordCause ..).beginRelease ?_ _
    obtain ⟨def', hdef, hclass⟩ := Option.map_eq_some_iff.mp hcls
    rw [electrical_of_definition hdef hclass]
    rfl
  · exact (upholds_recordCause ..).trans (upholds_endSignal ..)
  · exact .refl p

theorem upholds_endUnclaimed (e : Nat) (cause : EndCause) (p : Part) : p.Upholds (p.endUnclaimed e cause).1 :=
  upholds_recordCause ..

/-- No occurrence settles its entry into a state of the matrix's steps (R144). -/
theorem settledState_cases (cause : EndCause) (n : Nat) (safe : Bool) :
    (settledState cause n safe).1 ≠ .inserting ∧ (settledState cause n safe).1 ≠ .releasing := by
  cases cause <;> cases safe <;> (unfold settledState; constructor) <;> split_ifs <;> exact EntryState.noConfusion

theorem upholds_finish (e : Nat) (p : Part) : p.Upholds (p.finish e).1 := by
  unfold Part.finish
  simp only
  split
  · rename_i cause d _ hd
    have hlogged (n : Int) :
        p.Upholds (if cause = .missed then p.logError .entryMissed (.entry e) n else p) :=
      upholds_ite (upholds_logError ..) (.refl p)
    obtain ⟨hi, hr⟩ := settledState_cases cause (p.entry e).repeatsRemaining p.inSafe
    refine (hlogged _).trans (upholds_enterEntry ⟨((hlogged _).entry e).definition.symm, fun _ => ?_⟩)
    exact sound_of_defined (Option.isSome_of_mem hd) hi hr
  · exact .refl p

/-! ### Becoming due and being granted (R134 to R139) -/

section
variable {e : Nat} {p : Part}

theorem defined_of_cls {c : EntryClass} (h : (p.entry e).definition.map EntryDef.cls = some c) :
    (p.entry e).definition.isSome = true := by
  obtain ⟨d, hd, _⟩ := Option.map_eq_some_iff.mp h
  exact Option.isSome_of_mem hd

theorem upholds_block (h : (p.entry e).definition.isSome = true) : p.Upholds (p.block e) :=
  upholds_ite (.refl p)
    (upholds_enterEntry ⟨rfl, fun _ => sound_of_defined h EntryState.noConfusion EntryState.noConfusion⟩)

theorem upholds_grantElectrical {d : Electrical} (h : (p.entry e).electrical?.isSome = true)
    (hfree : p.claims.freeOf e (.electrical d) = true) : p.Upholds (p.grantElectrical e d).1 := by
  unfold Part.grantElectrical
  refine Part.Upholds.trans ?_ (upholds_acceptInsertion ..)
  exact upholds_entered ⟨rfl, fun _ => sound_of_electrical h⟩ hfree

theorem upholds_grantSignal (h : (p.entry e).definition.isSome = true) {c : Nat} {f : SigFault}
    (hfree : p.claims.freeOf e (.signal c f) = true) : p.Upholds (p.grantSignal e c f).1 := by
  unfold Part.grantSignal
  refine Part.Upholds.trans ?_ (upholds_setChannel ..)
  exact upholds_entered ⟨rfl, fun _ => sound_of_defined h EntryState.noConfusion EntryState.noConfusion⟩ hfree

end

theorem upholds_askClaims (e : Nat) (back : List Nat) (p : Part) : p.Upholds (p.askClaims e back).1 := by
  unfold Part.askClaims
  split
  · rename_i c f hcls
    split
    · exact upholds_endUnclaimed ..
    · split
      · rename_i hfree
        exact upholds_grantSignal (defined_of_cls hcls) hfree
      · exact upholds_block (defined_of_cls hcls)
  · rename_i d hcls
    split
    · rename_i hfree
      split
      · exact upholds_endUnclaimed ..
      · exact upholds_endUnclaimed ..
      · refine upholds_grantElectrical ?_ hfree
        obtain ⟨def', hdef, hclass⟩ := Option.map_eq_some_iff.mp hcls
        rw [electrical_of_definition hdef hclass]
        rfl
    · exact upholds_block (defined_of_cls hcls)
  · exact .refl p

theorem upholds_due (e : Nat) (w : Waiting) (point : Nat) (p : Part) : p.Upholds (p.due e w point).1 := by
  unfold Part.due
  simp only
  split
  · split
    · have hbegun {x : Entry} (hd : x.definition = (p.entry e).definition) (hs : x.state = (p.entry e).state) :
          p.Upholds (p.setEntry e x) := upholds_setEntry (.of_state hd hs)
      split
      · exact (hbegun (by rfl) (by rfl)).trans (upholds_endUnclaimed e .missed _)
      · exact (hbegun (by rfl) (by rfl)).trans (upholds_askClaims e [] _)
    · exact .refl p
  · exact .refl p

theorem upholds_judge (e : Nat) (back : List Nat) (p : Part) : p.Upholds (p.judge e back).1 := by
  unfold Part.judge
  split
  · exact upholds_askClaims ..
  · exact .refl p

/-! ### The cascade -/

theorem upholds_occur (o : Occurrence) (p : Part) : p.Upholds (p.occur o).1 := by
  have hcounted : p.Upholds ((p.matching o).foldl (fun q s => q.countOn o s) p) :=
    upholds_foldl (fun _ _ => upholds_of_records (by rfl)) _ p
  unfold Part.occur
  refine hcounted.trans ?_
  unfold Part.watchFrom
  split
  · exact upholds_ite (upholds_setEntry (.of_state rfl rfl)) (.refl _)
  · exact .refl _

theorem upholds_startGroup (g : Nat) (w : Waiting) (p : Part) : p.Upholds (p.startGroup g w).1 := by
  unfold Part.startGroup
  simp only
  split
  · exact upholds_of_records rfl
  · exact .refl p

/-- Every piece of work upholds the records. -/
theorem upholds_doTask (t : Task) (p : Part) : p.Upholds (p.doTask t).1 := by
  cases t with
  | occur o => exact upholds_occur o p
  | notify src => exact upholds_raise src p
  | due e w point => exact upholds_due e w point p
  | startGroup g w => exact upholds_startGroup g w p
  | startMember c => exact upholds_startMember c p
  | groupDone g n => exact upholds_of_records rfl
  | arrive c place carry before marker => exact upholds_arrive c place carry before marker p
  | lowWater c before => exact upholds_ite (upholds_raise ..) (.refl p)
  | endSegment c => exact upholds_endSegment c p
  | resume c => exact upholds_resume c p
  | capture m up => exact upholds_offer m up p
  | renderAgain c => exact upholds_renderAgain c p
  | play c => exact upholds_playDue c p
  | endUntil e ended =>
    simp only [Part.doTask]
    split
    · exact upholds_endActive e .completed p
    · exact .refl p
  | endActive e cause => exact upholds_endActive e cause p
  | judge e back => exact upholds_judge e back p
  | released e broken => exact upholds_released e broken p
  | finish e => exact upholds_finish e p

/-- Work begun from a part that `p` upholds leaves one that `p` upholds. -/
theorem Part.Upholds.settled {p : Part} {r : Part × List Task} (h : p.Upholds r.1) : p.Upholds (settleAll r) :=
  settleAll_keeps (P := p.Upholds) (fun t q hq => hq.trans (upholds_doTask t q)) r h

/-- A motion writes the angle travelled of the entries that are ACTIVE (R140). -/
theorem upholds_addTravel (m : Move) (p : Part) : p.Upholds (p.addTravel m) := by
  rw [addTravel_eq]
  refine Part.Upholds.of_records (upholds_mapEntries (fun x => ?_) p) rfl
  split
  · split <;> exact .of_state rfl rfl
  · exact .of_state rfl rfl

theorem upholds_takeMove (em : Engine × Move) (p : Part) : p.Upholds (p.takeMove em) := by
  have hturned : p.Upholds { p with engine := em.1 } := upholds_of_records rfl
  have hmet (v : Part) : v.Upholds (v.passings em.2).1 := upholds_of_records (by rw [passings_eq]; rfl)
  have hrendered (v : Part) : v.Upholds v.renderTravels.renderWheels := upholds_of_records rfl
  exact ((hturned.trans (upholds_addTravel em.2 _)).trans (hmet _)).settled.trans (hrendered _)

end Sys2Proof.Machine
end

section
/-! SUPPORT. Records upheld by what each block's requests and events do (R93, R126, R157, R164). -/

namespace Sys2Proof.Machine

open Sys2Proof

/-! ### Channels, engine and tick -/

theorem upholds_putChannel (c : Nat) (x : Channel) (p : Part) : p.Upholds (p.putChannel c x) := upholds_of_records rfl

theorem upholds_play (c : Nat) (p : Part) : p.Upholds (p.play c) := (upholds_playDue c p).settled

theorem upholds_configure (c : Nat) (cfg : ChConfig) (p : Part) : p.Upholds (p.configure c cfg) :=
  upholds_ite (upholds_enterState ..) (upholds_putChannel ..)

theorem upholds_startChannel (c : Nat) (p : Part) : p.Upholds (p.startChannel c) := by
  unfold Part.startChannel
  simp only
  split <;> exact upholds_enterState ..

theorem upholds_disableChannel (c : Nat) (p : Part) : p.Upholds (p.disableChannel c) :=
  upholds_ite (.refl p) (Part.Upholds.settled (upholds_enterState ..))

theorem upholds_levelTick (p : Part) : p.Upholds p.levelTick :=
  (Part.Upholds.settled (.refl p)).of_records rfl

theorem upholds_endPwmPeriod (c : Nat) (p : Part) : p.Upholds (p.endPwmPeriod c) := by
  unfold Part.endPwmPeriod
  split
  · exact (upholds_play c p).trans (upholds_putChannel ..)
  · exact .refl p

theorem upholds_endPulsePeriod (c : Nat) (p : Part) : p.Upholds (p.endPulsePeriod c) := by
  unfold Part.endPulsePeriod
  split
  · exact (upholds_play c p).trans (upholds_putChannel ..)
  · exact .refl p

theorem upholds_breakLoop (c : Nat) (p : Part) : p.Upholds (p.breakLoop c) := by
  unfold Part.breakLoop
  simp only
  split
  · split
    · exact upholds_setChannel ..
    · exact .refl p
  · exact .refl p

theorem upholds_setEngine (e : Engine) (p : Part) : p.Upholds (p.setEngine e) := by
  have hset : p.Upholds { p with engine := e } := upholds_of_records rfl
  exact upholds_ite hset (hset.raise _)

theorem upholds_engineMode (mode : Mode) (c : Nat) (p : Part) : p.Upholds (p.engineMode mode c) :=
  upholds_ite (upholds_ite (upholds_of_records rfl) (.refl p)) (upholds_setEngine ..)

theorem upholds_indexPulse (p : Part) : p.Upholds p.indexPulse :=
  upholds_ite ((upholds_takeMove ..).logError ..) (upholds_takeMove ..)

theorem upholds_ringTest (p : Part) : p.Upholds p.ringTest :=
  upholds_ite (.refl p) (upholds_ite (upholds_raise ..) (upholds_of_records rfl))

theorem upholds_tick (changes : List PinChange) (p : Part) : p.Upholds (p.tick changes) := by
  have honto : p.Upholds (p.onto changes).tickTakes.sampleTriggers := upholds_of_records (by rw [onto_eq]; rfl)
  have hturned (v : Part) : v.Upholds v.turn := upholds_ite (upholds_takeMove ..) (.refl v)
  have hrendered (v : Part) : v.Upholds v.tickRenders.refreshPins := upholds_of_records rfl
  exact ((honto.trans (hturned _)).trans (hrendered _)).trans (upholds_ringTest _)

/-! ### Guard and SAFE (R154 to R159) -/

theorem upholds_guardSet (period rate : Option Nat) (p : Part) : p.Upholds (p.guardSet period rate) := by
  have hset (g : Guard) : p.Upholds { p with guard := g } := upholds_of_records rfl
  unfold Part.guardSet
  simp only
  split
  · exact hset _
  · exact upholds_ite (hset _) ((hset _).raise _)

theorem upholds_keepalive (v : Nat) (p : Part) : p.Upholds (p.keepalive v) := upholds_ite (.refl p) (upholds_of_records rfl)

/-- An ARMED entry is defined, so that it may be LOADED again. -/
theorem upholds_unarm {e : Nat} {p : Part} (h : (p.entry e).state = .armed) {x : Entry}
    (hx : x.definition = (p.entry e).definition) : p.Upholds (p.enterEntry e .loaded x) := by
  refine upholds_enterEntry ⟨hx, fun hs => ?_⟩
  have hdefined := hs.1 (by rw [h]; exact EntryState.noConfusion)
  exact sound_of_defined (hx ▸ hdefined) EntryState.noConfusion EntryState.noConfusion

theorem upholds_safeWaiting (e : Nat) (p : Part) : p.Upholds (p.safeWaiting e).1 := by
  unfold Part.safeWaiting
  simp only
  split
  · rename_i h
    exact upholds_unarm h (by rfl)
  · exact (upholds_recordCause ..).trans (upholds_finish ..)
  · exact .refl p

theorem upholds_safeInserted (e : Nat) (p : Part) : p.Upholds (p.safeInserted e).1 := by
  unfold Part.safeInserted
  simp only
  split
  · rename_i hd _
    exact ((upholds_recordCause ..).trans (upholds_holdBackCloses ..)).beginRelease (Option.isSome_of_mem hd) _
  · rename_i hd _
    exact (upholds_recordCause ..).beginRelease (Option.isSome_of_mem hd) _
  · exact upholds_endActive ..
  · exact .refl p

theorem upholds_setGroup (g : Nat) (x : Group) (p : Part) : p.Upholds (p.setGroup g x) := upholds_of_records rfl

theorem upholds_cancelGroup (g : Nat) (p : Part) : p.Upholds (p.cancelGroup g) :=
  upholds_ite ((upholds_setGroup ..).raise _) (.refl p)

theorem upholds_intoSafe (cause : SafeCause) (p : Part) : p.Upholds (p.intoSafe cause) := by
  have hsafe (x : Option SafeInfo) : p.Upholds { p with safe := x } := upholds_of_records rfl
  exact (hsafe _).raise _

theorem upholds_enterSafe (cause : SafeCause) (p : Part) : p.Upholds (p.enterSafe cause) := by
  unfold Part.enterSafe
  simp only
  refine Part.Upholds.trans ?_ (upholds_setEngine ..)
  refine Part.Upholds.trans ?_ (upholds_foldl (fun _ _ => upholds_ite (.refl _) (upholds_enterState ..)) _ _)
  refine Part.Upholds.settled (Part.Upholds.trans ?_ (upholds_forEach upholds_safeInserted _ _))
  refine Part.Upholds.trans ?_ (upholds_foldl (fun _ _ => upholds_cancelGroup ..) _ _)
  refine Part.Upholds.settled (Part.Upholds.trans ?_ (upholds_forEach upholds_safeWaiting _ _))
  exact upholds_intoSafe cause p

theorem upholds_leaveSafe (p : Part) : p.Upholds p.leaveSafe := by
  have hfreed : p.Upholds ((List.range Config.channels).foldl (fun q c => q.freeChannel c) { p with safe := none }) :=
    Part.Upholds.trans (upholds_of_records (by rfl))
      (upholds_foldl (fun _ _ => upholds_ite (upholds_enterState ..) (.refl _)) _ _)
  unfold Part.leaveSafe
  simp only
  generalize (List.range Config.channels).foldl (fun q c => q.freeChannel c) { p with safe := none } = v at hfreed ⊢
  have hset (g : Guard) : v.Upholds { v with guard := g } := upholds_of_records rfl
  exact (hfreed.trans (hset _)).raise _

theorem upholds_expire (p : Part) : p.Upholds p.expire := by
  have hset (g : Guard) : p.Upholds { p with guard := g } := upholds_of_records rfl
  exact upholds_ite ((hset _).raise _) ((((hset _).raise _).trans (upholds_enterSafe ..)).logError ..)

/-! ### Conditions, monitors and the schedule -/

theorem upholds_armGroup (g : Nat) (c : Condition) (p : Part) : p.Upholds (p.armGroup g c) := by
  have harmed (x : Group) : p.Upholds ((p.setGroup g x).raise (.group g)) := (upholds_setGroup ..).raise _
  unfold Part.armGroup
  simp only
  split
  · exact (harmed _).settled
  · exact harmed _

theorem upholds_timeMet (w : Waiter) (p : Part) : p.Upholds (p.timeMet w) := by
  unfold Part.timeMet
  split <;> split <;> [exact (Part.Upholds.refl p).settled; exact .refl p; exact (Part.Upholds.refl p).settled; exact .refl p]

theorem upholds_acceptTrigger (i : Nat) (p : Part) : p.Upholds (p.acceptTrigger i) :=
  Part.Upholds.settled (upholds_of_records rfl)

theorem upholds_sampleMonitors (p : Part) : p.Upholds p.sampleMonitors :=
  (upholds_forEach (fun _ _ => upholds_of_records (by rfl)) _ p).settled

theorem upholds_setEnables (xs : List CaptureSetting) (p : Part) : p.Upholds (p.setEnables xs) :=
  upholds_foldl (fun _ _ => upholds_of_records (by rfl)) xs p

/-- The batch and the flush interval are no part of what the ring holds. -/
theorem upholds_captureCfg (batch flush : Option Nat) (xs : List CaptureSetting) (p : Part) :
    p.Upholds (p.captureCfg batch flush xs) := by
  have hset (b f : Nat) : p.Upholds { p with capture := { p.capture with batch := b, flush := f } } :=
    ⟨id, id, id, fun _ => ⟨rfl, id⟩⟩
  exact (hset _ _).trans (upholds_setEnables ..)

theorem upholds_armEntry (e : Nat) (p : Part) : p.Upholds (p.armEntry e) := by
  unfold Part.armEntry
  simp only
  split
  · exact .refl p
  · rename_i d hd
    have harmed {x : Entry} (hx : x.definition = (p.entry e).definition) : p.Upholds (p.enterEntry e .armed x) :=
      upholds_enterEntry ⟨hx, fun _ =>
        sound_of_defined (hx ▸ Option.isSome_of_mem hd) EntryState.noConfusion EntryState.noConfusion⟩
    split
    · exact Part.Upholds.settled (harmed (by rfl))
    · exact harmed (by rfl)

theorem upholds_disarmEntry (e : Nat) (p : Part) : p.Upholds (p.disarmEntry e) := by
  unfold Part.disarmEntry
  simp only
  split
  · rename_i h
    exact upholds_unarm h (by rfl)
  · exact ((upholds_recordCause ..).trans (upholds_finish ..)).settled
  · exact (upholds_recordCause ..).trans (upholds_setSeq ..)
  · exact (upholds_endActive ..).settled
  · exact .refl p

theorem upholds_trip (e n : Nat) (p : Part) : p.Upholds (p.trip e n) := by
  have hread (last : Option LastInsertion) : p.Upholds (p.setEntry e { p.entry e with last := last }) :=
    upholds_setEntry (.of_state rfl rfl)
  exact Part.Upholds.settled (((hread _).trans (upholds_endActive e .tripped _)).logError ..)

theorem upholds_toggleChatter (e : Nat) (p : Part) : p.Upholds (p.toggleChatter e) := by
  have hline (d : Electrical) (on : Bool) (l : Nat) (v : Part) : v.Upholds (v.toggleLine d on l) := by
    unfold Part.toggleLine
    split
    · exact upholds_ite (upholds_commandClose ..) (upholds_setLine ..)
    · exact upholds_ite (upholds_setLine ..) (upholds_commandClose ..)
  have hset (r : Option ChatterRun) : p.Upholds (p.setEntry e { p.entry e with chatter := r }) :=
    upholds_setEntry (.of_state rfl rfl)
  unfold Part.toggleChatter
  simp only
  split
  · split
    · exact upholds_ite ((hset _).trans (upholds_foldl (fun _ _ => hline ..) _ _)) (.refl p)
    · exact .refl p
  · exact .refl p

/-! ### The link (R171 to R173, R178) -/

theorem upholds_discardFrame (code : ErrCode) (n : Nat) (count : Counters → Counters) (p : Part) :
    p.Upholds (p.discardFrame code n count) := by
  have hcounted (v : Part) : v.Upholds (v.mapCounters count) := upholds_of_records rfl
  have hhunt (v : Part) : v.Upholds (v.setReceiver .hunt) := upholds_of_records rfl
  exact (((upholds_logError ..).trans (hcounted _)).raise _).trans (hhunt _)

theorem upholds_completeFrame (bytes : List Byte) (p : Part) : p.Upholds (p.completeFrame bytes) :=
  upholds_ite (upholds_ite (upholds_of_records rfl) (upholds_discardFrame ..)) (upholds_discardFrame ..)

theorem upholds_huntCharacter (char : Byte) (p : Part) : p.Upholds (p.huntCharacter char) :=
  upholds_ite (upholds_of_records rfl) (upholds_of_records rfl)

theorem upholds_takeCharacter (char : Byte) (p : Part) : p.Upholds (p.takeCharacter char) := by
  unfold Part.takeCharacter
  split
  · exact upholds_huntCharacter ..
  · exact upholds_ite (upholds_completeFrame ..) (upholds_ite ((upholds_discardFrame ..).trans (upholds_huntCharacter ..))
      (upholds_ite (upholds_discardFrame ..) (upholds_of_records rfl)))

/-- A capture notice takes records out of the ring, and no other notice takes any (R96). -/
theorem upholds_handOver (src : NoticeSource) (p : Part) : p.Upholds (p.handOver src) := by
  have hbatch : p.Upholds { p with capture := p.capture.afterBatch } := by
    refine ⟨fun hring => ?_, id, id, fun _ => ⟨rfl, id⟩⟩
    show (p.capture.ring.drop 32).length ≤ 512
    rw [List.length_drop]
    omega
  exact upholds_ite hbatch (.refl p)

theorem upholds_startTransmission (p : Part) : p.Upholds p.startTransmission := by
  have hunqueued (src : NoticeSource) : p.Upholds (p.unqueue src) := upholds_of_records rfl
  have hbegun (f : OutFrame) (v : Part) : v.Upholds (v.beginFrame f) := upholds_of_records rfl
  unfold Part.startTransmission
  split
  · exact upholds_of_records rfl
  · split
    · exact ((hunqueued _).trans (upholds_handOver ..)).trans (hbegun ..)
    · exact .refl p
  · exact .refl p

end Sys2Proof.Machine
end

section
/-! SUPPORT. The records kept sound by every command (R93, R126, R127, R136, R164). -/

namespace Sys2Proof.Machine

open Sys2Proof

/-- A reset empties the ring, the short budget, the log and the entries. -/
theorem afterReset_recordsSound (cause : ResetCause) (p : Part) : (p.afterReset cause).RecordsSound := by
  have hlog : ClassRecord.none.Sound := ⟨Nat.zero_le _, by simp [ClassRecord.none]⟩
  refine ⟨⟨Nat.zero_le _, Nat.zero_le _⟩, ⟨hlog, hlog, hlog⟩, fun x hx => ?_⟩
  rw [List.eq_of_mem_replicate hx]
  exact empty_sound

/-- An entry written anew by a definition, or deleted, is sound, whatever it was (R129, R133). -/
theorem setEntry_recordsSound {e : Nat} {x : Entry} {p : Part} (hp : p.RecordsSound) (hx : x.Sound) :
    (p.setEntry e x).RecordsSound := by
  obtain ⟨hring, hlog, hentries⟩ := hp
  refine ⟨hring, hlog, fun y hy => ?_⟩
  rcases List.mem_or_eq_of_mem_set hy with hy | rfl
  · exact hentries y hy
  · exact hx

section
variable {s : State}

/-- A request whose acceptance upholds the records keeps them sound. -/
theorem request_recordsSound {c : Instr} {tag : Nat} {act : Part → Verdict} (hs : s.part.RecordsSound)
    (h : ∀ p : Part, (act p).Accepts p.Upholds) : Leaves Part.RecordsSound (request c tag act s) := by
  refine leaves_request (fun p l hp => (upholds_of_records (q := { p with link := l }) rfl).recordsSound hp)
    (fun p hp => ?_) hs
  have haccepts := h p
  cases hv : act p with
  | refuse r => trivial
  | ack b q =>
    rw [hv] at haccepts
    exact Part.Upholds.recordsSound haccepts hp

/-- A checked request, likewise. -/
theorem request_checked_recordsSound {c : Instr} {tag : Nat} {checks : Part → List (Bool × Refused)} {body : Part → Body}
    {after : Part → Part} (hs : s.part.RecordsSound) (h : ∀ p : Part, p.Upholds (after p)) :
    Leaves Part.RecordsSound (request c tag (fun p => checked (checks p) (.ack (body p) (after p))) s) :=
  request_recordsSound hs fun p => accepts_checked fun _ => h p

theorem acted_recordsSound {q : Part} (hs : s.part.RecordsSound) (h : s.part.Upholds q) :
    Leaves Part.RecordsSound (acted s q) := leaves_acted (h.recordsSound hs)

theorem onUnit_recordsSound {n units : Nat} {act : Part → Part} (hs : s.part.RecordsSound)
    (h : ∀ p : Part, p.Upholds (act p)) : Leaves Part.RecordsSound (onUnit n units act s) :=
  leaves_onUnit ((h s.part).recordsSound hs)

end

section
variable {s : State} (hs : s.part.RecordsSound)
include hs

/-- ENTRY_DEFINE leaves its entry LOADED with a definition. -/
theorem entryDefine_recordsSound (tag : Nat) (r : RawEntry) : Leaves Part.RecordsSound (execEntryDefine tag r s) := by
  refine leaves_request (fun p l hp => (upholds_of_records (q := { p with link := l }) rfl).recordsSound hp)
    (fun p hp => accepts_checked fun _ => ?_) hs
  exact (upholds_raise ..).recordsSound
    (setEntry_recordsSound hp (sound_of_defined rfl EntryState.noConfusion EntryState.noConfusion))

/-- ENTRY_DELETE leaves its entry EMPTY. -/
theorem entryDelete_recordsSound (tag e : Nat) : Leaves Part.RecordsSound (execEntryDelete tag e s) := by
  refine leaves_request (fun p l hp => (upholds_of_records (q := { p with link := l }) rfl).recordsSound hp)
    (fun p hp => accepts_checked fun _ => ?_) hs
  have hset : (p.setEntry e Entry.empty).RecordsSound := setEntry_recordsSound hp empty_sound
  show (p.enterEntry e .empty Entry.empty).RecordsSound
  unfold Part.enterEntry
  simp only
  split
  · exact hset
  · exact (upholds_raise ..).recordsSound hset

theorem transmitEnd_recordsSound : Leaves Part.RecordsSound (execTransmitEnd s) := by
  refine leaves_acted ?_
  split
  · split
    · split
      · exact afterReset_recordsSound .link _
      · exact (upholds_of_records (by rfl)).recordsSound hs
    · exact hs
  · exact hs

theorem badKind_recordsSound (f : Frame) : Leaves Part.RecordsSound (execBadKind f s) := by
  unfold execBadKind
  split
  · rename_i r p _ hp
    have hrecords : p.records = s.part.records := by
      unfold Part.takeFrame at hp
      split at hp
      · split at hp
        · split at hp
          · obtain rfl := Option.some.inj hp
            rfl
          · cases hp
        · obtain rfl := Option.some.inj hp
          rfl
      · cases hp
    exact acted_recordsSound hs (upholds_of_records hrecords)
  · exact acted_recordsSound hs (.refl _)

/-- The requests. -/
theorem request_exec_recordsSound {i : Instr} (hi : requestTag i ≠ none) : Leaves Part.RecordsSound (exec i s) := by
  cases i with
  | statusGet tag => exact request_recordsSound hs fun p => .refl p
  | linkReset tag => exact request_recordsSound hs fun p => upholds_of_records (by rfl)
  | noticeLevel tag kind index level => exact request_checked_recordsSound hs fun p => upholds_of_records (by rfl)
  | errlogGet tag => exact request_recordsSound hs fun p => .refl p
  | errlogClear tag cls =>
    refine request_recordsSound hs fun p => ?_
    split
    · trivial
    · exact upholds_clearClass _ p
  | guardSet tag period rate => exact request_checked_recordsSound hs fun p => upholds_guardSet period rate p
  | keepalive tag value => exact request_recordsSound hs fun p => upholds_keepalive value p
  | safeEnter tag => exact request_recordsSound hs fun p => upholds_ite (.refl p) (upholds_enterSafe .request p)
  | safeLeave tag =>
    refine request_recordsSound hs fun p => ?_
    split
    · exact accepts_checked fun _ => upholds_leaveSafe p
    · exact .refl p
  | engineGet tag => exact request_recordsSound hs fun p => .refl p
  | engineSpeed tag target rate => exact request_checked_recordsSound hs fun p => upholds_setEngine _ p
  | engineMode tag mode channel => exact request_checked_recordsSound hs fun p => upholds_engineMode _ channel p
  | engineAngleSet tag angle cycle => exact request_checked_recordsSound hs fun p => upholds_of_records (by rfl)
  | engineFollowCfg tag counts offset tolerance =>
    exact request_checked_recordsSound hs fun p => upholds_of_records (by rfl)
  | channelConfig tag channel config => exact request_checked_recordsSound hs fun p => upholds_configure channel _ p
  | channelStart tag channel => exact request_checked_recordsSound hs fun p => upholds_startChannel channel p
  | channelStop tag channel => exact request_checked_recordsSound hs fun p => upholds_enterState ..
  | channelDisable tag channel => exact request_checked_recordsSound hs fun p => upholds_disableChannel channel p
  | channelGet tag channel => exact request_checked_recordsSound hs fun p => .refl p
  | wheelDefine tag index pattern => exact request_checked_recordsSound hs fun p => upholds_of_records (by rfl)
  | segAppend tag channel count records => exact request_checked_recordsSound hs fun p => upholds_of_records (by rfl)
  | loopBreak tag channel =>
    refine request_recordsSound hs fun p => ?_
    split
    · trivial
    · dsimp only
      split
      · trivial
      · split
        · exact upholds_breakLoop channel p
        · trivial
  | slotConfig tag slot kind byte2 byte3 => exact request_checked_recordsSound hs fun p => upholds_of_records (by rfl)
  | slotGet tag slot =>
    refine request_recordsSound hs fun p => ?_
    split
    · exact .refl p
    · exact accepts_checked fun _ => .refl p
  | triggerCfg tag input width => exact request_checked_recordsSound hs fun p => upholds_of_records (by rfl)
  | groupArm tag group condition => exact request_checked_recordsSound hs fun p => upholds_armGroup group _ p
  | groupCancel tag group => exact request_checked_recordsSound hs fun p => upholds_cancelGroup group p
  | monitorConfig tag monitor high low => exact request_checked_recordsSound hs fun p => upholds_of_records (by rfl)
  | monitorRead tag monitor =>
    refine request_recordsSound hs fun p => ?_
    split
    · exact upholds_of_records (by rfl)
    · exact accepts_checked fun _ => upholds_of_records (by rfl)
  | captureCfg tag batch flush listLength settings =>
    exact request_checked_recordsSound hs fun p => upholds_captureCfg batch flush settings p
  | patrolCfg tag settle interval wear =>
    exact request_checked_recordsSound hs fun p => upholds_patrolCfg settle interval wear p
  | cellRestore tag line cell => exact request_checked_recordsSound hs fun p => upholds_restoreCells line _ p
  | matrixGet tag line =>
    refine request_recordsSound hs fun p => ?_
    split
    · exact .refl p
    · exact accepts_checked fun _ => .refl p
  | matrixClear tag =>
    refine request_recordsSound hs fun p => ?_
    split
    · exact .refl p
    · exact accepts_checked fun _ => upholds_beginRestore p
  | entryDefine tag definition => exact entryDefine_recordsSound hs tag definition
  | entryArm tag entry => exact request_checked_recordsSound hs fun p => upholds_armEntry entry p
  | entryDisarm tag entry => exact request_checked_recordsSound hs fun p => upholds_disarmEntry entry p
  | entryDelete tag entry => exact entryDelete_recordsSound hs tag entry
  | entryGet tag entry =>
    refine request_recordsSound hs fun p => ?_
    split
    · exact .refl p
    · exact accepts_checked fun _ => .refl p
  | _ => exact absurd rfl hi

/-- The events, and BAD_KIND. -/
theorem event_exec_recordsSound {i : Instr} (hi : requestTag i = none) : Leaves Part.RecordsSound (exec i s) := by
  cases i with
  | badKind frame => exact badKind_recordsSound hs frame
  | frameReceived last =>
    refine acted_recordsSound hs ?_
    split
    · exact upholds_ite (upholds_takeCharacter ..) (.refl _)
    · exact .refl _
  | linkFraming =>
    refine acted_recordsSound hs ?_
    split
    · exact upholds_of_records (by rfl)
    · exact upholds_ite ((upholds_discardFrame ..).of_records (by rfl)) (upholds_discardFrame ..)
  | frameLengthError second =>
    refine acted_recordsSound hs ?_
    split
    · exact upholds_ite (upholds_takeCharacter ..) (.refl _)
    · exact .refl _
  | linkTruncated =>
    refine acted_recordsSound hs ?_
    split
    · exact upholds_ite (upholds_discardFrame ..) (.refl _)
    · exact .refl _
  | transmitStart => exact acted_recordsSound hs (upholds_startTransmission _)
  | transmitEnd => exact transmitEnd_recordsSound hs
  | powerOn => exact leaves_acted (afterReset_recordsSound .powerOn _)
  | supplyDip => exact leaves_acted (afterReset_recordsSound .supplyDip _)
  | microsecondTick changes => exact acted_recordsSound hs (upholds_tick changes _)
  | rigTimeHold changes => exact acted_recordsSound hs (upholds_ite (upholds_tick changes _) (.refl _))
  | millisecondUpdate =>
    exact acted_recordsSound hs
      (upholds_ite (Part.Upholds.trans (upholds_of_records (by rfl)) (upholds_setEngine ..)) (.refl _))
  | encoderCount a b =>
    refine acted_recordsSound hs ?_
    split
    · exact Part.Upholds.trans (upholds_of_records (by rfl)) (upholds_takeMove _ _)
    · exact upholds_of_records (by rfl)
  | indexPulse z =>
    have hpin : s.part.Upholds { s.part with pins := { s.part.pins with encZ := z } } := upholds_of_records rfl
    exact acted_recordsSound hs (upholds_ite (hpin.trans (upholds_indexPulse _)) hpin)
  | indexMissing =>
    have hmark : s.part.Upholds { s.part with engine := { s.part.engine with missingMark := true } } :=
      upholds_of_records rfl
    exact acted_recordsSound hs (upholds_ite (hmark.logError ..) (.refl _))
  | levelTick => exact acted_recordsSound hs (upholds_ite (upholds_levelTick _) (.refl _))
  | pwmPeriodEnd channel => exact onUnit_recordsSound hs fun p => upholds_endPwmPeriod channel p
  | pulsePeriodEnd channel => exact onUnit_recordsSound hs fun p => upholds_endPulsePeriod channel p
  | pulseTrainStart channel => exact onUnit_recordsSound hs fun p => upholds_ite (upholds_putChannel ..) (.refl p)
  | channelRunStart channel => exact onUnit_recordsSound hs fun p => (upholds_runStart channel p).settled
  | segmentEnd channel => exact onUnit_recordsSound hs fun p => upholds_ite (upholds_endSegment channel p).settled (.refl p)
  | angleSegmentEnd channel =>
    exact onUnit_recordsSound hs fun p => upholds_ite (upholds_endSegment channel p).settled (.refl p)
  | channelResume channel => exact onUnit_recordsSound hs fun p => (upholds_resume channel p).settled
  | conditionAtTime waiter => cases waiter <;> exact onUnit_recordsSound hs fun p => upholds_timeMet _ p
  | triggerAccept input =>
    simp only [exec, execTriggerAccept]
    exact onUnit_recordsSound hs fun p => upholds_ite (upholds_acceptTrigger input p) (.refl p)
  | monitorSample =>
    have hmarked : s.part.Upholds { s.part with marks := { s.part.marks with monitor := false } } := upholds_of_records rfl
    exact acted_recordsSound hs (upholds_ite (hmarked.trans (upholds_sampleMonitors _)) (.refl _))
  | captureFlush =>
    have hmarked : s.part.Upholds { s.part with marks := { s.part.marks with flush := false } } := upholds_of_records rfl
    exact acted_recordsSound hs (upholds_ite (hmarked.raise _) (.refl _))
  | currentReading =>
    have hmarked : s.part.Upholds { s.part with marks := { s.part.marks with current := false } } := upholds_of_records rfl
    exact acted_recordsSound hs (upholds_ite (hmarked.trans (upholds_readCurrents _)) (.refl _))
  | trip entry =>
    simp only [exec, execTrip]
    refine onUnit_recordsSound hs fun p => ?_
    split
    · exact upholds_trip entry _ p
    · exact .refl p
  | stepReadback owner =>
    cases owner with
    | entry e => exact onUnit_recordsSound hs fun p => (upholds_stepReadback e p).settled
    | restore => exact acted_recordsSound hs (upholds_restoreReadback _)
  | heldCloseGiven line => exact onUnit_recordsSound hs fun p => upholds_giveHeldClose line p
  | fastReleaseReadback entry => exact onUnit_recordsSound hs fun p => (upholds_fastReadback entry p).settled
  | isolationReadback line => exact onUnit_recordsSound hs fun p => (upholds_isolationReadback line p).settled
  | patrolCheck => exact acted_recordsSound hs (upholds_patrolStep _).settled
  | chatterToggle entry => exact onUnit_recordsSound hs fun p => upholds_toggleChatter entry p
  | entryMissed entry =>
    simp only [exec, execEntryMissed]
    exact onUnit_recordsSound hs fun p => upholds_ite (upholds_endUnclaimed entry .missed p).settled (.refl p)
  | durationTimeEnd entry =>
    simp only [exec, execDurationTimeEnd]
    exact onUnit_recordsSound hs fun p => upholds_ite (upholds_endActive entry .completed p).settled (.refl p)
  | durationAngleEnd entry =>
    simp only [exec, execDurationAngleEnd]
    exact onUnit_recordsSound hs fun p => upholds_ite (upholds_endActive entry .completed p).settled (.refl p)
  | guardExpiry => exact acted_recordsSound hs (upholds_ite (upholds_expire _) (.refl _))
  | characterReceived char => exact acted_recordsSound hs (upholds_takeCharacter char _)
  | _ => cases hi

end

/-- Settles O60: a request and an event each keep the records sound, and an idle step changes nothing. -/
theorem recordsStaySound : Obligations.RecordsStaySound := by
  intro s t hring hlog hentries hstep
  have hs : s.part.RecordsSound := ⟨hring, hlog, hentries⟩
  unfold step at hstep
  split at hstep
  · cases hstep
    exact hs
  · rename_i i rest _
    by_cases hi : requestTag i = none
    · exact event_exec_recordsSound (s := { s with pending := rest }) hs hi t hstep
    · exact request_exec_recordsSound (s := { s with pending := rest }) hs hi t hstep

end Sys2Proof.Machine
end

section
/-! SUPPORT. The capture ring, CAPTURE_CFG and CAPTURE_FLUSH (R93 to R95, R97). -/

namespace Sys2Proof.Machine

open Sys2Proof

/-! ### A record offered (R93 to R95) -/

theorem leads_capture (m : Nat) (up : Bool) (p : Part) : Leads 1 [.capture m up] p (p.offer m up) := .task rfl (.nil _)

theorem settleAll_capture (m : Nat) (up : Bool) (p : Part) : settleAll (p, [.capture m up]) = p.offer m up :=
  settleAll_of_leads (leads_capture m up p) (by decide)

theorem queued_eq_false {src : NoticeSource} {p : Part} (h : ∀ n ∈ p.link.notices, n.source ≠ src) : p.queued src = false :=
  Bool.eq_false_iff.mpr fun hq => by
    obtain ⟨n, hn, hsrc⟩ := (queued_iff src p).mp hq
    exact h n hn hsrc

/-- The flush interval is reached by the oldest record's age (R95). -/
theorem flushDue_iff (p : Part) :
    p.flushDue = true ↔ ∃ r ∈ p.capture.ring.head?, r.tick + p.capture.flush * 1000 ≤ p.clock.ticks := by
  unfold Part.flushDue
  cases p.capture.ring with
  | nil => simp
  | cons r rest =>
    simp only [List.head?_cons, Option.mem_some_iff, exists_eq_left']
    exact decide_eq_true_iff

/-- The ring with one more record, its drop mark clear. -/
def Part.ringWith (r : CaptureRecord) (p : Part) : Part :=
  { p with capture := { p.capture with ring := p.capture.ring ++ [r], dropMark := false } }

/-- What R95's test asks of a ring that a record has just joined. -/
theorem captureTest_ringWith (r : CaptureRecord) (p : Part) :
    (p.ringWith r).captureTest =
      if p.queued .capture = false ∧ (p.capture.batch ≤ p.capture.ring.length + 1 ∨
        ∃ x ∈ (p.capture.ring ++ [r]).head?, x.tick + p.capture.flush * 1000 ≤ p.clock.ticks)
      then (p.ringWith r).raise .capture else p.ringWith r := by
  have hring : (p.ringWith r).capture.ring.isEmpty = false := by simp [Part.ringWith]
  have hqueued : (p.ringWith r).queued .capture = p.queued .capture := rfl
  have hbatch : (p.ringWith r).capture.batch ≤ (p.ringWith r).capture.ring.length ↔
      p.capture.batch ≤ p.capture.ring.length + 1 := by simp [Part.ringWith]
  unfold Part.captureTest
  rw [hring, hqueued]
  refine if_congr ?_ rfl rfl
  simp only [Bool.not_false, Bool.true_and, Bool.and_eq_true, Bool.not_eq_true', Bool.or_eq_true, decide_eq_true_eq, hbatch,
    flushDue_iff]
  rfl

/-- The full ring with one more record dropped. -/
def Part.dropped (p : Part) : Part :=
  { p with capture := { p.capture with dropped := min (p.capture.dropped + 1) 65535, dropMark := true } }

theorem offer_of_room {p : Part} (h : p.capture.ring.length < 512) (m : Nat) (up : Bool) :
    p.offer m up = (p.ringWith { monitor := m, up := up, stamp := p.stamp, tick := p.clock.ticks }).captureTest := if_pos h

theorem offer_of_full {p : Part} (h : 512 ≤ p.capture.ring.length) (m : Nat) (up : Bool) :
    p.offer m up =
      if p.capture.dropMark then p.dropped
      else p.dropped.logError .captureDropped (.monitor m) (min (p.capture.dropped + 1) 65535 : Nat) :=
  if_neg (Nat.not_lt.mpr h)

/-- CaptureOffered of O41. -/
theorem captureOffered : Claims.CaptureOffered := by
  intro m up p r drops full joined settled due
  have hsettled : settled = p.offer m up := settleAll_capture m up p
  rw [hsettled]
  refine ⟨fun hroom hdue hno => ?_, fun hroom hnot => ?_, fun hfull hmark => ?_, fun hfull hmark => ?_⟩
  · rw [offer_of_room hroom, captureTest_ringWith]
    exact if_pos ⟨queued_eq_false hno, hdue⟩
  · rw [offer_of_room hroom, captureTest_ringWith]
    refine if_neg fun ⟨hqueued, hdue⟩ => ?_
    rcases hnot with hnot | hnot
    · exact hnot hdue
    · rw [(queued_iff _ _).mpr hnot] at hqueued
      cases hqueued
  · rw [offer_of_full hfull]
    exact if_pos hmark
  · rw [offer_of_full hfull]
    exact if_neg (Bool.eq_false_iff.mp hmark)

/-! ### CAPTURE_CFG's list (R97) -/

/-- The setting at a position, from 0, names a monitor outside 0..15 or one named before, in the list or ahead of it. -/
def SettingBad (seen : List Nat) (xs : List CaptureSetting) (i : Nat) : Prop :=
  ∃ x, xs[i]? = some x ∧ (15 < x.monitor ∨ x.monitor ∈ seen ∨ ∃ j < i, ∃ y, xs[j]? = some y ∧ y.monitor = x.monitor)

section
variable {seen : List Nat} {x : CaptureSetting} {xs : List CaptureSetting}

theorem settingBad_zero : SettingBad seen (x :: xs) 0 ↔ (outside 0 15 x.monitor || seen.contains x.monitor) = true := by
  simp [SettingBad, outside]

theorem settingBad_succ {i : Nat} : SettingBad seen (x :: xs) (i + 1) ↔ SettingBad (x.monitor :: seen) xs i := by
  have hbefore (m : Nat) : (∃ j < i + 1, ∃ y, (x :: xs)[j]? = some y ∧ y.monitor = m) ↔
      x.monitor = m ∨ ∃ j < i, ∃ y, xs[j]? = some y ∧ y.monitor = m := by
    constructor
    · rintro ⟨j, hj, y, hy, hm⟩
      cases j with
      | zero => exact .inl (by rw [Option.some.inj hy]; exact hm)
      | succ j => exact .inr ⟨j, Nat.lt_of_succ_lt_succ hj, y, hy, hm⟩
    · rintro (hm | ⟨j, hj, y, hy, hm⟩)
      · exact ⟨0, Nat.succ_pos i, x, rfl, hm⟩
      · exact ⟨j + 1, Nat.succ_lt_succ hj, y, hy, hm⟩
  simp only [SettingBad, List.getElem?_cons_succ, hbefore, List.mem_cons]
  refine exists_congr fun y => and_congr_right fun _ => or_congr_right ?_
  rw [eq_comm (a := x.monitor)]
  tauto

/-- The fault found is the first faulty setting's, by its position. -/
theorem settingFault_of_first {i : Nat} (h : SettingBad seen xs i) (hfirst : ∀ j < i, ¬SettingBad seen xs j) (position : Nat) :
    settingFault position seen xs = some (position + i) := by
  induction xs generalizing seen i position with
  | nil =>
    obtain ⟨y, hy, _⟩ := h
    cases hy
  | cons x xs ih =>
    unfold settingFault
    cases i with
    | zero => rw [if_pos (settingBad_zero.mp h), Nat.add_zero]
    | succ i =>
      rw [if_neg fun hbad => hfirst 0 (Nat.succ_pos i) (settingBad_zero.mpr hbad),
        ih (settingBad_succ.mp h) fun j hj hbad => hfirst (j + 1) (Nat.succ_lt_succ hj) (settingBad_succ.mpr hbad)]
      exact congrArg some (by omega)

theorem settingFault_of_none (h : ∀ i, ¬SettingBad seen xs i) (position : Nat) : settingFault position seen xs = none := by
  induction xs generalizing seen position with
  | nil => rfl
  | cons x xs ih =>
    unfold settingFault
    rw [if_neg fun hbad => h 0 (settingBad_zero.mpr hbad)]
    exact ih (fun i hbad => h (i + 1) (settingBad_succ.mpr hbad)) _

/-- Settings that name different monitors of 0..15 hold no fault. -/
theorem not_settingBad (hrange : ∀ x ∈ xs, x.monitor ≤ 15) (hdistinct : (xs.map CaptureSetting.monitor).Nodup) (i : Nat) :
    ¬SettingBad [] xs i := by
  rintro ⟨x, hx, hout | hseen | ⟨j, hj, y, hy, hsame⟩⟩
  · exact absurd (hrange x (List.mem_of_getElem? hx)) (Nat.not_le.mpr hout)
  · cases hseen
  · have hread {k : Nat} {z : CaptureSetting} (hz : xs[k]? = some z) : (xs.map CaptureSetting.monitor)[k]? = some z.monitor := by
      rw [List.getElem?_map, hz]
      rfl
    have hlt : j < (xs.map CaptureSetting.monitor).length := (List.getElem?_eq_some_iff.mp (hread hy)).1
    have heq : (xs.map CaptureSetting.monitor)[j]? = (xs.map CaptureSetting.monitor)[i]? :=
      (hread hy).trans ((congrArg some hsame).trans (hread hx).symm)
    exact absurd ((List.getElem?_inj hlt hdistinct).mp heq) hj.ne

end

/-! ### CAPTURE_CFG's effect (R97) -/

section
variable {xs : List CaptureSetting} {p : Part}

/-- The enables are written to the monitors alone. -/
theorem setEnables_eq (xs : List CaptureSetting) (p : Part) :
    p.setEnables xs = { p with monitors := (p.setEnables xs).monitors } := by
  induction xs generalizing p with
  | nil => rfl
  | cons x xs ih =>
    show Part.setEnables xs (p.setMonitor x.monitor _) = _
    rw [ih]
    rfl

theorem setEnables_cons (x : CaptureSetting) (xs : List CaptureSetting) (p : Part) :
    p.setEnables (x :: xs) =
      (p.setMonitor x.monitor { p.monitor x.monitor with captureUp := x.up, captureDown := x.down }).setEnables xs := rfl

/-- A monitor that no setting names keeps its enables. -/
theorem setEnables_monitor_of_not_mem {m : Nat} (h : m ∉ xs.map CaptureSetting.monitor) :
    (p.setEnables xs).monitor m = p.monitor m := by
  induction xs generalizing p with
  | nil => rfl
  | cons x xs ih =>
    obtain ⟨hx, hxs⟩ := not_or.mp (List.mem_cons.not.mp h)
    rw [setEnables_cons, ih hxs, monitor_setMonitor_ne hx]

/-- A monitor that one setting names takes its enables. -/
theorem setEnables_monitor_of_mem (hlen : p.monitors.length = 16) (hrange : ∀ x ∈ xs, x.monitor ≤ 15)
    (hdistinct : (xs.map CaptureSetting.monitor).Nodup) {x : CaptureSetting} (hx : x ∈ xs) :
    (p.setEnables xs).monitor x.monitor = { p.monitor x.monitor with captureUp := x.up, captureDown := x.down } := by
  induction xs generalizing p with
  | nil => cases hx
  | cons y ys ih =>
    obtain ⟨hy, hys⟩ := List.nodup_cons.mp hdistinct
    rw [setEnables_cons]
    rcases List.mem_cons.mp hx with rfl | hmem
    · rw [setEnables_monitor_of_not_mem hy, monitor_setMonitor _ _ _ (by have := hrange x hx; omega)]
    · have hne : x.monitor ≠ y.monitor := fun heq => hy (heq ▸ List.mem_map_of_mem hmem)
      rw [ih (by simp [hlen]) (fun z hz => hrange z (List.mem_cons_of_mem y hz)) hys hmem, monitor_setMonitor_ne hne]

theorem captureCfg_eq (batch flush : Option Nat) (xs : List CaptureSetting) (p : Part) :
    p.captureCfg batch flush xs = Part.setEnables xs { p with
      capture := { p.capture with batch := batch.getD p.capture.batch, flush := flush.getD p.capture.flush } } := rfl

theorem captureCfg_monitor_of_not_mem {batch flush : Option Nat} {m : Nat} (h : m ∉ xs.map CaptureSetting.monitor) :
    (p.captureCfg batch flush xs).monitor m = p.monitor m := by
  rw [captureCfg_eq, setEnables_monitor_of_not_mem h]
  rfl

theorem captureCfg_monitor_of_mem {batch flush : Option Nat} (hlen : p.monitors.length = 16)
    (hrange : ∀ x ∈ xs, x.monitor ≤ 15) (hdistinct : (xs.map CaptureSetting.monitor).Nodup) {x : CaptureSetting} (hx : x ∈ xs) :
    (p.captureCfg batch flush xs).monitor x.monitor =
      { p.monitor x.monitor with captureUp := x.up, captureDown := x.down } := by
  rw [captureCfg_eq]
  refine (setEnables_monitor_of_mem ?_ hrange hdistinct hx).trans rfl
  exact hlen

end

/-- CAPTURE_CFG as its checks in order. -/
theorem captureCfg_verdict {tag : Nat} {batch flush : Option Nat} {n : Nat} {xs : List CaptureSetting} {s : State}
    (ht : s.part.takes (.captureCfg tag batch flush n xs) = true) (htag : tag ≠ 0) :
    let p := s.part.taken (.captureCfg tag batch flush n xs)
    let q := p.captureCfg batch flush xs
    exec (.captureCfg tag batch flush n xs) s = .next (
      if ∃ b, batch = some b ∧ (b < 1 ∨ 32 < b) then s.replied p tag (.refuse (badField 1))
      else if ∃ f, flush = some f ∧ (f < 1 ∨ 100 < f) then s.replied p tag (.refuse (badField 2))
      else if 16 < n ∨ n ≠ xs.length then s.replied p tag (.refuse (badField 3))
      else if (settingFault 1 [] xs).isSome then
        s.replied p tag (.refuse (badRecord .badField 4 ((settingFault 1 [] xs).getD 0)))
      else s.replied q tag (.ack (.captureCfg q.capture.batch q.capture.flush
        (q.monitors.map fun m => (m.captureUp, m.captureDown)) q.capture.ring.length q.capture.dropped))) := by
  intro p q
  refine (request_verdict ht htag _).trans (congrArg Host.Outcome.next ?_)
  simp only [after_checked_cons, checked_nil, after_ack, outsideIf_iff, decide_eq_true_eq]
  rfl

/-- CaptureCfgRefused of O41. -/
theorem captureCfgRefused : Claims.CaptureCfgRefused := by
  intro tag batch flush n xs s ht htag p run no bad1 bad2 bad3 bad4
  have hrun := captureCfg_verdict ht htag
  refine ⟨fun h1 => ?_, fun h1 h2 => ?_, fun h1 h2 h3 => ?_, fun i h1 h2 h3 h4 hfirst => ?_⟩
  · exact hrun.trans (by rw [if_pos h1]; rfl)
  · exact hrun.trans (by rw [if_neg h1, if_pos h2]; rfl)
  · exact hrun.trans (by rw [if_neg h1, if_neg h2, if_pos h3]; rfl)
  · have hbad (k : Nat) : SettingBad [] xs k ↔ bad4 k := by simp [SettingBad, bad4]
    have hfault : settingFault 1 [] xs = some (i + 1) :=
      (settingFault_of_first ((hbad i).mpr h4) (fun j hj hj' => hfirst j hj ((hbad j).mp hj')) 1).trans
        (congrArg some (Nat.add_comm 1 i))
    exact hrun.trans (by rw [if_neg h1, if_neg h2, if_neg h3, hfault]; rfl)

/-! ### CAPTURE_CFG accepted, and CAPTURE_FLUSH (R95, R97) -/

theorem captureFlush_of_not {s : State} (h : ¬s.part.flushWaits = true) : exec .captureFlush s = .next s := by
  show acted s (if s.part.flushWaits then s.part.flushCapture else s.part) = _
  rw [if_neg h]
  rfl

theorem captureFlush_of_waits {s : State} (h : s.part.flushWaits = true) :
    exec .captureFlush s = .next (s.withPart s.part.flushCapture) := by
  show acted s (if s.part.flushWaits then s.part.flushCapture else s.part) = _
  rw [if_pos h]
  rfl

theorem flushWaits_iff (p : Part) : p.flushWaits = true ↔
    p.marks.flush = true ∧ (∃ r ∈ p.capture.ring.head?, r.tick + p.capture.flush * 1000 ≤ p.clock.ticks) ∧
      p.queued .capture = false := by
  rw [Part.flushWaits, Bool.and_eq_true, Bool.and_eq_true, Bool.not_eq_true', flushDue_iff, and_assoc]

/-- CaptureConfiguredAndFlushed of O41. -/
theorem captureConfiguredAndFlushed : Claims.CaptureConfiguredAndFlushed := by
  refine ⟨fun tag batch flush n xs s ht htag => ?_, fun s => ?_⟩
  · intro p hlen hbatch hflush hn hmax hrange hdistinct
    have hcfg : p.captureCfg batch flush xs = { p with
        capture := { p.capture with batch := batch.getD p.capture.batch, flush := flush.getD p.capture.flush }
        monitors := (p.captureCfg batch flush xs).monitors } := (captureCfg_eq batch flush xs p).trans (setEnables_eq xs _)
    refine ⟨p.captureCfg batch flush xs, ?_, hcfg, fun x hx => ?_, fun m hm => ?_⟩
    · have h1 : ¬∃ b, batch = some b ∧ (b < 1 ∨ 32 < b) := fun ⟨b, hb, hout⟩ => by
        obtain ⟨hlo, hhi⟩ := hbatch b hb
        omega
      have h2 : ¬∃ f, flush = some f ∧ (f < 1 ∨ 100 < f) := fun ⟨f, hf, hout⟩ => by
        obtain ⟨hlo, hhi⟩ := hflush f hf
        omega
      have h3 : ¬(16 < n ∨ n ≠ xs.length) := by omega
      have hfault : settingFault 1 [] xs = none := settingFault_of_none (not_settingBad hrange hdistinct) 1
      refine (captureCfg_verdict ht htag).trans ?_
      rw [if_neg h1, if_neg h2, if_neg h3, hfault, if_neg (by simp)]
      rw [congrArg Part.capture hcfg]
    · exact captureCfg_monitor_of_mem hlen hrange hdistinct hx
    · exact captureCfg_monitor_of_not_mem hm
  · intro p
    refine ⟨fun hmark => ?_, fun hmark => ⟨fun r rest hring hage hno => ?_, fun hnot => ?_⟩⟩
    · refine captureFlush_of_not fun hwaits => ?_
      obtain ⟨hmark', _, _⟩ := (flushWaits_iff p).mp hwaits
      rw [hmark] at hmark'
      cases hmark'
    · exact captureFlush_of_waits
        ((flushWaits_iff p).mpr ⟨hmark, ⟨r, by rw [hring]; rfl, hage⟩, queued_eq_false hno⟩)
    · refine captureFlush_of_not fun hwaits => ?_
      obtain ⟨_, ⟨r, hr, hage⟩, hqueued⟩ := (flushWaits_iff p).mp hwaits
      rcases hnot with hyoung | hsome
      · obtain ⟨rest, hring⟩ := List.head?_eq_some_iff.mp hr
        exact absurd hage (Nat.not_le.mpr (hyoung r rest hring))
      · rw [(queued_iff _ _).mpr hsome] at hqueued
        cases hqueued

/-- Settles O41. -/
theorem captureKept : Obligations.CaptureKept := ⟨captureOffered, captureConfiguredAndFlushed, captureCfgRefused⟩

end Sys2Proof.Machine
end

section
/-! SUPPORT. The monitors: MONITOR_CONFIG, MONITOR_READ and MONITOR_SAMPLE (R72, R88 to R93). -/

namespace Sys2Proof.Machine

open Sys2Proof

/-! ### MONITOR_CONFIG and MONITOR_READ (R91, R92) -/

/-- MonitorsConfiguredAndRead of O40. -/
theorem monitorsConfiguredAndRead : Claims.MonitorsConfiguredAndRead := by
  refine ⟨fun tag m high low s ht htag => ?_, fun tag m s ht htag => ?_⟩
  · intro p no
    refine (request_verdict ht htag _).trans (congrArg Host.Outcome.next ?_)
    simp only [after_checked_cons, checked_nil, after_ack, outside_eq_true, decide_eq_true_eq, Nat.not_lt_zero, false_or]
    rfl
  · intro p rewound shown
    refine (request_verdict ht htag _).trans (congrArg Host.Outcome.next ?_)
    by_cases hall : m = 255
    · simp only [if_pos hall, after_ack]
      rfl
    · simp only [if_neg hall, after_checked_cons, checked_nil, after_ack, outside_eq_true, Nat.not_lt_zero, false_or]
      rfl

/-! ### One sample (R88, R89, R91) -/

/-- A monitor's state once it has sampled a value: the hysteresis, or the high threshold alone where it is due to be set. -/
def Monitor.highAt (v : Nat) (x : Monitor) : Bool :=
  if x.toSet then decide (x.highThreshold ≤ v)
  else if x.high then !decide (v ≤ x.lowThreshold) else decide (x.highThreshold ≤ v)

/-- Whether a sampled value makes a monitor cross. -/
abbrev Monitor.Crosses (v : Nat) (x : Monitor) : Prop := x.toSet = false ∧ x.highAt v ≠ x.high

/-- A monitor once it has sampled a value. -/
def Monitor.sampled (now v : Nat) (x : Monitor) : Monitor :=
  { x with
    last := v, minimum := min x.minimum v, maximum := max x.maximum v, sampleTime := now, high := x.highAt v, toSet := false }

theorem sample_eq (now v : Nat) (x : Monitor) :
    x.sample now v = (x.sampled now v, if x.Crosses v then some (x.highAt v) else none) := by
  unfold Monitor.sample Monitor.sampled Monitor.Crosses Monitor.highAt
  cases hset : x.toSet with
  | true => simp
  | false =>
    cases hstate : x.high with
    | true => by_cases hlow : v ≤ x.lowThreshold <;> simp [hlow]
    | false => by_cases hhigh : x.highThreshold ≤ v <;> simp [hhigh]

/-- The voltage a monitor samples: its pin's, held within 0..60,000 (R88). -/
def Part.pinReading (m : Nat) (p : Part) : Nat := min (p.pins.monitors.getD m 0).toNat 60000

/-- What a crossing hands on: its occurrence and, where capture is enabled for it, its record (R90, R93). -/
def crossingTasks (crossed : Nat → Prop) [DecidablePred crossed] (high enabled : Nat → Bool) (m : Nat) : List Task :=
  if crossed m then Task.occur (.monitor m (high m)) :: (if enabled m then [.capture m (high m)] else []) else []

section
variable {p : Part}

/-- What a monitor's sample hands on. -/
def Part.sampleTasks (p : Part) (m : Nat) : List Task :=
  crossingTasks (fun m => (p.monitor m).Crosses (p.pinReading m)) (fun m => (p.monitor m).highAt (p.pinReading m))
    (fun m => if (p.monitor m).highAt (p.pinReading m) then (p.monitor m).captureUp else (p.monitor m).captureDown) m

theorem sampleMonitor_eq (m : Nat) (p : Part) :
    p.sampleMonitor m = (p.setMonitor m ((p.monitor m).sampled p.clock.ticks (p.pinReading m)), p.sampleTasks m) := by
  have hsample : (p.monitor m).sample p.now (monitorReading (p.pins.monitors.getD m 0)) = _ :=
    sample_eq p.clock.ticks (p.pinReading m) (p.monitor m)
  unfold Part.sampleMonitor
  simp only [hsample]
  unfold Part.sampleTasks crossingTasks
  by_cases hcross : (p.monitor m).Crosses (p.pinReading m)
  · simp only [if_pos hcross]
    rfl
  · simp only [if_neg hcross]

/-- A monitor's sample does not depend on another's. -/
theorem sampleTasks_setMonitor {m k : Nat} (h : k ≠ m) (x : Monitor) : (p.setMonitor m x).sampleTasks k = p.sampleTasks k := by
  unfold Part.sampleTasks crossingTasks
  simp only [monitor_setMonitor_ne h]
  rfl

/-! ### All the monitors (R88) -/

/-- The monitors of a list, each with its sample taken. -/
def Part.sampleEach (ms : List Nat) (p : Part) : Part :=
  ms.foldl (fun v m => v.setMonitor m ((v.monitor m).sampled v.clock.ticks (v.pinReading m))) p

theorem sampleEach_cons (m : Nat) (ms : List Nat) (p : Part) :
    p.sampleEach (m :: ms) = (p.setMonitor m ((p.monitor m).sampled p.clock.ticks (p.pinReading m))).sampleEach ms := rfl

theorem forEach_sampleMonitor {ms : List Nat} (h : ms.Nodup) (p : Part) :
    p.forEach (fun m q => q.sampleMonitor m) ms = (p.sampleEach ms, ms.flatMap p.sampleTasks) := by
  induction ms generalizing p with
  | nil => rfl
  | cons m ms ih =>
    obtain ⟨hm, hms⟩ := List.nodup_cons.mp h
    have hrest (x : Monitor) : ms.flatMap (p.setMonitor m x).sampleTasks = ms.flatMap p.sampleTasks :=
      List.flatMap_congr fun k hk => sampleTasks_setMonitor (ne_of_mem_of_not_mem hk hm) x
    rw [forEach_cons, sampleMonitor_eq, ih hms, hrest, sampleEach_cons, List.flatMap_cons]

/-- The samples are written to the monitors alone. -/
theorem sampleEach_eq (ms : List Nat) (p : Part) : p.sampleEach ms = { p with monitors := (p.sampleEach ms).monitors } := by
  induction ms generalizing p with
  | nil => rfl
  | cons m ms ih =>
    rw [sampleEach_cons, ih]
    rfl

theorem sampleEach_length (ms : List Nat) (p : Part) : (p.sampleEach ms).monitors.length = p.monitors.length :=
  foldl_keeps (fun v => v.monitors.length) (fun v m => by simp) ms p

theorem sampleEach_monitor_of_not_mem {ms : List Nat} {m : Nat} (h : m ∉ ms) : (p.sampleEach ms).monitor m = p.monitor m := by
  induction ms generalizing p with
  | nil => rfl
  | cons k ms ih =>
    obtain ⟨hk, hms⟩ := not_or.mp (List.mem_cons.not.mp h)
    rw [sampleEach_cons, ih hms, monitor_setMonitor_ne hk]

theorem sampleEach_monitor_of_mem {ms : List Nat} (h : ms.Nodup) {m : Nat} (hm : m ∈ ms) (hlen : m < p.monitors.length) :
    (p.sampleEach ms).monitor m = (p.monitor m).sampled p.clock.ticks (p.pinReading m) := by
  induction ms generalizing p with
  | nil => cases hm
  | cons k ms ih =>
    obtain ⟨hk, hms⟩ := List.nodup_cons.mp h
    rw [sampleEach_cons]
    rcases List.mem_cons.mp hm with rfl | hmem
    · rw [sampleEach_monitor_of_not_mem hk, monitor_setMonitor _ _ _ hlen]
    · have hne : m ≠ k := fun heq => hk (heq ▸ hmem)
      rw [ih hms hmem (by simpa using hlen), monitor_setMonitor_ne hne]
      rfl

/-- Every monitor with its sample taken, as one table. -/
theorem sampleEach_all (h : p.monitors.length = 16) : p.sampleEach (List.range 16) =
    { p with monitors := (List.range 16).map fun m => (p.monitor m).sampled p.clock.ticks (p.pinReading m) } := by
  have hlen : (p.sampleEach (List.range 16)).monitors.length = 16 := (sampleEach_length _ p).trans h
  have htable : (p.sampleEach (List.range 16)).monitors =
      (List.range 16).map fun m => (p.monitor m).sampled p.clock.ticks (p.pinReading m) := by
    have hread {m : Nat} (hm : m < 16) : (p.sampleEach (List.range 16)).monitor m = _ :=
      sampleEach_monitor_of_mem List.nodup_range (List.mem_range.mpr hm) (h ▸ hm)
    refine List.ext_getElem (by rw [hlen, List.length_map, List.length_range]) fun m hm _ => ?_
    rw [List.getElem_map, List.getElem_range, ← hread (hlen ▸ hm), Part.monitor, List.getD_eq_getElem _ _ hm]
  rw [sampleEach_eq, htable]

end

/-! ### Records offered while other state changes (R93, R94) -/

/-- A part with another's marks, monitors and slots. -/
def Part.dressed (p u : Part) : Part := { p with marks := u.marks, monitors := u.monitors, slots := u.slots }

section
variable {p u : Part}

theorem raise_dressed (src : NoticeSource) (p u : Part) : (p.dressed u).raise src = (p.raise src).dressed u := by
  by_cases hoff : p.link.levels.of src = 7
  · rw [raise_of_off hoff]
    exact raise_of_off (p := p.dressed u) hoff
  · cases hqueued : p.queued src with
    | true =>
      rw [raise_of_queued hoff hqueued]
      exact raise_of_queued (p := p.dressed u) hoff hqueued
    | false =>
      rw [raise_of_new hoff hqueued]
      exact raise_of_new (p := p.dressed u) hoff hqueued

theorem captureTest_dressed (p u : Part) : (p.dressed u).captureTest = p.captureTest.dressed u := by
  refine Eq.trans ?_ (apply_ite (Part.dressed · u) _ _ _).symm
  exact if_congr Iff.rfl (raise_dressed .capture p u) rfl

theorem logError_dressed (code : ErrCode) (sub : Subject) (d : Int) (p u : Part) :
    (p.dressed u).logError code sub d = (p.logError code sub d).dressed u :=
  let g : Logging := { code := code, subject := sub, detail := d, stamp := p.stamp }
  raise_dressed (.cls code.cls) { p with log := p.log.write ((p.log.of code.cls).add g) code.cls } u

/-- A record's offer neither reads nor writes the marks, the monitors and the slots. -/
theorem offer_dressed (m : Nat) (up : Bool) (p u : Part) : (p.dressed u).offer m up = (p.offer m up).dressed u := by
  rcases Nat.lt_or_ge p.capture.ring.length 512 with hroom | hfull
  · rw [offer_of_room hroom, ← captureTest_dressed]
    exact offer_of_room (p := p.dressed u) hroom m up
  · rw [offer_of_full hfull]
    refine (offer_of_full (p := p.dressed u) hfull m up).trans (Eq.trans ?_ (apply_ite (Part.dressed · u) _ _ _).symm)
    exact if_congr Iff.rfl rfl (logError_dressed _ _ _ p.dropped u)

theorem raise_eq (src : NoticeSource) (p : Part) : p.raise src = { p with link := (p.raise src).link } := by
  unfold Part.raise
  split
  · rfl
  · split <;> rfl

theorem captureTest_eq (p : Part) : p.captureTest = { p with link := p.captureTest.link } := by
  unfold Part.captureTest
  split
  · exact raise_eq .capture p
  · rfl

/-- A record's offer writes the capture ring, the log and the link alone. -/
theorem offer_eq (m : Nat) (up : Bool) (p : Part) : p.offer m up =
    { p with capture := (p.offer m up).capture, log := (p.offer m up).log, link := (p.offer m up).link } := by
  rcases Nat.lt_or_ge p.capture.ring.length 512 with hroom | hfull
  · rw [offer_of_room hroom, captureTest_eq]
    rfl
  · rw [offer_of_full hfull]
    split
    · rfl
    · rw [Part.logError, raise_eq]
      rfl

end

/-! ### Crossings that nothing waits for (R72, R90, R93) -/

theorem monitor_matchesOcc {m k : Nat} {up up' : Bool} :
    (Source.monitor m up).matchesOcc (.monitor k up') = true ↔ m = k ∧ up = up' := by
  simp [Source.matchesOcc]

theorem matchesOcc_monitor_of_ne {src : Source} (h : ∀ m up, src ≠ .monitor m up) (k : Nat) (up : Bool) :
    src.matchesOcc (.monitor k up) = false := by
  cases src with
  | monitor m up' => exact absurd rfl (h m up')
  | _ => rfl

section
variable (crossed : Nat → Prop) [DecidablePred crossed] (high enabled : Nat → Bool)

/-- The records that some monitors' crossings offer, offered. -/
def Part.offerCrossings (ms : List Nat) (p : Part) : Part :=
  ms.foldl (fun v m => if decide (crossed m) && enabled m then v.offer m (high m) else v) p

/-- The occurrences of some monitors' crossings, counted. -/
def Part.countCrossings (ms : List Nat) (u : Part) : Part :=
  ms.foldl (fun v m => if crossed m then v.counted (.monitor m (high m)) else v) u

theorem offerCrossings_cons (m : Nat) (ms : List Nat) (p : Part) : p.offerCrossings crossed high enabled (m :: ms) =
    (if decide (crossed m) && enabled m then p.offer m (high m) else p).offerCrossings crossed high enabled ms := rfl

theorem countCrossings_cons (m : Nat) (ms : List Nat) (u : Part) : u.countCrossings crossed high (m :: ms) =
    (if crossed m then u.counted (.monitor m (high m)) else u).countCrossings crossed high ms := rfl

/-- The records are written to the capture ring, the log and the link alone. -/
theorem offerCrossings_eq (ms : List Nat) (p : Part) : p.offerCrossings crossed high enabled ms =
    { p with
      capture := (p.offerCrossings crossed high enabled ms).capture
      log := (p.offerCrossings crossed high enabled ms).log
      link := (p.offerCrossings crossed high enabled ms).link } := by
  induction ms generalizing p with
  | nil => rfl
  | cons m ms ih =>
    rw [offerCrossings_cons]
    split
    · rw [ih, offer_eq]
    · exact ih p

/-- The counts are written to the slots alone. -/
theorem countCrossings_eq (ms : List Nat) (u : Part) :
    u.countCrossings crossed high ms = { u with slots := (u.countCrossings crossed high ms).slots } := by
  induction ms generalizing u with
  | nil => rfl
  | cons m ms ih =>
    rw [countCrossings_cons]
    split
    · rw [ih]
      rfl
    · exact ih u

variable {p u : Part}

/-- One monitor's crossing counts its occurrence and offers its record. -/
theorem leads_crossing {m : Nat} (hlen : u.slots.length = 16) (hu : ∀ up, (p.dressed u).Unwaited (.monitor m up))
    (hstamp : u.stamp = p.stamp) :
    Leads 2 (crossingTasks crossed high enabled m) (p.dressed u)
      ((p.offerCrossings crossed high enabled [m]).dressed (u.countCrossings crossed high [m])) := by
  unfold crossingTasks Part.offerCrossings Part.countCrossings
  by_cases hcross : crossed m
  · have hcounted : (p.dressed u).counted (.monitor m (high m)) = p.dressed (u.counted (.monitor m (high m))) := by
      unfold Part.counted
      rw [hstamp]
      rfl
    have hoccur : Leads 1 [.occur (.monitor m (high m))] (p.dressed u) (p.dressed (u.counted (.monitor m (high m)))) :=
      hcounted ▸ leads_occur (hu (high m)) hlen fun e => by simp
    simp only [if_pos hcross, decide_eq_true hcross, Bool.true_and, List.foldl_cons, List.foldl_nil]
    cases enabled m with
    | true =>
      rw [if_pos rfl, if_pos rfl, ← offer_dressed]
      exact hoccur.append (leads_capture m (high m) _)
    | false => exact hoccur.mono (by omega)
  · simp only [if_neg hcross, decide_eq_false hcross, Bool.false_and, List.foldl_cons, List.foldl_nil]
    exact (Leads.nil _).mono (by omega)

/-- The crossings of some monitors, one after the other. -/
theorem leads_crossings {ms : List Nat} (hlen : u.slots.length = 16)
    (hu : ∀ m ∈ ms, ∀ up, (p.dressed u).Unwaited (.monitor m up)) (hstamp : u.stamp = p.stamp) :
    Leads (2 * ms.length) (ms.flatMap (crossingTasks crossed high enabled)) (p.dressed u)
      ((p.offerCrossings crossed high enabled ms).dressed (u.countCrossings crossed high ms)) := by
  induction ms generalizing p u with
  | nil => exact .nil _
  | cons m ms ih =>
    have hone := leads_crossing crossed high enabled hlen (hu m List.mem_cons_self) hstamp
    have hoffer := offerCrossings_eq crossed high enabled [m] p
    have hcount := countCrossings_eq crossed high [m] u
    obtain ⟨hlen', hsource⟩ : (u.countCrossings crossed high [m]).slots.length = 16 ∧
        ∀ n, ((u.countCrossings crossed high [m]).slot n).source = (u.slot n).source := by
      unfold Part.countCrossings
      rw [List.foldl_cons, List.foldl_nil]
      split
      · exact ⟨by simp [Part.counted, hlen], counted_source _ u⟩
      · exact ⟨hlen, fun _ => rfl⟩
    have hrest := ih (p := p.offerCrossings crossed high enabled [m]) (u := u.countCrossings crossed high [m]) hlen'
      (fun k hk up => (hu k (List.mem_cons_of_mem m hk) up).of_eq (by rw [hoffer]; rfl)
        (fun g c w hw => by rw [hoffer] at hw; exact hw) hsource)
      (by rw [hoffer, hcount]; exact hstamp)
    rw [List.flatMap_cons]
    exact (hone.append hrest).mono (by rw [List.length_cons]; omega)

/-- A slot that no crossing matches keeps its count. -/
theorem countCrossings_slot_of_no_match {ms : List Nat} {n : Nat} (hlen : n < u.slots.length)
    (h : ∀ m ∈ ms, crossed m → (u.slot n).source.matchesOcc (.monitor m (high m)) = false) :
    (u.countCrossings crossed high ms).slot n = u.slot n := by
  induction ms generalizing u with
  | nil => rfl
  | cons m ms ih =>
    have hrest := fun k hk => h k (List.mem_cons_of_mem m hk)
    rw [countCrossings_cons]
    split
    · rename_i hcross
      have hslot : (u.counted (.monitor m (high m))).slot n = u.slot n := by
        rw [counted_slot hlen, EventSlot.seen, h m List.mem_cons_self hcross]
        rfl
      exact (ih (by simpa [Part.counted] using hlen) (hslot ▸ hrest)).trans hslot
    · exact ih hlen hrest

/-- A slot that one monitor's crossing matches counts it once. -/
theorem countCrossings_slot_of_match {ms : List Nat} (hms : ms.Nodup) {n m : Nat} (hm : m ∈ ms) (hlen : n < u.slots.length)
    (hcross : crossed m) (hsource : (u.slot n).source = .monitor m (high m)) :
    (u.countCrossings crossed high ms).slot n =
      { u.slot n with count := ((u.slot n).count + 1) % 4294967296, last := some (u.stamp, .monitor m) } := by
  induction ms generalizing u with
  | nil => cases hm
  | cons k ms ih =>
    obtain ⟨hk, hms⟩ := List.nodup_cons.mp hms
    rw [countCrossings_cons]
    rcases List.mem_cons.mp hm with rfl | hmem
    · have hseen : (u.counted (.monitor m (high m))).slot n =
          { u.slot n with count := ((u.slot n).count + 1) % 4294967296, last := some (u.stamp, .monitor m) } := by
        rw [counted_slot hlen, EventSlot.seen, if_pos (hsource ▸ monitor_matchesOcc.mpr ⟨rfl, rfl⟩)]
        rfl
      rw [if_pos hcross]
      refine (countCrossings_slot_of_no_match crossed high (by simpa [Part.counted] using hlen) fun j hj _ => ?_).trans hseen
      rw [counted_source, hsource]
      exact Bool.eq_false_iff.mpr fun hmatch => hk ((monitor_matchesOcc.mp hmatch).1 ▸ hj)
    · have hne : m ≠ k := ne_of_mem_of_not_mem hmem hk
      split
      · have hslot : (u.counted (.monitor k (high k))).slot n = u.slot n := by
          rw [counted_slot hlen]
          exact if_neg fun hmatch => hne (monitor_matchesOcc.mp (hsource ▸ hmatch)).1
        rw [ih hms hmem (by simpa [Part.counted] using hlen) (hslot ▸ hsource), hslot]
        rfl
      · exact ih hms hmem hlen hsource

end

/-! ### MONITOR_SAMPLE (R88 to R91) -/

theorem sampleMonitors_eq {p : Part} (h : p.monitors.length = 16) : p.sampleMonitors =
    settleAll ({ p with monitors := (List.range 16).map fun m => (p.monitor m).sampled p.clock.ticks (p.pinReading m) },
      (List.range 16).flatMap p.sampleTasks) := by
  rw [← sampleEach_all h]
  exact congrArg settleAll (forEach_sampleMonitor List.nodup_range p)

/-- MonitorsSampled of O40. -/
theorem monitorsSampled : Claims.MonitorsSampled := by
  intro s p v high crossed enabled sampled
  have hexec : exec .monitorSample s = acted s
      (if p.marks.monitor then ({ p with marks := { p.marks with monitor := false } }).sampleMonitors else p) := rfl
  refine ⟨fun hmark => ?_, fun hmark hlen => ?_⟩
  · rw [hexec, if_neg (Bool.eq_false_iff.mp hmark)]
    rfl
  · have hrun : exec .monitorSample s =
        .next (s.withPart (settleAll (sampled, (List.range 16).flatMap (crossingTasks crossed high enabled)))) := by
      rw [hexec, if_pos hmark, sampleMonitors_eq (by exact hlen)]
      rfl
    refine ⟨hrun, fun hslots hwaits => ?_⟩
    intro offers offered
    have hleads := leads_crossings crossed high enabled (p := p) (u := sampled) (ms := List.range 16) hslots
      (fun m hm up => hwaits m (List.mem_range.mp hm) up) rfl
    have hsettled := settleAll_of_leads hleads (by decide)
    have hoffered : p.offerCrossings crossed high enabled (List.range 16) = offered := by
      simp only [offered, offers, settleAll_capture, List.foldl_filter]
      rfl
    rw [hoffered] at hsettled
    have hcounts := countCrossings_eq crossed high (List.range 16) sampled
    refine ⟨_, hrun.trans (congrArg (Host.Outcome.next ∘ s.withPart) hsettled), fun n hn m up hsource hm => ?_,
      fun n hn hother => ?_, ?_⟩
    · show (sampled.countCrossings crossed high (List.range 16)).slot n = _
      split
      · rename_i hboth
        obtain ⟨hcross, hup⟩ := hboth
        exact countCrossings_slot_of_match crossed high List.nodup_range (List.mem_range.mpr hm) (hslots ▸ hn) hcross
          (hup ▸ hsource)
      · rename_i hnot
        refine countCrossings_slot_of_no_match crossed high (hslots ▸ hn) fun k _ hcross => ?_
        rw [show (sampled.slot n).source = .monitor m up from hsource]
        refine Bool.eq_false_iff.mpr fun hmatch => hnot ?_
        obtain ⟨rfl, hup⟩ := monitor_matchesOcc.mp hmatch
        exact ⟨hcross, hup.symm⟩
    · exact countCrossings_slot_of_no_match crossed high (hslots ▸ hn) fun k _ _ => matchesOcc_monitor_of_ne hother k _
    · have hkeeps := offerCrossings_eq crossed high enabled (List.range 16) p
      rw [hoffered] at hkeeps
      rw [hcounts, hkeeps]
      rfl

/-- Settles O40: MONITOR_CONFIG, MONITOR_READ and MONITOR_SAMPLE. -/
theorem monitorsReadAndSampled : Obligations.MonitorsReadAndSampled := ⟨monitorsConfiguredAndRead, monitorsSampled⟩

end Sys2Proof.Machine
end
